-- ==== Sys2Proof/Config.lean ====
section
/-! DEFINITION. What the manual leaves open as a VALUE (the model's free values), and the part's time base. -/

namespace Sys2Proof.Config

/-- FREE VALUE (log 2, DESIGN CHOICE, safe): the datum of DISTRICT SHORT when the district has no target yet or the yard
no available pressure, so that R89's "target plus the drop margin less the available pressure" has no value. The
argument is the number of free values drawn before it. Nothing constrains it. -/
opaque unstatedShortfall : Nat → Int

/-- Units of the time base in a millisecond. A character takes 16⅔, 8⅓ or 4⅙ ms (R97) and 1 1/24 ms on the host link, so
a unit of 1/24 ms counts every timing of the manual exactly. -/
def unitsPerMs : Nat := 24

/-- A span of milliseconds on the time base. -/
def ms (n : Nat) : Nat := unitsPerMs * n

/-- A span of seconds on the time base. -/
def sec (n : Nat) : Nat := 24000 * n

end Sys2Proof.Config
end

