-- ==== Sys2Proof/Word.lean ====
section
/-! DEFINITION. The word types of the two serial lines: the byte and the 16-bit check (R105). Every other figure of the
yard is a plain integer with its unit (00 section 4.2: all computation is in integers). -/

namespace Sys2Proof

/-- A byte on the host link or on the yard line (10.6). -/
abbrev Byte := BitVec 8

/-- The 16-bit cyclic check (R105). -/
abbrev Check := BitVec 16

end Sys2Proof
end

