-- ==== Sys2Proof/Syntax.lean ====
section
/-! DEFINITION. The commands of the block: one constructor of Instr for each row of spec/opcode_table.json, and the names
of the yard that commands carry. A host request carries its tag and its payload bytes as R173 lays them out, so that every
form of it, the ill-formed too, is an operand. An event whose moment the state does not fix carries the moment, read on
the part's time base (log 3). -/

namespace Sys2Proof

/-- The holders H1 to H6 (00 section 4.4). -/
inductive Holder where
  | h1 | h2 | h3 | h4 | h5 | h6
deriving DecidableEq, Repr

/-- The districts D1 to D8 (00 section 4.4). -/
inductive District where
  | d1 | d2 | d3 | d4 | d5 | d6 | d7 | d8
deriving DecidableEq, Repr

/-- The two valves of a holder (03 section 3.1). -/
inductive Side where
  | inlet | outlet
deriving DecidableEq, Repr

/-- The meters of the accounts: the make meter and each district's (R146). -/
inductive Meter where
  | make
  | district (d : District)
deriving DecidableEq, Repr

/-- The commands, row by row of the table. -/
inductive Instr where
  /-- HOLDER (R3). Host request that describes one holder, making it present with its lift count, half-width and margins, or not present. -/
  | holder (tag : Byte) (payload : List Byte)
  /-- LIFT (R4). Host request that describes the area, stroke and weight step of one lift of a present holder. -/
  | lift (tag : Byte) (payload : List Byte)
  /-- VAPOUR_TABLE (R7). Host request that replaces the nine-entry vapour table; if the description is COMMITTED, every holder's stock is recomputed. -/
  | vapourTable (tag : Byte) (payload : List Byte)
  /-- DISTRICT (R79). Host request that describes one district: presence, booster, floor, ceiling and meter factor. -/
  | district (tag : Byte) (payload : List Byte)
  /-- OUTSTATION (R117). Host request that adds, redescribes or removes one roster entry. -/
  | outstation (tag : Byte) (payload : List Byte)
  /-- POINT (R117). Host request that describes or removes one point of a roster entry. -/
  | point (tag : Byte) (payload : List Byte)
  /-- BIND (R133). Host request that binds a point to a quantity slot or an actuator, or releases that binding. -/
  | bind (tag : Byte) (payload : List Byte)
  /-- LINE_SETTINGS (R97). Host request that sets the yard line bit rate and the reply window. -/
  | lineSettings (tag : Byte) (payload : List Byte)
  /-- COMMIT (R9). Host request that checks the whole description and, if every check passes, forms the derived geometry and sets the description COMMITTED. -/
  | commit (tag : Byte) (payload : List Byte)
  /-- RECOMMISSION (R11). Host request that returns a COMMITTED description to OPEN when the clock is UNSET and the order list is empty. -/
  | recommission (tag : Byte) (payload : List Byte)
  /-- SET_HOLDER_LIMITS (R8). Adjustable setting request for a holder's discord tolerance and lag threshold. -/
  | setHolderLimits (tag : Byte) (payload : List Byte)
  /-- SET_PROFILE (R74). Adjustable setting request for a district's base set-point. -/
  | setProfile (tag : Byte) (payload : List Byte)
  /-- SET_PEAK (R74). Adjustable setting request that puts a district peak slot in use with its five items, or takes it out of use. -/
  | setPeak (tag : Byte) (payload : List Byte)
  /-- SET_TRIM (R80). Adjustable setting request for a district's far-point trim settings; it may clamp the present trim at once. -/
  | setTrim (tag : Byte) (payload : List Byte)
  /-- SET_FEED (R80). Adjustable setting request for a district's feed settings, or for the yard loss allowance. -/
  | setFeed (tag : Byte) (payload : List Byte)
  /-- SET_LAG (R74). Adjustable setting request for the yard-wide rest-day lag. -/
  | setLag (tag : Byte) (payload : List Byte)
  /-- SET_DAY_PATTERN (R72). Adjustable setting request that replaces the rest-day pattern of the seven weekdays. -/
  | setDayPattern (tag : Byte) (payload : List Byte)
  /-- SET_PERIOD_MARK (R77). Adjustable setting request that sets the period mark to a period or to OFF. -/
  | setPeriodMark (tag : Byte) (payload : List Byte)
  /-- SET_CV (R145). Adjustable setting request for the calorific value and the make meter factor. -/
  | setCv (tag : Byte) (payload : List Byte)
  /-- SET_BALANCE_LIMIT (R145). Adjustable setting request for the yard balance limit in permille. -/
  | setBalanceLimit (tag : Byte) (payload : List Byte)
  /-- SET_SCAN (R123). Adjustable setting request for the scan interval. -/
  | setScan (tag : Byte) (payload : List Byte)
  /-- SET_SUBSTITUTE (R135). Adjustable setting request for a slot's range, hold limit, declared value and jump limit, applied to the quantity at once. -/
  | setSubstitute (tag : Byte) (payload : List Byte)
  /-- SET_VALVE_LIMIT (R33). Adjustable setting request for the yard-wide valve travel limit. -/
  | setValveLimit (tag : Byte) (payload : List Byte)
  /-- SET_TIME (R68). Host request that sets the gas-day clock, adjusts the second of a running clock, or resumes or starts a day against the resume point. -/
  | setTime (tag : Byte) (payload : List Byte)
  /-- STOP_CLOCK (R71). Host request that closes the open period PARTIAL and sets the clock UNSET. -/
  | stopClock (tag : Byte) (payload : List Byte)
  /-- FORCE_DAY (R73). Host request that forces the type of the current day or of the next day. -/
  | forceDay (tag : Byte) (payload : List Byte)
  /-- WHEN (R166). Host request that stages a start condition in the qualifier staging slot. -/
  | whenReq (tag : Byte) (payload : List Byte)
  /-- UNTIL (R166). Host request that stages an end condition in the qualifier staging slot. -/
  | untilReq (tag : Byte) (payload : List Byte)
  /-- FILL (R40). Host request for a fill order of a holder or pair, taking the staged qualifiers. -/
  | fill (tag : Byte) (payload : List Byte)
  /-- DRAW (R40). Host request for a draw order of a holder or pair, taking the staged qualifiers. -/
  | draw (tag : Byte) (payload : List Byte)
  /-- FLOAT (R40). Host request for a float order of a holder or pair, taking the staged qualifiers. -/
  | floatReq (tag : Byte) (payload : List Byte)
  /-- CANCEL (R53). Host request that removes a WAITING order or sends an active order to CLOSING. -/
  | cancel (tag : Byte) (payload : List Byte)
  /-- COUPLE (R55). Host request that couples a pair and ends the follower's waiting orders. -/
  | couple (tag : Byte) (payload : List Byte)
  /-- UNCOUPLE (R56). Host request that uncouples a pair. -/
  | uncouple (tag : Byte) (payload : List Byte)
  /-- SHUT_HOLDER (R54). Host request that commands both valves of a holder or pair SHUT and sets their shut pending marks. -/
  | shutHolder (tag : Byte) (payload : List Byte)
  /-- TRIP (R60). Host request that trips the yard with the cause REQUEST. -/
  | trip (tag : Byte) (payload : List Byte)
  /-- CLEAR_TRIP (R63). Host request that returns a TRIPPED yard to NORMAL. -/
  | clearTrip (tag : Byte) (payload : List Byte)
  /-- LINE_RESET (R131). Host request that asks for a long break, clears the command and load lists and resets the roster states. -/
  | lineReset (tag : Byte) (payload : List Byte)
  /-- LOAD_OUTSTATION (R130). Host request that queues a parameter load for one outstation. -/
  | loadOutstation (tag : Byte) (payload : List Byte)
  /-- READ_STATUS (R171). Query that answers the description, clock, trip, accounts, queue and link error status. -/
  | readStatus (tag : Byte) (payload : List Byte)
  /-- READ_HOLDER (R29). Query that answers a holder's record, derived geometry and dynamic figures. -/
  | readHolder (tag : Byte) (payload : List Byte)
  /-- READ_ORDERS (R39). Query that answers every order in the movement order list. -/
  | readOrders (tag : Byte) (payload : List Byte)
  /-- READ_DISTRICT (R81). Query that answers a district's items, settings, dynamic record and the available pressure. -/
  | readDistrict (tag : Byte) (payload : List Byte)
  /-- READ_OUTSTATION (R118). Query that answers a roster entry and its dynamic record. -/
  | readOutstation (tag : Byte) (payload : List Byte)
  /-- READ_QUANTITY (R134). Query that answers a quantity slot's record. -/
  | readQuantity (tag : Byte) (payload : List Byte)
  /-- READ_PERIOD (R143). Query that answers the open period record or a closed one from the ring. -/
  | readPeriod (tag : Byte) (payload : List Byte)
  /-- READ_DAY (R158). Query that answers the current day or the pending day of the accounts. -/
  | readDay (tag : Byte) (payload : List Byte)
  /-- READ_DAY_BOOK (R157). Query that answers a section of the day book entry under the cursor, and may move the cursor. -/
  | readDayBook (tag : Byte) (payload : List Byte)
  /-- TAKE_NOTICE (R170). Host request that answers the oldest notice and removes it, and resets the lost count. -/
  | takeNotice (tag : Byte) (payload : List Byte)
  /-- RESTART (R178). Host request for a warm restart, which begins once its answer has been sent in full. -/
  | restart (tag : Byte) (payload : List Byte)
  /-- COLD_START (R178). Host request for a cold start, which begins once its answer has been sent in full. -/
  | coldStart (tag : Byte) (payload : List Byte)
  /-- UNKNOWN_KIND (R162). A request taken from the queue whose kind is not in the catalogue; it is refused and consumes the staging slot. Operands: the kind byte, the tag, the payload. -/
  | unknownKind (kind tag : Byte) (payload : List Byte)
  /-- REQUEST_FRAME (R161). A whole request frame received on HRX; it is appended to the queue, refused QUEUE FULL, or discarded for its length or check. Operand: the characters received, up to the one that completes the frame. -/
  | requestFrame (bytes : List Byte)
  /-- FRAME_GAP (R161). More than 20 ms pass between two characters of a request frame; the frame is discarded and GAP is counted. -/
  | frameGap
  /-- ANSWER_SENT (R163). An answer frame finishes sending on HTX, and its request leaves the queue. -/
  | answerSent
  /-- POWER_UP (R176). Power comes to VDD or RESET is released; the check word decides between cold start and power restore, and start-up follows. Operand: whether the battery held the store while power was away (R176). -/
  | powerUp (batteryHeld : Bool)
  /-- POWER_FAIL (R176). Power is lost or RESET is asserted; working state is lost and the controller does no work. Operand: whether power failed between a retained item and its check word (R175). -/
  | powerFail (storeTorn : Bool)
  /-- YARD_TRIP_ASSERTED (R59). The YARD TRIP input becomes asserted and the 200 ms watch begins. -/
  | yardTripAsserted (moment : Nat)
  /-- YARD_TRIP_RELEASED (R59). The YARD TRIP input is released, ending the watch. -/
  | yardTripReleased
  /-- YARD_TRIP_WATCH_EXPIRY (R59). The YARD TRIP input has stayed asserted for 200 ms and the yard trips with the cause INPUT. -/
  | yardTripWatchExpiry
  /-- CLOCK_SECOND (R66). Each second of the time base advances the second of the running clock. -/
  | clockSecond
  /-- PERIOD_END (R66). The second count reaches 900 and the period boundary is worked: close, day close if period 95, and start of the next period. -/
  | periodEnd
  /-- STOCK_COMPUTATION_RESULT (R23). The correction unit returns a stock computation; HSU records it, sets the status and hands the reading to MVS. -/
  | stockComputationResult (h : Holder)
  /-- CLOSING_STOCK_RESULT (R25). The correction unit returns a closing stock computation; HSU records it and hands it to SOA. -/
  | closingStockResult (h : Holder)
  /-- METER_VOLUME_RESULT (R148). The correction unit returns a period meter volume; SOA writes it into the record and takes it into its day. Operands: the meter and the period corrected. -/
  | meterVolumeResult (m : Meter) (period : Nat)
  /-- REMAINDER_RESULT (R153). The correction unit returns a day-end remainder volume; when the last one returns, the pending day is balanced and closed. -/
  | remainderResult (m : Meter)
  /-- VALVE_TIMER_EXPIRY (R37). A valve travel timer reaches its limit and the valve has failed. -/
  | valveTimerExpiry (h : Holder) (side : Side)
  /-- BOOSTER_RUN_UP_EXPIRY (R90). A booster run-up timer reaches its limit: a booster failure in BOOSTING, or DIRECT with STOP FAILED in UNBOOSTING. -/
  | boosterRunUpExpiry (d : District)
  /-- ADOPTION_WAIT_EXPIRY (R94). A district's adoption wait reaches the run-up limit and the district is adopted DIRECT. -/
  | adoptionWaitExpiry (d : District)
  /-- SCAN_CYCLE_START (R123). The interval end is reached and a new scan cycle begins, with MARK DAY if owed and then MARK POLL. -/
  | scanCycleStart
  /-- SLEEPER_POLL_WAIT_EXPIRY (R122). The 1 s wait after a sleeper's wake runs out and its READ is begun. -/
  | sleeperPollWaitExpiry
  /-- UNSET_HOLD_TICK (R138). While the clock is UNSET, 900 s pass and each quantity's periods since good rises, with the hold tests made. -/
  | unsetHoldTick
  /-- GUARD_EXPIRY (R98). The line has stood at mark for two character times in GUARD; the line becomes IDLE and a waiting exchange is taken. -/
  | guardExpiry
  /-- FRAME_SENT (R110). The last stop bit of a frame goes out; a MARK ends SENT, and any other frame waits for its reply. -/
  | frameSent
  /-- BREAK_SENT (R99). A break and its mark character have been sent and the driver is released. -/
  | breakSent
  /-- REPLY_WINDOW_EXPIRY (R110). No start bit is seen within the reply window and the exchange ends TIMEOUT. -/
  | replyWindowExpiry
  /-- REPLY_START (R110). The first start bit of a reply is seen in the window; the line becomes RECEIVING and the deadline is set. -/
  | replyStart (moment : Nat)
  /-- REPLY_HEADER_RECEIVED (R111). The reply header and check byte are received and decoded; the deadline is extended, or the line drains on a bad header. Operands: the moment, the two header bytes and the check byte. -/
  | replyHeaderReceived (moment : Nat) (b1 b2 check : Byte)
  /-- REPLY_COMPLETE (R111). The last byte expected of a reply arrives; it is checked and the exchange ends with its outcome. Operands: the moment, and the bytes after the header (payload and payload check). -/
  | replyComplete (moment : Nat) (bytes : List Byte)
  /-- REPLY_DEADLINE_EXPIRY (R110). The reply deadline passes before the reply is complete; a short break is sent and the exchange ends TIMEOUT. -/
  | replyDeadlineExpiry
  /-- STOP_BIT_AT_SPACE (R110). A reply character arrives with its stop bit at space; the reply has stalled and a short break is sent. -/
  | stopBitAtSpace (moment : Nat)
  /-- DRAIN_END (R111). The line stands at mark for two character times in DRAINING, and the exchange ends with its decided outcome. -/
  | drainEnd
  /-- DRAIN_TIMEOUT (R111). The line is still busy at 20 ms plus 37 character times in DRAINING; a short break is sent and the exchange ends. -/
  | drainTimeout
  /-- LINE_HELD (R101). The line stays at space for more than 400 ms; any exchange in flight ends TIMEOUT, LINE HELD is raised and the line is HELD. -/
  | lineHeld
  /-- LINE_HELD_RELEASE (R101). A held line stands at mark for two character times and a long break is sent to recover it. -/
  | lineHeldRelease
  /-- HOST_LINK_CHARACTER (R161). A character arrives on HRX that does not complete a frame: it is passed over while HUNTING, begins a frame and sets IN FRAME on 01h, or is collected (a bad length byte discarding the frame), restarting the 20 ms gap count. -/
  | hostLinkCharacter (moment : Nat) (b : Byte)
  /-- LINE_GOES_TO_SPACE (R101). The yard line goes to space while the part is not driving it, starting the line-held detector and, in GUARD or HELD, beginning the two-character count afresh. -/
  | lineGoesToSpace (moment : Nat)
  /-- LINE_RETURNS_TO_MARK (R101). The yard line returns to mark while the part is not driving it, stopping the line-held detector and starting the count of two character times at mark. -/
  | lineReturnsToMark (moment : Nat)
deriving DecidableEq, Repr

end Sys2Proof
end

