-- ==== Sys2Proof/Machine/State.lean ====
section
/-! DEFINITION. The state of the HY640 as plain data, block by block (00 section 2), the outcomes that are not a next
state, and the state right after a cold start (R13, R31, R64, R78, R96, R116, R132, R144, R160, R172). Figures are
integers in the manual's units (00 section 4.1). -/

namespace Sys2Proof.Machine

/-! ### Collections of a fixed size -/

/-- One item for each holder. -/
structure Holders (α : Type) where
  h1 : α
  h2 : α
  h3 : α
  h4 : α
  h5 : α
  h6 : α
deriving DecidableEq, Repr

def Holders.all {α : Type} (a : α) : Holders α := ⟨a, a, a, a, a, a⟩

def Holders.get {α : Type} (t : Holders α) : Holder → α
  | .h1 => t.h1
  | .h2 => t.h2
  | .h3 => t.h3
  | .h4 => t.h4
  | .h5 => t.h5
  | .h6 => t.h6

def Holders.set {α : Type} (t : Holders α) (h : Holder) (a : α) : Holders α :=
  match h with
  | .h1 => { t with h1 := a }
  | .h2 => { t with h2 := a }
  | .h3 => { t with h3 := a }
  | .h4 => { t with h4 := a }
  | .h5 => { t with h5 := a }
  | .h6 => { t with h6 := a }

/-- H1 to H6 in order. -/
def Holder.list : List Holder := [.h1, .h2, .h3, .h4, .h5, .h6]

/-- One item for each district. -/
structure Districts (α : Type) where
  d1 : α
  d2 : α
  d3 : α
  d4 : α
  d5 : α
  d6 : α
  d7 : α
  d8 : α
deriving DecidableEq, Repr

def Districts.all {α : Type} (a : α) : Districts α := ⟨a, a, a, a, a, a, a, a⟩

def Districts.get {α : Type} (t : Districts α) : District → α
  | .d1 => t.d1
  | .d2 => t.d2
  | .d3 => t.d3
  | .d4 => t.d4
  | .d5 => t.d5
  | .d6 => t.d6
  | .d7 => t.d7
  | .d8 => t.d8

def Districts.set {α : Type} (t : Districts α) (d : District) (a : α) : Districts α :=
  match d with
  | .d1 => { t with d1 := a }
  | .d2 => { t with d2 := a }
  | .d3 => { t with d3 := a }
  | .d4 => { t with d4 := a }
  | .d5 => { t with d5 := a }
  | .d6 => { t with d6 := a }
  | .d7 => { t with d7 := a }
  | .d8 => { t with d8 := a }

/-- D1 to D8 in order. -/
def District.list : List District := [.d1, .d2, .d3, .d4, .d5, .d6, .d7, .d8]

/-- Four like items: lifts 1 to 4, or channels 0 to 3. -/
structure Four (α : Type) where
  a0 : α
  a1 : α
  a2 : α
  a3 : α
deriving DecidableEq, Repr

def Four.all {α : Type} (a : α) : Four α := ⟨a, a, a, a⟩

/-- The item at place 0 to 3 (the last for any greater number). -/
def Four.get {α : Type} (t : Four α) : Nat → α
  | 0 => t.a0
  | 1 => t.a1
  | 2 => t.a2
  | _ => t.a3

def Four.set {α : Type} (t : Four α) (k : Nat) (a : α) : Four α :=
  match k with
  | 0 => { t with a0 := a }
  | 1 => { t with a1 := a }
  | 2 => { t with a2 := a }
  | _ => { t with a3 := a }

def Four.toList {α : Type} (t : Four α) : List α := [t.a0, t.a1, t.a2, t.a3]

/-- The three peak slots of a district, or the three pairs of holders. -/
structure Three (α : Type) where
  a1 : α
  a2 : α
  a3 : α
deriving DecidableEq, Repr

def Three.all {α : Type} (a : α) : Three α := ⟨a, a, a⟩

/-- The item at place 1 to 3 (the last for any other number). -/
def Three.get {α : Type} (t : Three α) : Nat → α
  | 1 => t.a1
  | 2 => t.a2
  | _ => t.a3

def Three.set {α : Type} (t : Three α) (k : Nat) (a : α) : Three α :=
  match k with
  | 1 => { t with a1 := a }
  | 2 => { t with a2 := a }
  | _ => { t with a3 := a }

def Three.toList {α : Type} (t : Three α) : List α := [t.a1, t.a2, t.a3]

/-- The 47 quantity slots (8.1). -/
inductive Slot where
  | baro | yardTemp | outletPress | makePress | makeMeter
  | travel (h : Holder)
  | gasTemp (h : Holder)
  | holderPress (h : Holder)
  | outletOf (d : District)
  | farPress (d : District)
  | meter (d : District)
deriving DecidableEq, Repr

/-- One item for each quantity slot. -/
structure Slots (α : Type) where
  baro : α
  yardTemp : α
  outletPress : α
  makePress : α
  makeMeter : α
  travel : Holders α
  gasTemp : Holders α
  holderPress : Holders α
  outletOf : Districts α
  farPress : Districts α
  meter : Districts α
deriving DecidableEq, Repr

def Slots.get {α : Type} (t : Slots α) : Slot → α
  | .baro => t.baro
  | .yardTemp => t.yardTemp
  | .outletPress => t.outletPress
  | .makePress => t.makePress
  | .makeMeter => t.makeMeter
  | .travel h => t.travel.get h
  | .gasTemp h => t.gasTemp.get h
  | .holderPress h => t.holderPress.get h
  | .outletOf d => t.outletOf.get d
  | .farPress d => t.farPress.get d
  | .meter d => t.meter.get d

def Slots.set {α : Type} (t : Slots α) (q : Slot) (a : α) : Slots α :=
  match q with
  | .baro => { t with baro := a }
  | .yardTemp => { t with yardTemp := a }
  | .outletPress => { t with outletPress := a }
  | .makePress => { t with makePress := a }
  | .makeMeter => { t with makeMeter := a }
  | .travel h => { t with travel := t.travel.set h a }
  | .gasTemp h => { t with gasTemp := t.gasTemp.set h a }
  | .holderPress h => { t with holderPress := t.holderPress.set h a }
  | .outletOf d => { t with outletOf := t.outletOf.set d a }
  | .farPress d => { t with farPress := t.farPress.set d a }
  | .meter d => { t with meter := t.meter.set d a }

/-- The slots in the order of 8.1, the slots of one row taken object by object (R173). -/
def Slot.list : List Slot :=
  [.baro, .yardTemp, .outletPress, .makePress, .makeMeter]
    ++ Holder.list.map .travel ++ Holder.list.map .gasTemp ++ Holder.list.map .holderPress
    ++ District.list.map .outletOf ++ District.list.map .farPress ++ District.list.map .meter

/-- One item for each meter of the accounts. -/
structure Meters (α : Type) where
  make : α
  districts : Districts α
deriving DecidableEq, Repr

def Meters.all {α : Type} (a : α) : Meters α := ⟨a, .all a⟩

def Meters.get {α : Type} (t : Meters α) : Meter → α
  | .make => t.make
  | .district d => t.districts.get d

def Meters.set {α : Type} (t : Meters α) (m : Meter) (a : α) : Meters α :=
  match m with
  | .make => { t with make := a }
  | .district d => { t with districts := t.districts.set d a }

/-- The make meter first and then D1 to D8 (R148). -/
def Meter.list : List Meter := .make :: District.list.map .district

/-- A moment or a span of the part's time base, in units of 1/24 ms (Config.unitsPerMs). -/
abbrev Time := Nat

/-- A timer: IDLE, or RUNNING with its start time and its limit in seconds (R33, R81). -/
inductive Timer where
  | idle
  | running (start : Time) (limit : Nat)
deriving DecidableEq, Repr

/-! ### YDS: the yard description store (01) -/

/-- The description state (R1). -/
inductive DescState where
  | opened | committed
deriving DecidableEq, Repr

/-- One lift: area in dm², stroke in mm, weight step in Pa (R4). -/
structure Lift where
  area : Int
  stroke : Int
  weight : Int
deriving DecidableEq, Repr

/-- A holder record; place k - 1 of lifts is lift k, none while it is not described (R3, R4). -/
structure HolderRec where
  count : Nat
  cup : Int
  topMargin : Int
  landMargin : Int
  lifts : Four (Option Lift)
deriving DecidableEq, Repr

/-- The derived geometry of a holder: Z0, Z1 to Zn, full stroke, top stop, landing point, the bands (R5). -/
structure Geometry where
  zone0 : Int
  zones : List Int
  full : Int
  topStop : Int
  landing : Int
  bands : List (Int × Int)
deriving DecidableEq, Repr

/-- The vapour table E0 to E8 in Pa (R7). -/
structure Vapour where
  e0 : Nat
  e1 : Nat
  e2 : Nat
  e3 : Nat
  e4 : Nat
  e5 : Nat
  e6 : Nat
  e7 : Nat
  e8 : Nat
deriving DecidableEq, Repr

/-- The fixed items of a present district (R79). -/
structure DistrictRec where
  booster : Bool
  floor : Int
  ceiling : Int
  factor : Int
deriving DecidableEq, Repr

/-- The bit rates of the yard line (R97). -/
inductive BitRate where
  | b600 | b1200 | b2400
deriving DecidableEq, Repr

/-- The line settings: bit rate, reply window in ms (R97). -/
structure LineSet where
  rate : BitRate
  window : Nat
deriving DecidableEq, Repr

/-- A point: outstation and channel (R117). -/
structure Point where
  outstation : Nat
  channel : Nat
deriving DecidableEq, Repr

/-- The points of a quantity slot (R133). -/
structure SlotBind where
  primary : Option Point
  standby : Option Point
deriving DecidableEq, Repr

/-- The bindings (R133). -/
structure Bindings where
  slots : Slots SlotBind
  inlet : Holders (Option Point)
  outlet : Holders (Option Point)
  governor : Districts (Option Point)
  booster : Districts (Option Point)
deriving DecidableEq, Repr

/-- SET HOLDER LIMITS, in Pa (R8). -/
structure HolderLimits where
  discordTol : Int
  lagThreshold : Int
deriving DecidableEq, Repr

/-- A peak slot in use: start period, lead, hold, trail, peak value in Pa (R74). -/
structure Peak where
  start : Nat
  lead : Nat
  hold : Nat
  trail : Nat
  value : Int
deriving DecidableEq, Repr

/-- The pressure programme of a district (R74). -/
structure Programme where
  base : Int
  peaks : Three (Option Peak)
deriving DecidableEq, Repr

/-- SET TRIM, in Pa (R80). -/
structure TrimSet where
  farTarget : Int
  farBand : Int
  step : Int
  maxTrim : Int
deriving DecidableEq, Repr

/-- SET FEED of a district: Pa, the run-up limit in seconds (R80). -/
structure FeedSet where
  slew : Int
  drop : Int
  hysteresis : Int
  runUp : Nat
deriving DecidableEq, Repr

/-- SET SUBSTITUTE of a slot (R135). -/
structure Substitute where
  low : Int
  high : Int
  hold : Nat
  declared : Option Int
  jump : Int
deriving DecidableEq, Repr

/-- The type of a gas day (R72). -/
inductive DayType where
  | working | rest
deriving DecidableEq, Repr

/-- The yard description store. All of it is retained but the geometry, which is formed again (R175, R5). -/
structure Yds where
  desc : DescState
  holders : Holders (Option HolderRec)
  geometry : Holders (Option Geometry)
  vapour : Vapour
  districts : Districts (Option DistrictRec)
  line : LineSet
  bind : Bindings
  limits : Holders HolderLimits
  valveLimit : Nat
  programme : Districts Programme
  lag : Nat
  dayPattern : List Bool
  periodMark : Option Nat
  trimSet : Districts TrimSet
  feedSet : Districts FeedSet
  yardLoss : Int
  cv : Int
  makeFactor : Int
  balanceLimit : Int
  scan : Nat
  subs : Slots Substitute
deriving DecidableEq, Repr

/-! ### HSU: the holder stock unit (02) -/

/-- Where a quantity's value comes from (R134). -/
inductive Source where
  | live | standby | held | declared | none
deriving DecidableEq, Repr

/-- A value with its source, as HSU records it (R22). -/
structure Sampled where
  value : Int
  source : Source
deriving DecidableEq, Repr

/-- The status of a stock (R24). -/
inductive Status where
  | good | estimated | unknown
deriving DecidableEq, Repr

/-- A closing stock with its status, the day and the period it closes (R25). -/
structure Closing where
  stock : Option Int
  status : Status
  day : Nat
  period : Nat
deriving DecidableEq, Repr

/-- The dynamic record of a holder (R22). -/
structure HolderDyn where
  travel : Option Sampled
  temp : Option Sampled
  press : Option Sampled
  zone : Nat
  pressure : Int
  stock : Option Int
  status : Status
  clamped : Bool
  closing : Option Closing
  discord : Bool
  outCount : Nat
  inCount : Nat
deriving DecidableEq, Repr

/-- A stock computation handed to CU, with its inputs as they stood (R14). tempSource is none when YARD TEMP stood in. -/
structure StockJob where
  holder : Holder
  lifts : List Lift
  zones : List Int
  travel : Int
  travelSource : Source
  temp : Int
  tempSource : Option Source
  baro : Int
deriving DecidableEq, Repr

/-- A closing stock computation handed to CU (R25). -/
structure ClosingJob where
  job : StockJob
  day : Nat
  period : Nat
deriving DecidableEq, Repr

structure Hsu where
  holders : Holders HolderDyn
  baro : Option Sampled
  stockJobs : List StockJob
  closingJobs : List ClosingJob
deriving DecidableEq, Repr

/-! ### MVS: the movement sequencer (03) -/

/-- The position a valve is commanded to (R33). -/
inductive Commanded where
  | none | shut | cracked | opened
deriving DecidableEq, Repr

/-- The position a valve last reported (R33). -/
inductive Reported where
  | unknown | shut | cracked | opened | moving | fault
deriving DecidableEq, Repr

/-- A valve record (R33). -/
structure ValveRec where
  commanded : Commanded
  reported : Reported
  timer : Timer
deriving DecidableEq, Repr

/-- A valve: the inlet or the outlet of a holder. -/
structure Valve where
  holder : Holder
  side : Side
deriving DecidableEq, Repr

inductive OrderKind where
  | fill | draw | float
deriving DecidableEq, Repr

/-- The start condition of an order (R39). -/
inductive StartCond where
  | absent
  | atPeriod (p : Nat)
  | whenAbove (h : Holder) (x : Int)
  | whenBelow (h : Holder) (x : Int)
deriving DecidableEq, Repr

/-- The end condition of an order (R39). -/
inductive EndCond where
  | absent
  | untilTravel (x : Int)
  | untilStock (v : Int)
  | untilPeriod (p : Nat)
deriving DecidableEq, Repr

/-- The stock direction of a FLOAT (R46). -/
inductive StockDir where
  | unset | rising | falling
deriving DecidableEq, Repr

inductive OrderState where
  | waiting | opening | running | closing
deriving DecidableEq, Repr

/-- End reasons in the order of R39. -/
inductive EndReason where
  | endMet | topStop | landing | cancelled | valveStuck | localHand | readingLost | trip | coupling
deriving DecidableEq, Repr

/-- A movement order (R39). lagOwn is the lag mark of its holder, lagOther that of the follower it also works (R58). -/
structure Order where
  number : Nat
  holder : Holder
  kind : OrderKind
  start : StartCond
  finish : EndCond
  stockDir : StockDir
  standing : Nat
  eligible : Bool
  lagOwn : Bool
  lagOther : Bool
  state : OrderState
  reason : Option EndReason
deriving DecidableEq, Repr

/-- The cause of a trip (R62). -/
inductive TripCause where
  | input | request | overTop (h : Holder)
deriving DecidableEq, Repr

/-- The watch on the YARD TRIP input (R59); spent when the input has tripped the yard and is not yet released. -/
inductive Watch where
  | idle
  | running (since : Time)
  | spent
deriving DecidableEq, Repr

structure Mvs where
  inlets : Holders ValveRec
  outlets : Holders ValveRec
  unmanaged : Holders Bool
  shutPending : Holders Bool
  prevTravel : Holders (Option Int)
  orders : List Order
  coupled : Three Bool
  tripped : Bool
  tripCause : Option TripCause
  watch : Watch
deriving DecidableEq, Repr

/-! ### GDC: the gas-day clock (04) -/

/-- The time of the running clock, with the current day type and the current-period partial mark (R65). -/
structure ClockTime where
  day : Nat
  weekday : Nat
  period : Nat
  second : Nat
  dayType : DayType
  partialMark : Bool
deriving DecidableEq, Repr

/-- The resume point (R65). -/
structure Resume where
  day : Nat
  weekday : Nat
  dayType : DayType
  lastClosed : Option Nat
deriving DecidableEq, Repr

/-- The clock is none while UNSET. -/
structure Gdc where
  clock : Option ClockTime
  forcedNow : Option DayType
  forcedNext : Option DayType
  resume : Option Resume
  markDay : Option Nat
deriving DecidableEq, Repr

/-! ### DGU: the district governing unit (05) -/

inductive FeedState where
  | direct | boosting | boosted | unboosting | short
deriving DecidableEq, Repr

inductive BoosterCmd where
  | none | run | stop
deriving DecidableEq, Repr

inductive BoosterRep where
  | unknown | stopped | running | fault
deriving DecidableEq, Repr

/-- The status of a point entry (R108). -/
inductive PointStatus where
  | good | suspect | fault
deriving DecidableEq, Repr

/-- The last governor outcome (R81). -/
inductive GovOutcome where
  | none | delivered | undelivered | refused | localHand
deriving DecidableEq, Repr

/-- The dynamic record of a district (R81). Profile and trim are retained. -/
structure DistrictDyn where
  profile : Int
  trim : Int
  target : Option Int
  commanded : Option Int
  delivered : Option Int
  govPending : Bool
  govOutcome : GovOutcome
  reported : Option (Int × PointStatus)
  feed : FeedState
  boosterCmd : BoosterCmd
  boosterRep : BoosterRep
  runUp : Timer
  failed : Bool
  hyst : Nat
  adoption : Bool
  adoptWait : Timer
deriving DecidableEq, Repr

structure Dgu where
  districts : Districts DistrictDyn
  available : Option Int
deriving DecidableEq, Repr

/-! ### YLC: the yard line controller (06) -/

inductive LineState where
  | idle | guard | sending | awaitReply | receiving | draining | breaking | held
deriving DecidableEq, Repr

/-- The phase codes of MARK (R102). -/
inductive MarkPhase where
  | poll | order | load | day
deriving DecidableEq, Repr

/-- The command codes of ORDER (R107). -/
inductive CmdCode where
  | valveShut | valveCrack | valveOpen | boosterRun | boosterStop | governorSet
deriving DecidableEq, Repr

/-- The frames the part sends (R102, R106, R107). -/
inductive Frame where
  | mark (p : MarkPhase)
  | read (address : Nat)
  | order (address channel : Nat) (code : CmdCode) (value : Int)
  | load (address param : Nat) (value : Int)
  | probe (address : Nat)
deriving DecidableEq, Repr

/-- An exchange SCS hands to YLC: a frame, or the wake pulse (R98, R99). The long break is asked for apart (R112). -/
inductive Exchange where
  | frame (f : Frame)
  | wake
deriving DecidableEq, Repr

inductive BreakKind where
  | short | wake | long
deriving DecidableEq, Repr

inductive PointKind where
  | measure | meter | valve | booster | governor
deriving DecidableEq, Repr

inductive OutstationKind where
  | gauge | actuator | recorder
deriving DecidableEq, Repr

/-- The report codes of ACK (R107). -/
inductive AckCode where
  | ok | corrected | payloadBad | unknownChannel | localHand | refused
deriving DecidableEq, Repr

/-- A point entry of VALUES: the value as the 24 bits received (R108). -/
structure PointEntry where
  channel : Nat
  status : PointStatus
  raw : BitVec 24
deriving DecidableEq, Repr

/-- The fields of VALUES (R108). -/
structure ValuesReply where
  restarted : Bool
  sleeping : Bool
  latch : Bool
  corrections : Nat
  discards : Nat
  entries : List PointEntry
  latched : List Nat
deriving DecidableEq, Repr

/-- The kinds fitted at an outstation, from IDENT (R109). -/
structure Fitted where
  kind : OutstationKind
  points : Four (Option PointKind)
deriving DecidableEq, Repr

inductive Reply where
  | values (v : ValuesReply)
  | ack (code : AckCode) (channel : Nat)
  | ident (f : Fitted)
deriving DecidableEq, Repr

/-- The outcome of an exchange (R98). GOOD CORRECTED is good with corrected set. -/
inductive ExOutcome where
  | sent
  | good (corrected : Bool) (r : Reply)
  | timeout
  | uncorrectable
  | wrongReply
  | payloadBad
  | aborted
deriving DecidableEq, Repr

/-- The exchange in flight, with the reply window read in ms, the first start bit of the reply, the header taken as its
payload length and whether it was corrected, and the outcome decided while DRAINING or stalled (R98, R110, R111). -/
structure Flight where
  exchange : Exchange
  window : Nat
  replyStart : Time
  header : Option (Nat × Bool)
  decided : Option ExOutcome
deriving DecidableEq, Repr

/-- Who is told when a long break has been sent: line start (R116), LINE RESET (R131), recovery of a held line (R101). -/
structure LongWhy where
  lineStart : Bool
  reset : Bool
  recovery : Bool
deriving DecidableEq, Repr

/-- The yard line controller's items (R98). again: a long break of LINE RESET is asked for and not yet begun, for a break is
going out or the line is in GUARD (R99, R112). -/
structure Ylc where
  line : LineState
  flight : Option Flight
  waiting : List Exchange
  timer : Option Time
  detector : Option Time
  held : Bool
  driving : Bool
  brk : Option BreakKind
  began : Time
  why : LongWhy
  again : Bool
  busy : Time
  charTime : Time
deriving DecidableEq, Repr

/-! ### SCS: the scan sequencer (07) -/

inductive EntryState where
  | unknown | live | suspect | failed | asleep | waking
deriving DecidableEq, Repr

inductive Identity where
  | unchecked | matched | mismatched
deriving DecidableEq, Repr

inductive LoadOutcome where
  | none | pending | done | localHand | refused | failed
deriving DecidableEq, Repr

/-- The error counters of a roster entry (R115). -/
structure Counters where
  corrected : Nat
  uncorrectable : Nat
  payloadBad : Nat
  timeout : Nat
  outCorrections : Nat
  outDiscards : Nat
deriving DecidableEq, Repr

/-- The dynamic record of a roster entry (R118). wakeTime is the time of the wake of a WAKING entry, woken the woken
mark of a FAILED sleeper with its time (R122). -/
structure EntryDyn where
  state : EntryState
  misses : Nat
  failedWait : Nat
  woken : Option Time
  wakeTime : Time
  identity : Identity
  fitted : Option Fitted
  counters : Counters
  lastGood : Option Nat
  load : LoadOutcome
deriving DecidableEq, Repr

/-- A roster entry: its fixed items (retained, R117) and its dynamic record. -/
structure Entry where
  address : Nat
  kind : OutstationKind
  sleeper : Bool
  points : Four (Option PointKind)
  dyn : EntryDyn
deriving DecidableEq, Repr

/-- The owner of a command (R128). -/
inductive Owner where
  | valve (v : Valve)
  | governor (d : District)
  | booster (d : District)
deriving DecidableEq, Repr

/-- A command of the command list (R128); taken is set once the ORDER phase in hand has taken it (R126). -/
structure Command where
  outstation : Nat
  channel : Nat
  code : CmdCode
  value : Int
  owner : Owner
  sends : Nat
  inFlight : Bool
  taken : Bool
deriving DecidableEq, Repr

/-- A parameter load (R130). -/
structure Load where
  address : Nat
  param : Nat
  value : Int
  sends : Nat
  inFlight : Bool
  taken : Bool
deriving DecidableEq, Repr

/-- The phase of the scan cycle (R123); none before the first cycle and while a long break ends a cycle. -/
inductive Phase where
  | none | day | poll | order | load | wait
deriving DecidableEq, Repr

structure Scs where
  roster : List Entry
  commands : List Command
  loads : List Load
  cycle : Nat
  phase : Phase
  interval : Nat
  cycleStart : Time
  pollStart : Time
  rotating : Option Nat
  toPoll : List Nat
  polling : Option Nat
  retrying : Bool
  sleepWait : Option Nat
  probed : Nat
  shortCount : Nat
  dayOwed : Bool
  wakeDue : Bool
  lastWake : Option (Time × Option Nat)
deriving DecidableEq, Repr

/-! ### QPR: the quantity table and period ring (08) -/

/-- When a good sample was last taken: the cycle, and day, period and second when the clock was RUNNING (R134). -/
structure GoodTime where
  cycle : Nat
  clock : Option (Nat × Nat × Nat)
deriving DecidableEq, Repr

/-- The working items of a quantity record (R134). ranOut: the hold has run out since the last accepted sample, and the
quantity has had a point bound ever since (R135, R138; log 40). -/
structure QRec where
  value : Option Int
  source : Source
  lastGood : Option GoodTime
  since : Nat
  candidate : Option (Int × Nat)
  accepted : Bool
  clamps : Nat
  base : Option Nat
  scans : Nat
  ranOut : Bool
deriving DecidableEq, Repr

/-- An entry of a period record (R141); the last six items serve meters alone. -/
structure PEntry where
  last : Option Int
  low : Option Int
  high : Option Int
  count : Nat
  source : Source
  deltas : Nat
  jump : Bool
  restart : Bool
  estimated : Bool
  vstd : Option Int
  vclamped : Bool
  heat : Option Int
deriving DecidableEq, Repr

/-- A period record (R141, R142). -/
structure PeriodRec where
  day : Nat
  period : Nat
  partialFlag : Bool
  gap : Bool
  incomplete : Bool
  nIncomplete : Nat
  entries : Slots PEntry
deriving DecidableEq, Repr

structure Qpr where
  recs : Slots QRec
  current : Option PeriodRec
  ring : List PeriodRec
  markerAwaited : Bool
  polled : List Nat
  holdFrom : Time
deriving DecidableEq, Repr

/-! ### SOA: the send-out accounts (09) -/

/-- A closing stock as the accounts hold it (R146, R150). -/
structure DayClosing where
  stock : Option Int
  status : Status
  period : Nat
deriving DecidableEq, Repr

/-- The account of one meter in a day (R146); volumes in standard litres, heat in J, accumulators in mL. remVol is the
day-end remainder once it has been corrected (R153). periodVols are the period volumes taken into the day, which no rule
reads: they are the model's own, for the law of R153 (log 58). -/
structure MeterDay where
  openAcc : Int
  volume : Int
  heat : Int
  peakPeriod : Option Nat
  peakVolume : Int
  estimated : Nat
  remainder : Int
  latched : Bool
  remVol : Int
  periodVols : List Int
deriving DecidableEq, Repr

/-- The conditions of a period record that meter volumes are corrected with (R148, R153). -/
structure Conditions where
  baro : Option Int
  temp : Option Int
  press : Meters (Option Int)
deriving DecidableEq, Repr

/-- The flags of a gas day (R146). -/
structure DayFlags where
  part : Bool
  carried : Bool
  estimated : Bool
  gap : Bool
deriving DecidableEq, Repr

/-- The accounts of one gas day (R146). opening is the opening stock with its estimated mark. -/
structure Day where
  day : Nat
  weekday : Nat
  dayType : DayType
  flags : DayFlags
  lastClosed : Option Nat
  opening : Option (Int × Bool)
  closings : Holders (Option DayClosing)
  meters : Meters MeterDay
  conditions : Option Conditions
deriving DecidableEq, Repr

/-- The pending day; due when an event of R153 that completes it has come, started when its remainders are corrected. -/
structure PendingDay where
  day : Day
  due : Bool
  started : Bool
deriving DecidableEq, Repr

/-- A period in correction: the meter, its day and period, V_act's mL, the three conditions handed, and whether the
record's meter entry was flagged ESTIMATED (R148). -/
structure Correction where
  meter : Meter
  day : Nat
  period : Nat
  ml : Int
  press : Int
  temp : Int
  baro : Int
  estimated : Bool
deriving DecidableEq, Repr

/-- A day-end remainder handed to CU (R153). -/
structure Remainder where
  meter : Meter
  ml : Int
  press : Int
  temp : Int
  baro : Int
deriving DecidableEq, Repr

/-- A district's record in a day book entry (R156), with the parts of its volume as the model's own (log 58). -/
structure BookDistrict where
  volume : Int
  heat : Int
  peakPeriod : Option Nat
  peakVolume : Int
  estimated : Nat
  remVol : Int
  periodVols : List Int
deriving DecidableEq, Repr

/-- A day book entry (R156); permille is none with the mark MAKE NIL. -/
structure BookEntry where
  day : Nat
  dayType : DayType
  flags : DayFlags
  opening : Int
  closing : Int
  make : Int
  makeHeat : Int
  sendOut : Int
  unaccounted : Int
  permille : Option Int
  districts : Districts (Option BookDistrict)
deriving DecidableEq, Repr

/-- What SOA has seen of a meter: the register, the one before the last sample, and the AFTER MARKER delta of the reply
in hand (R147, R152). -/
structure Seen where
  register : Option Nat
  before : Option Nat
  delta : Option Nat
deriving DecidableEq, Repr

structure Soa where
  current : Option Day
  pending : Option PendingDay
  corrections : List Correction
  remainders : List Remainder
  book : List BookEntry
  cursor : Nat
  markerOut : Bool
  seen : Meters Seen
deriving DecidableEq, Repr

/-! ### HLP: the host link port (10) -/

/-- The notice kinds in the order of their codes 1 to 23 (R168). -/
inductive NoticeKind where
  | orderEnded | valveStuck | localControl | bandPassed | laggingHolder | pressureDiscord | trip | tripCleared
  | districtShort | boosterFailed | commandUndelivered | outstationFailed | outstationRecovered | lineOverloaded
  | lineHeld | periodIncomplete | meterJump | periodMark | dayClosed | balanceOut | coldStarted | powerRestored
  | restarted
deriving DecidableEq, Repr

/-- A notice (R168). -/
structure Notice where
  kind : NoticeKind
  object : Nat
  day : Option Nat
  period : Option Nat
  datum : Int
  repeats : Nat
deriving DecidableEq, Repr

structure Notices where
  queue : List Notice
  lost : Nat
deriving DecidableEq, Repr

/-- The refusal codes in the order of their codes 1 to 14 (R165). -/
inductive Refused where
  | invalid | fixed | badForm | unknownKind | noSuch | active | coupled | listFull | queueFull | tripped | clockUnset
  | backward | running | notCommitted
deriving DecidableEq, Repr

/-- The indications in the order of their codes (R164, 10.6.2). -/
inductive Indication where
  | none | clamped | staged | replaced | alreadyClosing | ended
deriving DecidableEq, Repr

/-- A figure of answer data with its coding (R173): one byte, two bytes unsigned, four or eight bytes signed, none being
sent as the most negative number. -/
inductive Fig where
  | u8 (v : Nat)
  | u16 (v : Nat)
  | s32 (v : Option Int)
  | s64 (v : Option Int)
deriving DecidableEq, Repr

/-- An owner's decision on a request (R164). -/
inductive Decision where
  | answer (i : Indication) (data : List Fig)
  | refuse (c : Refused) (data : List Fig)
deriving DecidableEq, Repr

/-- The reset a request asks for, to begin when its answer has been sent (R178). -/
inductive ResetAsk where
  | coldStart
  | warmRestart (orders : Nat)
deriving DecidableEq, Repr

/-- An answer formed (R164). place: its request holds a place in the queue (all but QUEUE FULL, R163). -/
structure Answer where
  kind : Byte
  tag : Byte
  decision : Decision
  dropped : Bool
  place : Bool
  asks : Option ResetAsk
deriving DecidableEq, Repr

/-- A request in the queue (R163). -/
structure Request where
  kind : Byte
  tag : Byte
  payload : List Byte
  taken : Bool
deriving DecidableEq, Repr

/-- A staged qualifier with the values its request carried (R166). -/
inductive Qualifier where
  | whenTravel (holder : Nat) (above : Bool) (x : Int)
  | untilTravel (x : Int)
  | untilStock (v : Int)
  | untilPeriod (p : Nat)
deriving DecidableEq, Repr

/-- The receiver on HRX: HUNTING, or IN FRAME with the characters after the start byte and the moment of the last
character (R161). -/
inductive Receiver where
  | hunting
  | inFrame (got : List Byte) (last : Time)
deriving DecidableEq, Repr

/-- The link error counts (R161). -/
structure LinkCounts where
  length : Nat
  gap : Nat
  check : Nat
  overrun : Nat
deriving DecidableEq, Repr

structure Link where
  recv : Receiver
  counts : LinkCounts
  queue : List Request
  answers : List Answer
  staging : List Qualifier
deriving DecidableEq, Repr

/-! ### The whole -/

/-- Everything behind the host link: the blocks, the notices, the pins and the time base. -/
structure Yard where
  now : Time
  secondMark : Time
  tripPin : Bool
  lineSpace : Bool
  freeDraws : Nat
  yds : Yds
  hsu : Hsu
  mvs : Mvs
  gdc : Gdc
  dgu : Dgu
  ylc : Ylc
  scs : Scs
  qpr : Qpr
  soa : Soa
  notices : Notices
deriving DecidableEq, Repr

/-- The machine's state. pending is the queue of commands that wait, first in, first out; checkWord is the check word of the
retained store (R175). -/
structure State where
  pending : List Instr
  powered : Bool
  checkWord : Check
  link : Link
  yard : Yard
deriving DecidableEq, Repr

/-- Faults: none. The manual names no fault that stops the controller: a request it cannot meet is REFUSED in an answer
(R165), and a failure in the field raises a notice (R168). Nobody raises one; safe. -/
inductive Fault where
deriving DecidableEq, Repr

/-- Refusals of the model. -/
inductive Refusal where
  /-- The command has no meaning yet. Raised by exec's arm alone; safe. No arm raises it in this model. -/
  | notModelled (mnemonic : String)
deriving DecidableEq, Repr

/-! ### The values after a reset -/

/-- A meter slot (8.1). -/
def Slot.isMeter : Slot → Bool
  | .makeMeter => true
  | .meter _ => true
  | _ => false

/-- The outer range of a slot (8.1). -/
def Slot.outer : Slot → Int × Int
  | .baro => (85000, 110000)
  | .yardTemp => (-200, 500)
  | .outletPress => (-50000, 50000)
  | .makePress => (-50000, 50000)
  | .makeMeter => (0, 999999)
  | .travel _ => (0, 60500)
  | .gasTemp _ => (-200, 500)
  | .holderPress _ => (-50000, 50000)
  | .outletOf _ => (-50000, 50000)
  | .farPress _ => (-50000, 50000)
  | .meter _ => (0, 999999)

/-- The substitute settings of a slot after a cold start (R135). -/
def Slot.defaultSub (q : Slot) : Substitute := ⟨q.outer.1, q.outer.2, 2, none, 5000⟩

/-- A table of slots made from a rule for each. -/
def Slots.make {α : Type} (f : Slot → α) : Slots α where
  baro := f .baro
  yardTemp := f .yardTemp
  outletPress := f .outletPress
  makePress := f .makePress
  makeMeter := f .makeMeter
  travel := ⟨f (.travel .h1), f (.travel .h2), f (.travel .h3), f (.travel .h4), f (.travel .h5), f (.travel .h6)⟩
  gasTemp := ⟨f (.gasTemp .h1), f (.gasTemp .h2), f (.gasTemp .h3), f (.gasTemp .h4), f (.gasTemp .h5), f (.gasTemp .h6)⟩
  holderPress := ⟨f (.holderPress .h1), f (.holderPress .h2), f (.holderPress .h3), f (.holderPress .h4),
    f (.holderPress .h5), f (.holderPress .h6)⟩
  outletOf := ⟨f (.outletOf .d1), f (.outletOf .d2), f (.outletOf .d3), f (.outletOf .d4), f (.outletOf .d5),
    f (.outletOf .d6), f (.outletOf .d7), f (.outletOf .d8)⟩
  farPress := ⟨f (.farPress .d1), f (.farPress .d2), f (.farPress .d3), f (.farPress .d4), f (.farPress .d5),
    f (.farPress .d6), f (.farPress .d7), f (.farPress .d8)⟩
  meter := ⟨f (.meter .d1), f (.meter .d2), f (.meter .d3), f (.meter .d4), f (.meter .d5), f (.meter .d6),
    f (.meter .d7), f (.meter .d8)⟩

/-- The vapour table after a cold start (R7). -/
def Vapour.cold : Vapour := ⟨421, 611, 872, 1228, 1705, 2339, 3169, 4246, 5628⟩

/-- The bindings after a cold start: none (R13). -/
def Bindings.cold : Bindings := ⟨.make fun _ => ⟨none, none⟩, .all none, .all none, .all none, .all none⟩

/-- The pressure programme after a cold start (R74). -/
def Programme.cold : Programme := ⟨1000, .all none⟩

/-- SET TRIM after a cold start (R80). -/
def TrimSet.cold : TrimSet := ⟨500, 100, 25, 250⟩

/-- SET FEED after a cold start (R80). -/
def FeedSet.cold : FeedSet := ⟨20, 250, 100, 60⟩

/-- SET HOLDER LIMITS after a cold start (R8). -/
def HolderLimits.cold : HolderLimits := ⟨150, 150⟩

/-- YDS after a cold start (R13). -/
def Yds.cold : Yds where
  desc := .opened
  holders := .all none
  geometry := .all none
  vapour := .cold
  districts := .all none
  line := ⟨.b1200, 50⟩
  bind := .cold
  limits := .all .cold
  valveLimit := 120
  programme := .all .cold
  lag := 4
  dayPattern := [false, false, false, false, false, false, true]
  periodMark := none
  trimSet := .all .cold
  feedSet := .all .cold
  yardLoss := 100
  cv := 18600
  makeFactor := 1000
  balanceLimit := 30
  scan := 15
  subs := .make Slot.defaultSub

/-- The dynamic record of a holder after any reset, and of a holder made present (R31, R30). -/
def HolderDyn.fresh : HolderDyn := ⟨none, none, none, 0, 0, none, .unknown, false, none, false, 0, 0⟩

/-- HSU after any reset (R31). -/
def Hsu.fresh : Hsu := ⟨.all .fresh, none, [], []⟩

/-- A valve record after any reset (R64). -/
def ValveRec.fresh : ValveRec := ⟨.none, .unknown, .idle⟩

/-- MVS after a cold start with the YARD TRIP input as it stands at the moment given (R64, R59). -/
def Mvs.cold (tripPin : Bool) (now : Time) : Mvs where
  inlets := .all .fresh
  outlets := .all .fresh
  unmanaged := .all false
  shutPending := .all false
  prevTravel := .all none
  orders := []
  coupled := .all false
  tripped := false
  tripCause := none
  watch := if tripPin then .running now else .idle

/-- GDC after a cold start (R78). -/
def Gdc.cold : Gdc := ⟨none, none, none, none, none⟩

/-- A district record after a cold start, or of a district made present: the base as profile value, the adoption mark set
where a booster is present (R96, R94, R76). -/
def DistrictDyn.fresh (profile trim : Int) (booster : Bool) : DistrictDyn where
  profile := profile
  trim := trim
  target := none
  commanded := none
  delivered := none
  govPending := false
  govOutcome := .none
  reported := none
  feed := .direct
  boosterCmd := .none
  boosterRep := .unknown
  runUp := .idle
  failed := false
  hyst := 0
  adoption := booster
  adoptWait := .idle

/-- DGU after a cold start (R96). -/
def Dgu.cold : Dgu := ⟨.all (.fresh 1000 0 false), none⟩

/-- The character time of a bit rate (R97). -/
def BitRate.charTime : BitRate → Time
  | .b600 => 400
  | .b1200 => 200
  | .b2400 => 100

/-- YLC at line start (R116): with the line at mark the long break goes out; with the line at space the part waits and the
line-held detector runs. -/
def Ylc.lineStart (rate : BitRate) (lineSpace : Bool) (now : Time) : Ylc where
  line := .breaking
  flight := none
  waiting := []
  timer := none
  detector := if lineSpace then some now else none
  held := false
  driving := !lineSpace
  brk := some .long
  began := now
  why := ⟨true, false, false⟩
  again := false
  busy := now
  charTime := rate.charTime

/-- The error counters at zero (R115). -/
def Counters.zero : Counters := ⟨0, 0, 0, 0, 0, 0⟩

/-- The described condition of an entry, which every reset gives it too (R117, R132). -/
def EntryDyn.fresh : EntryDyn := ⟨.unknown, 0, 0, none, 0, .unchecked, none, .zero, none, .none⟩

/-- SCS after a reset, over a roster and with the DAY marker owed or not (R132). -/
def Scs.fresh (roster : List Entry) (dayOwed : Bool) : Scs where
  roster := roster
  commands := []
  loads := []
  cycle := 0
  phase := .none
  interval := 15
  cycleStart := 0
  pollStart := 0
  rotating := roster.head?.map (·.address)
  toPoll := []
  polling := none
  retrying := false
  sleepWait := none
  probed := 0
  shortCount := 0
  dayOwed := dayOwed
  wakeDue := true
  lastWake := none

/-- A quantity record after any reset (R144). -/
def QRec.fresh : QRec := ⟨none, .none, none, 0, none, false, 0, none, 0, false⟩

/-- QPR after a cold start (R144). -/
def Qpr.cold (now : Time) : Qpr := ⟨.make fun _ => .fresh, none, [], false, [], now⟩

/-- SOA after a cold start (R160). -/
def Soa.cold : Soa := ⟨none, none, [], [], [], 0, false, .all ⟨none, none, none⟩⟩

/-- The link after any reset (R172). -/
def Link.fresh : Link := ⟨.hunting, ⟨0, 0, 0, 0⟩, [], [], []⟩

/-- The yard after a cold start, the pins as they stand (R177). -/
def Yard.cold (tripPin lineSpace : Bool) : Yard where
  now := 0
  secondMark := 0
  tripPin := tripPin
  lineSpace := lineSpace
  freeDraws := 0
  yds := .cold
  hsu := .fresh
  mvs := .cold tripPin 0
  gdc := .cold
  dgu := .cold
  ylc := .lineStart .b1200 lineSpace 0
  scs := .fresh [] false
  qpr := .cold 0
  soa := .cold
  notices := ⟨[⟨.coldStarted, 0, none, none, 0, 1⟩], 0⟩

/-- The machine right after the start-up of a cold start (R176, R177), YARD TRIP released and the yard line at mark. The check
word is the one formed over the store of a cold start (R175, R177 step 1; Yard.storeCheck, log 4). -/
def State.reset : State where
  pending := []
  powered := true
  checkWord := 0xAD1F#16
  link := .fresh
  yard := .cold false false

end Sys2Proof.Machine
end

