-- ==== Sys2Proof/Decode.lean ====
section
/-! DEFINITION. The command a word spells by the opcode table's bits. The table gives no row any bits: the commands of this
block are requests with a payload and events (R171, 00 section 2), so no word spells one. -/

namespace Sys2Proof

/-- None: no row of the table has bits. -/
def decodeTableWord (_nbits _w : Nat) : Option Instr := none

end Sys2Proof
end

