-- ==== Sys2Proof/Machine/Ops.lean ====
section
/-! DEFINITION. The operations every block shares: the integer arithmetic of 00 section 4.2, bytes and the cyclic check
(R105), access to the blocks of the yard, and the raising of notices (R168). -/

namespace Sys2Proof

/-! ### Names and pairs (R173, 03 section 3.7) -/

def Holder.number : Holder → Nat
  | .h1 => 1
  | .h2 => 2
  | .h3 => 3
  | .h4 => 4
  | .h5 => 5
  | .h6 => 6

def District.number : District → Nat
  | .d1 => 1
  | .d2 => 2
  | .d3 => 3
  | .d4 => 4
  | .d5 => 5
  | .d6 => 6
  | .d7 => 7
  | .d8 => 8

/-- The pair of a holder: 1 (H1,H2), 2 (H3,H4), 3 (H5,H6). -/
def Holder.pair : Holder → Nat
  | .h1 => 1
  | .h2 => 1
  | .h3 => 2
  | .h4 => 2
  | .h5 => 3
  | .h6 => 3

/-- The odd-numbered holder of a pair is its leader. -/
def Holder.leads : Holder → Bool
  | .h1 => true
  | .h3 => true
  | .h5 => true
  | _ => false

def Holder.partner : Holder → Holder
  | .h1 => .h2
  | .h2 => .h1
  | .h3 => .h4
  | .h4 => .h3
  | .h5 => .h6
  | .h6 => .h5

end Sys2Proof

namespace Sys2Proof.Machine

open Sys2Proof

/-! ### Arithmetic (00 section 4.2) -/

/-- Division rounding to the nearest integer, a half upward; b is positive. -/
def roundDiv (a b : Int) : Int := (2 * a + b) / (2 * b)

/-- Division rounding to the nearest integer, a half away from zero: the unaccounted permille (R155). -/
def roundAway (a b : Int) : Int := if a < 0 then -(roundDiv (-a) b) else roundDiv a b

/-- The value, or the nearer end of the range when it lies outside it (R8). -/
def clampTo (lo hi v : Int) : Int := if v < lo then lo else if v > hi then hi else v

/-- Whether a value lies in a range, ends included. -/
def inRange (lo hi v : Int) : Bool := decide (lo ≤ v) && decide (v ≤ hi)

/-- A counter that rises by 1 and stays at its limit (R115, R161, R168). -/
def saturate (limit n : Nat) : Nat := if n < limit then n + 1 else n

/-- A counter that rises by k and stays at its limit (R115). -/
def saturateBy (limit n k : Nat) : Nat := if n + k < limit then n + k else limit

/-- The first item of a list that passes a test, and the list without it. -/
def takeFirst {α : Type} (p : α → Bool) : List α → Option (α × List α)
  | [] => none
  | a :: as => if p a then some (a, as) else (takeFirst p as).map fun r => (r.1, a :: r.2)

/-! ### Bytes and the cyclic check -/

/-- The k bytes of a number, low byte first (R173). -/
def leBytes : Nat → Nat → List Byte
  | 0, _ => []
  | k + 1, n => BitVec.ofNat 8 n :: leBytes k (n / 256)

/-- The number of a list of bytes, low byte first. -/
def ofLe : List Byte → Nat
  | [] => 0
  | b :: bs => b.toNat + 256 * ofLe bs

/-- The k bytes of a signed number in two's complement, low byte first (R173). -/
def signedBytes (k : Nat) (v : Int) : List Byte := leBytes k (v % (256 ^ k : Nat)).toNat

/-- The signed number of a list of bytes in two's complement (R173). -/
def ofSigned (bs : List Byte) : Int :=
  let n := ofLe bs
  let m := 256 ^ bs.length
  if 2 * n < m then (n : Int) else (n : Int) - (m : Int)

/-- One bit fed into the check register (R105). -/
def crcBit (r : Check) (b : Bool) : Check :=
  if (r.getLsbD 0 ^^ b) then (r >>> 1) ^^^ 0x8408#16 else r >>> 1

/-- One byte fed least significant bit first (R105). -/
def crcByte (r : Check) (b : Byte) : Check :=
  [0, 1, 2, 3, 4, 5, 6, 7].foldl (fun r i => crcBit r (b.getLsbD i)) r

/-- The check over a list of bytes, from the register set to FFFFh (R105). -/
def crc (bytes : List Byte) : Check := bytes.foldl crcByte 0xFFFF#16

/-- The check's two bytes as sent, low byte first (R105). -/
def crcBytes (bytes : List Byte) : List Byte := leBytes 2 (crc bytes).toNat

/-! ### Names and numbers (R173) -/

def holderOf (n : Nat) : Option Holder := Holder.list.find? (·.number == n)

def districtOf (n : Nat) : Option District := District.list.find? (·.number == n)

/-- A slot's place in 8.1, counted from 0 (R173). -/
def Slot.code : Slot → Nat
  | .baro => 0
  | .yardTemp => 1
  | .outletPress => 2
  | .makePress => 3
  | .makeMeter => 4
  | .travel h => 4 + h.number
  | .gasTemp h => 10 + h.number
  | .holderPress h => 16 + h.number
  | .outletOf d => 22 + d.number
  | .farPress d => 30 + d.number
  | .meter d => 38 + d.number

def slotOf (n : Nat) : Option Slot := Slot.list.find? (·.code == n)

/-- The slot of a meter of the accounts. -/
def meterSlot : Meter → Slot
  | .make => .makeMeter
  | .district d => .meter d

/-- The meter of a slot, none for a slot that is no meter. -/
def Slot.meterOf : Slot → Option Meter
  | .makeMeter => some .make
  | .meter d => some (.district d)
  | _ => none

/-! ### Choices by their place in the list of their rule (R173) -/

def Source.code : Source → Nat
  | .live => 0
  | .standby => 1
  | .held => 2
  | .declared => 3
  | .none => 4

def Status.code : Status → Nat
  | .good => 0
  | .estimated => 1
  | .unknown => 2

def OutstationKind.code : OutstationKind → Nat
  | .gauge => 0
  | .actuator => 1
  | .recorder => 2

/-- A point kind by its place in the list of R117, FFh for a channel without a point (R173, log 8). -/
def pointKindCode : Option PointKind → Nat
  | some .measure => 0
  | some .meter => 1
  | some .valve => 2
  | some .booster => 3
  | some .governor => 4
  | none => 255

def DayType.code : DayType → Nat
  | .working => 0
  | .rest => 1

/-! ### Access to the blocks -/

namespace Yard

def isCommitted (y : Yard) : Bool := y.yds.desc == .committed

def updYds (y : Yard) (f : Yds → Yds) : Yard := { y with yds := f y.yds }
def updHsu (y : Yard) (f : Hsu → Hsu) : Yard := { y with hsu := f y.hsu }
def updMvs (y : Yard) (f : Mvs → Mvs) : Yard := { y with mvs := f y.mvs }
def updGdc (y : Yard) (f : Gdc → Gdc) : Yard := { y with gdc := f y.gdc }
def updDgu (y : Yard) (f : Dgu → Dgu) : Yard := { y with dgu := f y.dgu }
def updYlc (y : Yard) (f : Ylc → Ylc) : Yard := { y with ylc := f y.ylc }
def updScs (y : Yard) (f : Scs → Scs) : Yard := { y with scs := f y.scs }
def updQpr (y : Yard) (f : Qpr → Qpr) : Yard := { y with qpr := f y.qpr }
def updSoa (y : Yard) (f : Soa → Soa) : Yard := { y with soa := f y.soa }

/-- The dynamic record of a holder in HSU. -/
def updHolder (y : Yard) (h : Holder) (f : HolderDyn → HolderDyn) : Yard :=
  y.updHsu fun u => { u with holders := u.holders.set h (f (u.holders.get h)) }

/-- The dynamic record of a district in DGU. -/
def updDistrict (y : Yard) (d : District) (f : DistrictDyn → DistrictDyn) : Yard :=
  y.updDgu fun u => { u with districts := u.districts.set d (f (u.districts.get d)) }

/-- The record of a quantity slot in QPR. -/
def updRec (y : Yard) (q : Slot) (f : QRec → QRec) : Yard :=
  y.updQpr fun u => { u with recs := u.recs.set q (f (u.recs.get q)) }

/-- The time base moves on to a moment, never back (log 3). -/
def reach (y : Yard) (t : Time) : Yard := { y with now := max y.now t }

end Yard

/-- The valve record of a valve (R33). -/
def Mvs.valve (m : Mvs) (v : Valve) : ValveRec :=
  match v.side with
  | .inlet => m.inlets.get v.holder
  | .outlet => m.outlets.get v.holder

def Mvs.setValve (m : Mvs) (v : Valve) (r : ValveRec) : Mvs :=
  match v.side with
  | .inlet => { m with inlets := m.inlets.set v.holder r }
  | .outlet => { m with outlets := m.outlets.set v.holder r }

/-- The point bound to a valve (R133). -/
def Bindings.valve (b : Bindings) (v : Valve) : Option Point :=
  match v.side with
  | .inlet => b.inlet.get v.holder
  | .outlet => b.outlet.get v.holder

/-- Whether a holder is present (R3). -/
def Yds.holderPresent (d : Yds) (h : Holder) : Bool := (d.holders.get h).isSome

/-- Whether a district is present (R79). -/
def Yds.districtPresent (d : Yds) (x : District) : Bool := (d.districts.get x).isSome

/-- Whether the object of a slot is present (8.1). -/
def Yds.slotPresent (d : Yds) : Slot → Bool
  | .travel h => d.holderPresent h
  | .gasTemp h => d.holderPresent h
  | .holderPress h => d.holderPresent h
  | .outletOf x => d.districtPresent x
  | .farPress x => d.districtPresent x
  | .meter x => d.districtPresent x
  | _ => true

/-- Whether a slot has a point bound (R138). -/
def Yds.slotBound (d : Yds) (q : Slot) : Bool :=
  (d.bind.slots.get q).primary.isSome || (d.bind.slots.get q).standby.isSome

/-- A bound meter of the accounts: its point bound, its district present (R146). -/
def Yds.meterBound (d : Yds) (m : Meter) : Bool :=
  d.slotPresent (meterSlot m) && d.slotBound (meterSlot m)

/-- The bound meters in the order of R148. -/
def Yds.boundMeters (d : Yds) : List Meter := Meter.list.filter d.meterBound

/-- The factor of a meter in mL per count (R145). -/
def Yds.meterFactor (d : Yds) : Meter → Int
  | .make => d.makeFactor
  | .district x =>
    match d.districts.get x with
    | some r => r.factor
    | none => 0

/-- The coupling state of a holder's pair (R55). -/
def Mvs.isCoupled (m : Mvs) (h : Holder) : Bool := m.coupled.get h.pair

/-- The coupling role of a holder (R22, R28), a view of the coupling state MVS holds. -/
inductive CouplingRole where
  | none | leader | follower
deriving DecidableEq, Repr

def Mvs.role (m : Mvs) (h : Holder) : CouplingRole :=
  if m.isCoupled h then (if h.leads then .leader else .follower) else .none

/-! ### Notices (R168) -/

/-- A notice of the same kind and object, merged: the count rises to at most 255 and the datum is replaced (R168). -/
def Notice.merge (n : Notice) (datum : Int) : Notice :=
  { n with repeats := saturate 255 n.repeats, datum := datum }

def Notice.isFor (n : Notice) (k : NoticeKind) (object : Nat) : Bool := n.kind == k && n.object == object

/-- The notice queue after a block raises a notice at the clock's day and period (R168). -/
def Notices.raise (q : Notices) (k : NoticeKind) (object : Nat) (datum : Int) (day period : Option Nat) : Notices :=
  if q.queue.any (·.isFor k object) then
    { q with queue := q.queue.map fun n => if n.isFor k object then n.merge datum else n }
  else if q.queue.length < 32 then
    { q with queue := q.queue ++ [⟨k, object, day, period, datum, 1⟩] }
  else { q with lost := saturate 65535 q.lost }

/-- A block raises a notice (R168). -/
def raiseNotice (k : NoticeKind) (object : Nat) (datum : Int) (y : Yard) : Yard :=
  { y with notices := y.notices.raise k object datum (y.gdc.clock.map (·.day)) (y.gdc.clock.map (·.period)) }

/-- ATTENTION is asserted while the notice queue holds one or more notices (R169), and released without power (R176). -/
def State.attention (s : State) : Bool := s.powered && !s.yard.notices.queue.isEmpty

/-- The next free value of the datum of DISTRICT SHORT (log 2). -/
def drawShortfall (y : Yard) : Int × Yard :=
  (Config.unstatedShortfall y.freeDraws, { y with freeDraws := y.freeDraws + 1 })

/-- The deadline of a RUNNING timer. -/
def Timer.deadline : Timer → Option Time
  | .idle => none
  | .running start limit => some (start + Config.sec limit)

end Sys2Proof.Machine
end

