-- ==== Sys2Proof/Machine/Correction.lean ====
section
/-! DEFINITION. The correction unit CU: the seven stages from travel to standard volume (02 sections 2.1 to 2.3). -/

namespace Sys2Proof.Machine

/-- Stage 1 for a travel above 0: the smallest k from 1 with t ≤ Zk, and the number of limits when t is above all (R15). -/
def zoneAbove (t : Int) : List Int → Nat
  | [] => 0
  | [_] => 1
  | z :: zs => if t ≤ z then 1 else 1 + zoneAbove t zs

/-- Stage 1: the zone of a travel over the zone limits Z1 to Zn (R15). -/
def zoneOf (zones : List Int) (t : Int) : Nat := if t = 0 then 0 else zoneAbove t zones

/-- Stage 2, the sum of areas by travel taken up over the first k lifts, from is the zone limit below the next lift:
whole strokes below the zone lift, and min(t, Zn) less the limit below it in the zone lift (R16). -/
def liftSum (t : Int) : List Lift → Nat → Int → Int
  | [], _, _ => 0
  | _, 0, _ => 0
  | l :: _, 1, below => l.area * (t - below)
  | l :: ls, k + 2, below => l.area * l.stroke + liftSum t ls (k + 1) (below + l.stroke)

/-- Stage 2: the actual volume in litres (R16). -/
def actualVolume (lifts : List Lift) (zones : List Int) (t : Int) : Int :=
  let full := zones.getLast?.getD 0
  roundDiv (liftSum (min t full) lifts (zoneOf zones t) 0) 100

/-- Stage 3: the holder pressure, the sum of the weight steps of the floating lifts (R17). -/
def holderPressure (lifts : List Lift) (zone : Nat) : Int :=
  (lifts.take zone).foldl (fun p l => p + l.weight) 0

def Vapour.entry (v : Vapour) : Nat → Nat
  | 0 => v.e0
  | 1 => v.e1
  | 2 => v.e2
  | 3 => v.e3
  | 4 => v.e4
  | 5 => v.e5
  | 6 => v.e6
  | 7 => v.e7
  | _ => v.e8

/-- Stage 4: the saturation vapour pressure at a temperature in tenths of a degree (R18). -/
def vapourPressure (v : Vapour) (temp : Int) : Int :=
  let look := clampTo (-50) 350 temp
  let i := ((look + 50) / 50).toNat
  if i ≥ 8 then (v.e8 : Int)
  else
    let r := look + 50 - 50 * (i : Int)
    (v.entry i : Int) + roundDiv (((v.entry (i + 1) : Int) - (v.entry i : Int)) * r) 50

/-- Stage 5: the dry absolute pressure, not below 45,000 Pa, and whether it was clamped (R19). -/
def dryPressure (baro press vapour : Int) : Int × Bool :=
  let p := baro + press - vapour
  if p < 45000 then (45000, true) else (p, false)

/-- 2^63 − 1, the limit of a standard volume in the meter use (R20). -/
def maxQuotient : Int := 9223372036854775807

/-- Stages 6 and 7: the standard volume in litres (R20). -/
def standardVolume (actual dry temp : Int) : Int :=
  roundDiv (actual * dry * 28815) (101325 * (27315 + 10 * temp))

/-- The meter use of CU, stages 4 to 7, with the CLAMPED mark (R21, R19, R20). -/
def meterVolume (v : Vapour) (actual press temp baro : Int) : Int × Bool :=
  let d := dryPressure baro press (vapourPressure v temp)
  let std := standardVolume actual d.1 temp
  if std > maxQuotient then (maxQuotient, true) else (std, d.2)

/-- What a stock computation gives (R14). -/
structure StockResult where
  zone : Nat
  pressure : Int
  stock : Int
  clamped : Bool
deriving DecidableEq, Repr

/-- The stock use of CU, stages 1 to 7 (R14 to R20). -/
def stockResult (v : Vapour) (j : StockJob) : StockResult :=
  let zone := zoneOf j.zones j.travel
  let press := holderPressure j.lifts zone
  let d := dryPressure j.baro press (vapourPressure v j.temp)
  ⟨zone, press, standardVolume (actualVolume j.lifts j.zones j.travel) d.1 j.temp, d.2⟩

/-- The status of a stock computed from its inputs' sources and the mark of the computation (R24). -/
def jobStatus (j : StockJob) (clamped : Bool) : Status :=
  let soft (s : Source) : Bool := s == .held || s == .declared
  let est := match j.tempSource with
    | none => true
    | some s => soft s
  if soft j.travelSource || est || clamped then .estimated else .good

end Sys2Proof.Machine
end

