-- ==== Sys2Proof/Machine/Accounts.lean ====
section
/-! DEFINITION. The send-out accounts SOA (09): meter deltas, period corrections, the pending day close, the yard balance,
the day book. -/

namespace Sys2Proof.Machine

/-! ### The clock's period start signal (R67) -/

inductive StartKind where
  | onTime | first | resumed
deriving DecidableEq, Repr

/-- The period start signal; skipped is the first and the last period skipped (R67). -/
structure PeriodStart where
  day : Nat
  weekday : Nat
  period : Nat
  dayType : DayType
  kind : StartKind
  partialMark : Bool
  skipped : Option (Nat × Nat)
deriving DecidableEq, Repr

/-! ### Days -/

def DayFlags.clear : DayFlags := ⟨false, false, false, false⟩

def MeterDay.zero : MeterDay := ⟨0, 0, 0, none, 0, 0, 0, false, 0, []⟩

/-- A new day: every accumulator 0, every mark clear, every closing stock none (R146). -/
def Day.opened (day weekday : Nat) (dayType : DayType) (flags : DayFlags) (opening : Option (Int × Bool)) : Day :=
  ⟨day, weekday, dayType, flags, none, opening, .all none, .all .zero, none⟩

def Day.updMeter (d : Day) (m : Meter) (f : MeterDay → MeterDay) : Day :=
  { d with meters := d.meters.set m (f (d.meters.get m)) }

/-- The present holders in order. -/
def Yds.presentHolders (d : Yds) : List Holder := Holder.list.filter d.holderPresent

/-- The present districts in order. -/
def Yds.presentDistricts (d : Yds) : List District := District.list.filter d.districtPresent

/-- The opening stock of a fresh day: the sum of the present holders' stocks, none counting 0, marked estimated when one
is not GOOD (R146). -/
def freshOpening (y : Yard) : Int × Bool :=
  y.yds.presentHolders.foldl
    (fun a h =>
      let r := y.hsu.holders.get h
      (a.1 + r.stock.getD 0, a.2 || r.status != .good))
    (0, false)

/-- A fresh day: flagged PARTIAL, its opening stock summed from HSU (R146, R180). -/
def openFresh (day weekday : Nat) (dayType : DayType) (gap : Bool) (y : Yard) : Yard :=
  let d := Day.opened day weekday dayType ⟨true, false, false, gap⟩ (some (freshOpening y))
  y.updSoa fun u => { u with current := some d }

/-- Whether a day number is that of the current or the pending day. -/
def Soa.holdsDay (u : Soa) (n : Nat) : Bool :=
  u.current.any (·.day == n) || u.pending.any (·.day.day == n)

/-- Change the day of a number: the current day, else the pending day (R149, R150). -/
def Soa.updDay (u : Soa) (n : Nat) (f : Day → Day) : Soa :=
  if u.current.any (·.day == n) then { u with current := u.current.map f }
  else if u.pending.any (·.day.day == n) then
    { u with pending := u.pending.map fun p => { p with day := f p.day } }
  else u

def Soa.updCurrent (u : Soa) (f : Day → Day) : Soa := { u with current := u.current.map f }

def Soa.updPending (u : Soa) (f : PendingDay → PendingDay) : Soa := { u with pending := u.pending.map f }

/-! ### The yard balance and the day book (R155 to R157) -/

/-- A balance as formed (R155): opening, closing stock and its estimated mark, make, make heat, send-out, unaccounted,
permille. -/
structure Balance where
  opening : Int
  closing : Int
  closingEst : Bool
  make : Int
  makeHeat : Int
  sendOut : Int
  unaccounted : Int
  permille : Option Int
deriving DecidableEq, Repr

/-- The stock a holder counts in the closing stock of a day, and whether it leaves the sum estimated: the closing stock held
for the day's last closed period, and 0 L with the mark where the holder has none for it (R155, log 16). -/
def closingOf (d : Day) (h : Holder) : Int × Bool :=
  match d.closings.get h with
  | some c =>
    if d.lastClosed = some c.period then (c.stock.getD 0, c.stock.isNone || c.status != .good) else (0, true)
  | none => (0, true)

/-- Form the yard balance of a day (R155). -/
def balanceOf (y : Yard) (d : Day) : Balance :=
  let hs := y.yds.presentHolders.map (closingOf d)
  let opening := (d.opening.map (·.1)).getD 0
  let closing := (hs.map (·.1)).sum
  let bound := y.yds.boundMeters
  let makeDay := d.meters.get .make
  let make := if bound.contains .make then makeDay.volume else 0
  let makeHeat := if bound.contains .make then makeDay.heat else 0
  let sendOut := ((bound.filter (· != .make)).map fun m => (d.meters.get m).volume).sum
  let unaccounted := make - sendOut - (closing - opening)
  ⟨opening, closing, hs.any (·.2), make, makeHeat, sendOut, unaccounted,
    if make = 0 then none else some (roundAway (1000 * unaccounted) make)⟩

/-- The ESTIMATED flag of a day that closes (R155). -/
def dayEstimated (d : Day) (b : Balance) : Bool :=
  d.flags.estimated || b.closingEst || d.lastClosed.isNone ||
    match d.opening with
    | none => true
    | some o => o.2

/-- The district records of an entry: each district present when the day closed (R156). -/
def bookDistricts (y : Yard) (d : Day) : Districts (Option BookDistrict) :=
  y.yds.presentDistricts.foldl
    (fun t x =>
      let m := d.meters.get (.district x)
      t.set x (some ⟨m.volume, m.heat, m.peakPeriod, m.peakVolume, m.estimated, m.remVol, m.periodVols⟩))
    (.all none)

def bookEntry (y : Yard) (d : Day) (b : Balance) : BookEntry :=
  ⟨d.day, d.dayType, { d.flags with estimated := dayEstimated d b }, b.opening, b.closing, b.make, b.makeHeat, b.sendOut,
    b.unaccounted, b.permille, bookDistricts y d⟩

/-- Append an entry to the day book: the entries not below its day number go first, the oldest goes when the book holds
15, and the cursor follows (R156, R157). -/
def Soa.append (u : Soa) (e : BookEntry) : Soa :=
  let kept := u.book.filter (·.day < e.day)
  let under := (u.book.drop u.cursor).head?
  let cursor :=
    match under with
    | none => kept.length
    | some x => if x.day < e.day then ((u.book.take u.cursor).filter (·.day < e.day)).length else 0
  let book := kept ++ [e]
  if book.length > 14 then { u with book := book.drop 1, cursor := cursor - 1 }
  else { u with book := book, cursor := cursor }

/-- A day closes: the balance, the entry, then BALANCE OUT where called for and DAY CLOSED (R155, R156). The closing stock
with its estimated mark is answered for the next day's opening. -/
def closeDay (d : Day) (y : Yard) : Yard × (Int × Bool) :=
  let b := balanceOf y d
  let y' := y.updSoa (·.append (bookEntry y d b))
  let y' :=
    match b.permille with
    | some p => if (p.natAbs : Int) > y.yds.balanceLimit then raiseNotice .balanceOut d.day p y' else y'
    | none => y'
  (raiseNotice .dayClosed d.day (d.day : Int) y', (b.closing, b.closingEst))

/-! ### Corrected volumes (R148, R149, R153) -/

/-- The limit of a period volume or a remainder, in standard litres (R148, R153). -/
def maxVolume : Int := 1000000000

def Conditions.full (c : Conditions) (m : Meter) : Option (Int × Int × Int) :=
  match c.press.get m, c.temp, c.baro with
  | some p, some t, some b => some (p, t, b)
  | _, _, _ => none

/-- A period's result taken into its day (R149). -/
def MeterDay.takePeriod (r : MeterDay) (m : Meter) (period : Nat) (v heat : Int) (estimated : Bool) : MeterDay :=
  let r := { r with volume := r.volume + v, heat := r.heat + heat, periodVols := r.periodVols ++ [v] }
  match m with
  | .make => r
  | .district _ =>
    let r := if r.peakVolume < v then { r with peakVolume := v, peakPeriod := some period } else r
    if estimated then { r with estimated := r.estimated + 1 } else r

def PeriodRec.isOf (r : PeriodRec) (day period : Nat) : Bool := r.day == day && r.period == period

/-- Change the newest record of a day and period in the ring, if it is still there (R148). -/
def updNewest (day period : Nat) (f : PeriodRec → PeriodRec) : List PeriodRec → List PeriodRec
  | [] => []
  | r :: rs =>
    if r.isOf day period && !(rs.any (·.isOf day period)) then f r :: rs
    else r :: updNewest day period f rs

def PeriodRec.updEntry (r : PeriodRec) (q : Slot) (f : PEntry → PEntry) : PeriodRec :=
  { r with entries := r.entries.set q (f (r.entries.get q)) }

/-- A corrected period volume is taken: limited, turned into heat, written into the record of the ring, and into the day;
dropped whole when its day is closed (R148, R149). -/
def takePeriodVolume (m : Meter) (day period : Nat) (v : Int) (estimated : Bool) (y : Yard) : Yard :=
  if y.soa.holdsDay day then
    let beyond := decide (v > maxVolume)
    let v := min v maxVolume
    let est := estimated || beyond
    let heat := v * y.yds.cv
    let write (e : PEntry) : PEntry :=
      { e with vstd := some v, vclamped := beyond, heat := some heat, estimated := e.estimated || est }
    let y := y.updQpr fun q => { q with ring := updNewest day period (·.updEntry (meterSlot m) write) q.ring }
    y.updSoa fun u => u.updDay day fun d => d.updMeter m fun r => r.takePeriod m period v heat est
  else y

/-- A remainder volume is taken into the pending day (R153). -/
def takeRemainder (m : Meter) (v : Int) (y : Yard) : Yard :=
  let v := min v maxVolume
  let heat := v * y.yds.cv
  y.updSoa fun u => u.updPending fun p =>
    { p with day := p.day.updMeter m fun r => { r with volume := r.volume + v, heat := r.heat + heat, remVol := v } }

/-- The last remainder is back: the day is balanced and appended, its closing stock opens the current day, and no day is
pending (R153). -/
def finishPending (y : Yard) : Yard :=
  match y.soa.pending with
  | some p =>
    if p.started && y.soa.remainders.isEmpty then
      let r := closeDay p.day y
      r.1.updSoa fun u =>
        { u.updCurrent (fun d => { d with opening := some r.2 }) with pending := none }
    else y
  | none => y

/-- One meter's day-end remainder is corrected: handed to CU, or taken as it is without its conditions (R153). -/
def correctRemainder (y : Yard) (m : Meter) : Yard :=
  match y.soa.pending with
  | some p =>
    let ml := (p.day.meters.get m).remainder
    match p.day.conditions.bind (·.full m) with
    | some (press, temp, baro) =>
      y.updSoa fun u => { u with remainders := u.remainders ++ [⟨m, ml, press, temp, baro⟩] }
    | none => takeRemainder m (roundDiv ml 1000) y
  | none => y

/-- The pending close completes: meters whose latch is not reported are carried, and every bound meter's remainder is
corrected (R153). -/
def startCompletion (y : Yard) : Yard :=
  match y.soa.pending with
  | some p =>
    let bound := y.yds.boundMeters
    let carried := bound.any fun m => !(p.day.meters.get m).latched
    let y := y.updSoa fun u => u.updPending fun p =>
      { p with started := true,
               day := { p.day with flags := { p.day.flags with carried := p.day.flags.carried || carried } } }
    finishPending (bound.foldl correctRemainder y)
  | none => y

/-- The pending close completes once it is due and no correction of the pending day is in hand (R153), also where a RECOMMISSION
has come between (log 78). -/
def tryComplete (y : Yard) : Yard :=
  match y.soa.pending with
  | some p =>
    if p.due && !p.started && !(y.soa.corrections.any (·.day == p.day.day)) then startCompletion y else y
  | none => y

/-- The pending close has become due (R153, R154). -/
def makeDue (y : Yard) : Yard := tryComplete (y.updSoa fun u => u.updPending fun p => { p with due := true })

/-- What CU returns for a period volume (R21, R148). -/
def periodResult (c : Correction) (y : Yard) : Yard :=
  let r := meterVolume y.yds.vapour (roundDiv c.ml 1000) c.press c.temp c.baro
  takePeriodVolume c.meter c.day c.period r.1 (c.estimated || r.2) y

/-- What CU returns for a remainder (R21, R153). -/
def remainderValue (r : Remainder) (y : Yard) : Yard :=
  takeRemainder r.meter (meterVolume y.yds.vapour (roundDiv r.ml 1000) r.press r.temp r.baro).1 y

/-- METER_VOLUME_RESULT: the oldest correction of the meter and period returns (R148, R149). -/
def meterResult (m : Meter) (period : Nat) (y : Yard) : Yard :=
  match takeFirst (fun c => c.meter == m && c.period == period) y.soa.corrections with
  | some (c, rest) => tryComplete (periodResult c (y.updSoa fun u => { u with corrections := rest }))
  | none => y

/-- REMAINDER_RESULT: the remainder of the meter returns (R153). -/
def remainderBack (m : Meter) (y : Yard) : Yard :=
  match takeFirst (fun r => r.meter == m) y.soa.remainders with
  | some (r, rest) => finishPending (remainderValue r (y.updSoa fun u => { u with remainders := rest }))
  | none => y

/-- The pending day is closed here and now, the results still in hand at CU worked first: a further day closes while it is
pending (R154, log 17). -/
def forcePending (y : Yard) : Yard :=
  match y.soa.pending with
  | some p =>
    let mine := y.soa.corrections.filter (·.day == p.day.day)
    let y := y.updSoa fun u =>
      { u with corrections := u.corrections.filter fun c => !(c.day == p.day.day) }
    let y := makeDue (mine.foldl (fun y c => periodResult c y) y)
    let rs := y.soa.remainders
    finishPending (rs.foldl (fun y r => remainderValue r y) (y.updSoa fun u => { u with remainders := [] }))
  | none => y

/-! ### Deltas and latches (R147, R152) -/

/-- A meter delta handed by QPR (R147). register is the meter's register after the sample. -/
def soaDelta (m : Meter) (counts : Nat) (before : Bool) (register : Option Nat) (y : Yard) : Yard :=
  if y.isCommitted then
    let y := y.updSoa fun u =>
      { u with seen := u.seen.set m ⟨register, (u.seen.get m).register, if before then none else some counts⟩ }
    if y.soa.current.isSome then
      let ml := (counts : Int) * y.yds.meterFactor m
      y.updSoa fun u =>
        if before && u.pending.isSome then
          u.updPending fun p => { p with day := p.day.updMeter m fun r => { r with remainder := r.remainder + ml } }
        else u.updCurrent (·.updMeter m fun r => { r with openAcc := r.openAcc + ml })
    else y
  else y

/-- The register seen of a meter is none once QPR sets its base afresh without a delta (R147). -/
def forgetSeen (m : Meter) (y : Yard) : Yard :=
  y.updSoa fun u => { u with seen := u.seen.set m ⟨none, none, none⟩ }

/-- What was seen within the reply before is put away when a new reply is handed (R152). -/
def newReply (y : Yard) : Yard :=
  y.updSoa fun u => { u with seen := Meter.list.foldl (fun t m => t.set m ⟨(t.get m).register, none, none⟩) u.seen }

/-- The bound meter whose primary point a point is (R152). -/
def Yds.meterAt (d : Yds) (p : Point) : Option Meter :=
  d.boundMeters.find? fun m => (d.bind.slots.get (meterSlot m)).primary == some p

/-- The remainder part of a latch: (L − P) modulo 1,000,000, held to no more than the delta; 0 when P is none (R152). -/
def remainderPart (latched : Nat) (seen : Option Nat) (delta : Nat) : Nat :=
  match seen with
  | some p => min ((((latched : Int) - (p : Int)) % 1000000).toNat) delta
  | none => 0

/-- A latched index handed by SCS (R152); none is taken once the completion of the pending close has begun (log 81). -/
def soaLatch (pt : Point) (latched : Nat) (y : Yard) : Yard :=
  match y.yds.meterAt pt, y.soa.pending with
  | some m, some p =>
    match (y.soa.seen.get m).delta with
    | some d =>
      if y.soa.markerOut && !(p.day.meters.get m).latched && !p.started then
        let ml := (remainderPart latched (y.soa.seen.get m).before d : Int) * y.yds.meterFactor m
        let y := y.updSoa fun u =>
          (u.updCurrent (·.updMeter m fun r => { r with openAcc := r.openAcc - ml })).updPending fun p =>
            { p with day := p.day.updMeter m fun r => { r with remainder := r.remainder + ml, latched := true } }
        let all := match y.soa.pending with
          | some p => y.yds.boundMeters.all fun m => (p.day.meters.get m).latched
          | none => false
        if all then makeDue y else y
      else y
    | none => y
  | _, _ => y

/-! ### The signals (R148 to R154, R159) -/

/-- The conditions that a closed record gives (R148). -/
def recConditions (r : PeriodRec) : Conditions where
  baro := r.entries.baro.last
  temp := r.entries.yardTemp.last
  press := ⟨r.entries.makePress.last,
    ⟨r.entries.outletOf.d1.last, r.entries.outletOf.d2.last, r.entries.outletOf.d3.last, r.entries.outletOf.d4.last,
      r.entries.outletOf.d5.last, r.entries.outletOf.d6.last, r.entries.outletOf.d7.last, r.entries.outletOf.d8.last⟩⟩

/-- One meter's period is corrected at a period close (R148). -/
def correctPeriod (r : PeriodRec) (y : Yard) (m : Meter) : Yard :=
  match y.soa.current with
  | some d =>
    let ml := (d.meters.get m).openAcc
    let est := (r.entries.get (meterSlot m)).estimated
    let y := y.updSoa fun u => u.updCurrent (·.updMeter m fun x => { x with openAcc := 0 })
    match (recConditions r).full m with
    | some (press, temp, baro) =>
      y.updSoa fun u => { u with corrections := u.corrections ++ [⟨m, r.day, r.period, ml, press, temp, baro, est⟩] }
    | none => takePeriodVolume m r.day r.period (roundDiv ml 1000) true y
  | none => y

/-- SOA takes a closed period record (R148, R149, R154). -/
def soaRecord (r : PeriodRec) (y : Yard) : Yard :=
  if y.isCommitted && y.soa.current.isSome then
    let y := y.yds.boundMeters.foldl (correctPeriod r) y
    y.updSoa fun u => u.updCurrent fun d =>
      { d with lastClosed := some r.period, conditions := some (recConditions r),
               flags := { d.flags with part := d.flags.part || r.partialFlag, gap := d.flags.gap || r.gap,
                                       estimated := d.flags.estimated || r.incomplete } }
  else y

/-- SOA takes a closing stock from HSU (R150). -/
def soaClosing (h : Holder) (c : Closing) (y : Yard) : Yard :=
  if y.isCommitted then
    y.updSoa fun u => u.updDay c.day fun d =>
      { d with closings := d.closings.set h (some ⟨c.stock, c.status, c.period⟩) }
  else y

/-- SOA takes the period close signal: the close for period 1 of the current day completes a pending close (R153). -/
def soaPeriodClose (period : Nat) (y : Yard) : Yard :=
  if y.isCommitted && y.soa.current.isSome && period == 1 then makeDue y else y

/-- SOA is told of a stop of the clock (R154). -/
def soaStop (y : Yard) : Yard :=
  if y.isCommitted && y.soa.pending.isSome then
    makeDue (y.updSoa fun u => u.updPending fun p =>
      { p with day := { p.day with flags := { p.day.flags with part := true } } })
  else y

/-- A day with every latch reported mark clear (R151). -/
def Day.unlatched (d : Day) : Day :=
  { d with meters := Meter.list.foldl (fun t m => t.set m { t.get m with latched := false }) d.meters }

/-- A day closes at once as a PARTIAL close: no marker, every remainder 0 mL, no meter carried (R154, R159). -/
def closePartial (y : Yard) : Yard × Option (Int × Bool) :=
  match y.soa.current with
  | some d =>
    let r := closeDay { d with flags := { d.flags with part := true } } y
    (r.1.updSoa fun u => { u with current := none }, some r.2)
  | none => (y, none)

/-- SOA takes a day close signal (R151, R154, R159, R180); the closing stock of a day closed PARTIAL is answered, for the
day that the period start of the same step opens. -/
def soaDayClose (onTime : Bool) (y : Yard) : Yard × Option (Int × Bool) :=
  if y.isCommitted && onTime then
    let y := forcePending y
    (y.updSoa fun u =>
      match u.current with
      | some d =>
        { u with current := none, markerOut := false, pending := some ⟨d.unlatched, false, false⟩ }
      | none => u, none)
  else
    let y := forcePending (y.updSoa fun u => u.updPending fun p =>
      { p with day := { p.day with flags := { p.day.flags with part := true } } })
    closePartial y

/-- SOA takes a period start signal (R146, R151, R154, R180); carry is the closing stock of a day closed PARTIAL in the
same step. -/
def soaPeriodStart (s : PeriodStart) (carry : Option (Int × Bool)) (y : Yard) : Yard :=
  if y.isCommitted then
    let gap := s.skipped.isSome
    match s.kind, y.soa.current with
    | .first, _ => openFresh s.day s.weekday s.dayType false y
    | .onTime, some _ => y
    | .onTime, none =>
      y.updSoa fun u => { u with current := some (.opened s.day s.weekday s.dayType .clear none) }
    | .resumed, some _ =>
      y.updSoa fun u => u.updCurrent fun d =>
        { d with flags := { d.flags with part := true, gap := d.flags.gap || gap } }
    | .resumed, none =>
      match carry with
      | some o =>
        y.updSoa fun u =>
          { u with current := some (.opened s.day s.weekday s.dayType ⟨true, false, false, gap⟩ (some o)) }
      | none => openFresh s.day s.weekday s.dayType gap y
  else y

/-- SOA is told that the DAY marker has been sent (R124, R151). -/
def soaMarkerSent (y : Yard) : Yard := y.updSoa fun u => { u with markerOut := true }

/-- SOA at an accepted COMMIT (R159). -/
def soaCommit (y : Yard) : Yard :=
  match y.gdc.clock with
  | some c =>
    match y.soa.current with
    | none => openFresh c.day c.weekday c.dayType false y
    | some _ => y.updSoa fun u => u.updCurrent fun d => { d with flags := { d.flags with part := true } }
  | none => y

end Sys2Proof.Machine
end

