-- ==== Sys2Proof/Machine/CommandList.lean ====
section
/-! DEFINITION. The command list of SCS (07 section 7.4): how an owner puts a command. -/

namespace Sys2Proof.Machine

/-- Whether a command is for a point (R128). -/
def Command.isFor (c : Command) (p : Point) : Bool := c.outstation == p.outstation && c.channel == p.channel

/-- A newer command takes the place of one pending for the same point: sends made 0, the in-flight mark clear (R128). -/
def Command.replaceBy (c : Command) (code : CmdCode) (value : Int) (owner : Owner) : Command :=
  { c with code := code, value := value, owner := owner, sends := 0, inFlight := false }

/-- The command list after an owner puts a command, and whether it was taken (R128). -/
def putInto (cs : List Command) (p : Point) (code : CmdCode) (value : Int) (owner : Owner) : List Command × Bool :=
  if cs.any (·.isFor p) then
    (cs.map fun c => if c.isFor p then c.replaceBy code value owner else c, true)
  else if cs.length < 32 then
    (cs ++ [⟨p.outstation, p.channel, code, value, owner, 0, false, false⟩], true)
  else (cs, false)

/-- An owner puts a command; false: the list is full, and the owner takes it at once as undelivered (R128). -/
def putCommand (p : Point) (code : CmdCode) (value : Int) (owner : Owner) (y : Yard) : Yard × Bool :=
  let r := putInto y.scs.commands p code value owner
  (y.updScs fun u => { u with commands := r.1 }, r.2)

/-- What became of a command, as its owner takes it (R129, R35, R85); undelivered carries the cause as COMMAND UNDELIVERED
codes it: 0 three failed sends, 1 list full, 2 LINE RESET (R168). -/
inductive CmdOutcome where
  | delivered
  | undelivered (cause : Nat)
  | refused
  | localHand
deriving DecidableEq, Repr

end Sys2Proof.Machine
end

