-- ==== Sys2Proof/Machine/Orders.lean ====
section
/-! DEFINITION. The movement sequencer MVS (03): valves, movement orders, coupled pairs, lagging holders, the yard trip.

A deed of MVS can bring about another at once (a command that finds the list full fails its valve, a failed valve moves an
order, an order that ends lets the next activate). The deeds are the type Deed; deed says what one does and which follow
it, and work does them in turn, those that follow before those that waited. -/

namespace Sys2Proof.Machine

/-! ### Codes (R168: the place in the list of the owning rule, counted from 0) -/

def Commanded.code : Commanded → Nat
  | .none => 0
  | .shut => 1
  | .cracked => 2
  | .opened => 3

def EndReason.code : EndReason → Nat
  | .endMet => 0
  | .topStop => 1
  | .landing => 2
  | .cancelled => 3
  | .valveStuck => 4
  | .localHand => 5
  | .readingLost => 6
  | .trip => 7
  | .coupling => 8

def sideCode : Side → Nat
  | .inlet => 0
  | .outlet => 1

/-- The reported position that equals a commanded one (R33). -/
def Commanded.asReport : Commanded → Option Reported
  | .none => Option.none
  | .shut => some .shut
  | .cracked => some .cracked
  | .opened => some .opened

/-- Whether a valve reports the position it is commanded to. -/
def ValveRec.there (r : ValveRec) : Bool := r.commanded.asReport == some r.reported

def ValveRec.ticking (r : ValveRec) : Bool :=
  match r.timer with
  | .idle => false
  | .running _ _ => true

/-! ### Orders and their valves -/

def OrderState.active : OrderState → Bool
  | .waiting => false
  | _ => true

/-- The kinds that fill: FILL and FLOAT. -/
def OrderKind.fills : OrderKind → Bool
  | .draw => false
  | _ => true

/-- The kinds that draw: DRAW and FLOAT. -/
def OrderKind.draws : OrderKind → Bool
  | .fill => false
  | _ => true

/-- The valves a kind uses (R39). -/
def OrderKind.used : OrderKind → List Side
  | .fill => [.inlet]
  | .draw => [.outlet]
  | .float => [.inlet, .outlet]

/-- The valve a kind does not use (R43). -/
def OrderKind.unused : OrderKind → List Side
  | .fill => [.outlet]
  | .draw => [.inlet]
  | .float => []

/-- The holders worked with a holder: both of a coupled pair for its leader, else the holder alone (R57). -/
def Mvs.worked (m : Mvs) (h : Holder) : List Holder :=
  if m.isCoupled h && h.leads then [h, h.partner] else [h]

/-- The holder whose orders work a holder: the leader of its coupled pair, else the holder itself. -/
def Mvs.orderHolder (m : Mvs) (h : Holder) : Holder :=
  if m.isCoupled h && !h.leads then h.partner else h

/-- The active order that works a holder (R42: at most one). -/
def Mvs.activeOrder (m : Mvs) (h : Holder) : Option Order :=
  m.orders.find? fun o => o.state.active && o.holder == m.orderHolder h

def Mvs.orderOf (m : Mvs) (number : Nat) : Option Order := m.orders.find? (·.number == number)

def Mvs.updOrder (m : Mvs) (number : Nat) (f : Order → Order) : Mvs :=
  { m with orders := m.orders.map fun o => if o.number == number then f o else o }

def Mvs.dropOrder (m : Mvs) (number : Nat) : Mvs :=
  { m with orders := m.orders.filter fun o => !(o.number == number) }

/-- The bound valves of some sides of some holders, in the order in which one deed commands them: the leader's before the
follower's, a holder's in the order of the sides, which is the inlet first (log 61). -/
def Yds.boundValves (d : Yds) (hs : List Holder) (sides : List Side) : List Valve :=
  (hs.flatMap fun h => sides.map fun s => (⟨h, s⟩ : Valve)).filter fun v => (d.bind.valve v).isSome

/-- The bound used valves of an order (R44, R49). -/
def usedValves (y : Yard) (o : Order) : List Valve := y.yds.boundValves (y.mvs.worked o.holder) o.kind.used

/-- The bound valves of an order, used and not used (R34). -/
def allValves (y : Yard) (o : Order) : List Valve := y.yds.boundValves (y.mvs.worked o.holder) [.inlet, .outlet]

/-- The active order that a valve belongs to: that of its holder, or of the leader of its pair, where the valve is bound; a valve
that is not bound belongs to no order (R34). -/
def orderOfValve (y : Yard) (v : Valve) : Option Order :=
  if (y.yds.bind.valve v).isSome then y.mvs.activeOrder v.holder else none

/-- The accepted travel that MVS's tests look at: that of the record as it stands, also where CU returns a computation formed
on an earlier one (R29, R45, log 65). -/
def travelOf (y : Yard) (h : Holder) : Option Int := (y.hsu.holders.get h).travel.map (·.value)

def reportsShut (y : Yard) (v : Valve) : Bool := (y.mvs.valve v).reported == .shut

/-- A holder's pressure contribution: the measured pressure while in discord, else the computed pressure (R27). -/
def contribution (y : Yard) (h : Holder) : Int :=
  let r := y.hsu.holders.get h
  if r.discord then
    match r.press with
    | some p => p.value
    | none => r.pressure
  else r.pressure

/-- The worse of two statuses (R28). -/
def Status.worse : Status → Status → Status
  | .unknown, _ => .unknown
  | _, .unknown => .unknown
  | .estimated, _ => .estimated
  | _, .estimated => .estimated
  | .good, .good => .good

/-- The pair stock of a leader with its status: the sum and the worse status, none with UNKNOWN when either is none (R28). -/
def pairStock (y : Yard) (h : Holder) : Option Int × Status :=
  let a := y.hsu.holders.get h
  let b := y.hsu.holders.get h.partner
  match a.stock, b.stock with
  | some x, some z => (some (x + z), a.status.worse b.status)
  | _, _ => (none, .unknown)

/-- The stock an order's end condition looks at: the pair stock for a coupled leader (R57), as it stands at the reading of
either holder (log 50). -/
def orderStock (y : Yard) (h : Holder) : Option Int × Status :=
  if y.mvs.isCoupled h && h.leads then pairStock y h
  else ((y.hsu.holders.get h).stock, (y.hsu.holders.get h).status)

/-! ### Cupping bands (R6) -/

def insideBand (b : Int × Int) (t : Int) : Bool := decide (b.1 ≤ t) && decide (t ≤ b.2)

def holderBands (y : Yard) (h : Holder) : List (Int × Int) :=
  match y.yds.geometry.get h with
  | some g => g.bands
  | none => []

/-- Whether a holder's accepted travel lies inside one of its bands. -/
def insideAny (y : Yard) (h : Holder) : Bool :=
  match travelOf y h with
  | some t => (holderBands y h).any (insideBand · t)
  | none => false

/-- The position a used valve is commanded to: CRACKED while any holder of the order lies inside a band, else OPEN (R43, R47). -/
def workingPosition (y : Yard) (o : Order) : Commanded :=
  if (y.mvs.worked o.holder).any (insideAny y) then .cracked else .opened

/-- Whether a travel is at or above a holder's top stop (R43, R45). -/
def atTop (y : Yard) (h : Holder) (t : Int) : Bool :=
  match y.yds.geometry.get h with
  | some g => decide (g.topStop ≤ t)
  | none => false

/-- Whether a travel is at or below a holder's landing point. -/
def atLanding (y : Yard) (h : Holder) (t : Int) : Bool :=
  match y.yds.geometry.get h with
  | some g => decide (t ≤ g.landing)
  | none => false

/-- The limit that a kind meets among holders with their travels: TOP STOP first, then LANDING (R43). -/
def limitMet (y : Yard) (k : OrderKind) (hs : List Holder) : Option EndReason :=
  let at? (test : Holder → Int → Bool) (h : Holder) : Bool :=
    match travelOf y h with
    | some t => test h t
    | none => false
  if k.fills && hs.any (at? (atTop y)) then some .topStop
  else if k.draws && hs.any (at? (atLanding y)) then some .landing
  else none

/-! ### Deeds -/

inductive Deed where
  /-- Command a position for a valve (R34). -/
  | command (v : Valve) (p : Commanded)
  /-- A valve has failed (R37). -/
  | failed (v : Valve)
  /-- An OPENING or RUNNING order goes to CLOSING (R49). -/
  | close (number : Nat) (reason : EndReason)
  /-- The test for completion of a CLOSING order (R49). -/
  | testComplete (number : Nat)
  /-- The test that makes an OPENING order RUNNING (R44). -/
  | testRunning (number : Nat)
  /-- A WAITING order ends and is removed whatever its standing count (R55, R62). -/
  | drop (number : Nat) (reason : EndReason)
  /-- The trip replaces the reason of a CLOSING order (R62). -/
  | reReason (number : Nat) (reason : EndReason)
  /-- Try to activate the orders of a holder (R42). -/
  | activate (h : Holder)
  /-- The test on reports of SHUT HOLDER (R54). -/
  | testShut (h : Holder)
  /-- The lag test (R58). -/
  | lag
deriving DecidableEq, Repr

/-- The command code of a valve position (R107). -/
def Commanded.cmdCode : Commanded → CmdCode
  | .cracked => .valveCrack
  | .opened => .valveOpen
  | _ => .valveShut

/-- MVS commands a position for a valve: the position is written, the timer set IDLE, and a command put unless the valve
already reports the position; a full list fails the valve (R34, R35). -/
def commandValve (v : Valve) (p : Commanded) (y : Yard) : Yard × List Deed :=
  match y.yds.bind.valve v with
  | none => (y, [])
  | some pt =>
    if y.isCommitted then
      let r := y.mvs.valve v
      let y := y.updMvs fun m => m.setValve v { r with commanded := p, timer := .idle }
      if p.asReport == some r.reported then (y, [])
      else
        let q := putCommand pt p.cmdCode 0 (.valve v) y
        (q.1, if q.2 then [] else [.failed v])
    else (y, [])

/-- One step of a rule commands a position for several valves in turn. Those whose command found the list full fail once all
have been commanded (R34, R128, log 54). -/
def commandAll (p : Commanded) : List Valve → Yard → Yard × List Deed
  | [], y => (y, [])
  | v :: vs, y =>
    let r := commandValve v p y
    let q := commandAll p vs r.1
    (q.1, r.2 ++ q.2)

/-- Raise ORDER ENDED with the end reason in the low byte and the standing count in the next (R50, R168). -/
def raiseEnded (o : Order) (reason : EndReason) (y : Yard) : Yard :=
  raiseNotice .orderEnded o.number ((reason.code + 256 * o.standing : Nat) : Int) y

/-- Raise VALVE STUCK with the valve in the low byte and its commanded position in the next (R37, R168). -/
def raiseStuck (v : Valve) (y : Yard) : Yard :=
  raiseNotice .valveStuck v.holder.number ((sideCode v.side + 256 * (y.mvs.valve v).commanded.code : Nat) : Int) y

def raiseLocal (v : Valve) (y : Yard) : Yard :=
  raiseNotice .localControl v.holder.number (sideCode v.side : Int) y

def setUnmanaged (hs : List Holder) (b : Bool) (y : Yard) : Yard :=
  y.updMvs fun m => { m with unmanaged := hs.foldl (fun t h => t.set h b) m.unmanaged }

def setShutPending (hs : List Holder) (b : Bool) (y : Yard) : Yard :=
  y.updMvs fun m => { m with shutPending := hs.foldl (fun t h => t.set h b) m.shutPending }

def setTimer (v : Valve) (t : Timer) (y : Yard) : Yard :=
  y.updMvs fun m => m.setValve v { m.valve v with timer := t }

/-- The lag test follows when a DRAW or FLOAT leaves RUNNING (R58: when the drawing set changes). -/
def lagIfRunning (o : Order) : List Deed := if o.state == .running && o.kind.draws then [.lag] else []

/-- An OPENING or RUNNING order goes to CLOSING: the reason is written and its bound used valves are commanded SHUT; then
completion is tested (R49). -/
def closeOrder (number : Nat) (reason : EndReason) (y : Yard) : Yard × List Deed :=
  match y.mvs.orderOf number with
  | some o =>
    if o.state == .opening || o.state == .running then
      let y := y.updMvs (·.updOrder number fun o => { o with state := .closing, reason := some reason })
      let c := commandAll .shut (usedValves y o) y
      (c.1, c.2 ++ [.testComplete number] ++ lagIfRunning o)
    else (y, [])
  | none => (y, [])

/-- A failed valve: taken by the active order it belongs to; a valve of none, and so one released since its last command too,
leaves its holder UNMANAGED with VALVE STUCK raised (R34, R37, R51). -/
def valveFails (v : Valve) (y : Yard) : Yard × List Deed :=
  let y := setTimer v .idle y
  match orderOfValve y v with
  | some o =>
    if o.state == .closing then
      let hs := y.mvs.worked o.holder
      let y := y.updMvs (·.dropOrder o.number)
      let y := raiseEnded o .valveStuck y
      let y := setUnmanaged hs true y
      (raiseStuck v y, [.activate o.holder])
    else closeOrder o.number .valveStuck y
  | none =>
    let y := setUnmanaged [v.holder] true y
    let y := setShutPending [v.holder] false y
    (raiseStuck v y, [])

/-- An OPENING order becomes RUNNING when every bound used valve reports its commanded position (R44). -/
def runOrder (number : Nat) (y : Yard) : Yard × List Deed :=
  match y.mvs.orderOf number with
  | some o =>
    if o.state == .opening && (usedValves y o).all (fun v => (y.mvs.valve v).there) then
      (y.updMvs (·.updOrder number fun o => { o with state := .running }), if o.kind.draws then [.lag] else [])
    else (y, [])
  | none => (y, [])

/-- Whether a standing order is kept when it ends (R50). -/
def keptAtEnd (y : Yard) (o : Order) (reason : EndReason) : Bool :=
  decide (o.standing > 0) && (reason == .endMet || reason == .topStop || reason == .landing)
    && !(y.mvs.tripped && o.kind.fills)

/-- An order ends: ORDER ENDED, then kept as a standing order or removed, then activation is tried (R50). An order kept shows
no end reason while it waits again (log 53). -/
def finishOrder (number : Nat) (reason : EndReason) (y : Yard) : Yard × List Deed :=
  match y.mvs.orderOf number with
  | some o =>
    let y' := raiseEnded o reason y
    let y' :=
      if keptAtEnd y o reason then
        y'.updMvs (·.updOrder number fun o =>
          { o with standing := o.standing - 1, lagOwn := false, lagOther := false, stockDir := .unset,
                   state := .waiting, eligible := false, reason := none })
      else y'.updMvs (·.dropOrder number)
    (y', [.activate o.holder])
  | none => (y, [])

/-- A CLOSING order is complete when every bound valve of its holders reports SHUT, and then ends (R49, R50). -/
def completeOrder (number : Nat) (y : Yard) : Yard × List Deed :=
  match y.mvs.orderOf number with
  | some o =>
    if o.state == .closing && (allValves y o).all (reportsShut y) then finishOrder number (o.reason.getD .endMet) y
    else (y, [])
  | none => (y, [])

/-- The earliest-accepted eligible WAITING order of a holder (R42). -/
def Mvs.nextEligible (m : Mvs) (h : Holder) : Option Order :=
  m.orders.find? fun o => o.state == .waiting && o.eligible && o.holder == h

/-- The end an order meets at activation: a limit of travel, or UNTIL PERIOD for the current period (R43, R46). -/
def endAtActivation (y : Yard) (o : Order) : Option EndReason :=
  match limitMet y o.kind (y.mvs.worked o.holder) with
  | some r => some r
  | none =>
    match o.finish, y.gdc.clock with
    | .untilPeriod p, some c => if c.period = p then some .endMet else none
    | _, _ => none

/-- Try to activate the orders of a holder, or of its pair through the leader (R42, R43). All its valves are commanded and the
order is OPENING before a command that found the list full fails, so that the failure finds it active and closes it, and a
second one abandons it (log 54, log 63). -/
def tryActivate (h : Holder) (y : Yard) : Yard × List Deed :=
  let l := y.mvs.orderHolder h
  let hs := y.mvs.worked l
  if (y.mvs.activeOrder l).isNone && hs.all (fun x => (travelOf y x).isSome) && y.isCommitted then
    match y.mvs.nextEligible l with
    | none => (y, [])
    | some o =>
      match endAtActivation y o with
      | some r => finishOrder o.number r y
      | none =>
        let y := setUnmanaged hs false y
        let y := setShutPending hs false y
        let y := y.updMvs (·.updOrder o.number fun o => { o with state := .opening, eligible := false })
        let p := workingPosition y o
        let shut := commandAll .shut (y.yds.boundValves hs o.kind.unused) y
        let put := commandAll p (usedValves y o) shut.1
        (put.1, shut.2 ++ put.2 ++ [.testRunning o.number])
  else (y, [])

/-- The test of SHUT HOLDER: when every bound valve of a holder with its mark set reports SHUT, the mark and the UNMANAGED
flag are cleared (R54). -/
def testShutHolder (h : Holder) (y : Yard) : Yard :=
  if y.mvs.shutPending.get h && (y.yds.boundValves [h] [.inlet, .outlet]).all (reportsShut y) then
    setUnmanaged [h] false (setShutPending [h] false y)
  else y

/-- The order that draws a holder: a RUNNING DRAW or FLOAT that works it (R58). -/
def drawnBy (y : Yard) (h : Holder) : Option Order :=
  match y.mvs.activeOrder h with
  | some o => if o.state == .running && o.kind.draws then some o else none
  | none => none

/-- The drawing set (R58). -/
def drawingSet (y : Yard) : List Holder := Holder.list.filter fun h => (drawnBy y h).isSome

/-- The lag mark that an order holds for a holder. -/
def Order.lagMark (o : Order) (h : Holder) : Bool := if o.holder == h then o.lagOwn else o.lagOther

def Order.setLag (o : Order) (h : Holder) : Order :=
  if o.holder == h then { o with lagOwn := true } else { o with lagOther := true }

/-- One holder of the lag test against the highest contribution (R58). -/
def lagOne (best : Int) (y : Yard) (h : Holder) : Yard :=
  match drawnBy y h with
  | some o =>
    let short := best - contribution y h
    if short > (y.yds.limits.get h).lagThreshold && !o.lagMark h then
      let y := raiseNotice .laggingHolder h.number short y
      y.updMvs (·.updOrder o.number (·.setLag h))
    else y
  | none => y

/-- The lag test over the drawing set, H1 to H6 (R58, log 60). -/
def lagTest (y : Yard) : Yard :=
  match drawingSet y with
  | a :: b :: rest =>
    let best := (b :: rest).foldl (fun m h => max m (contribution y h)) (contribution y a)
    (a :: b :: rest).foldl (lagOne best) y
  | _ => y

/-- What one deed does, and the deeds that follow it at once. -/
def deed : Deed → Yard → Yard × List Deed
  | .command v p, y => commandValve v p y
  | .failed v, y => valveFails v y
  | .close number reason, y => closeOrder number reason y
  | .testComplete number, y => completeOrder number y
  | .testRunning number, y => runOrder number y
  | .drop number reason, y =>
    match y.mvs.orderOf number with
    | some o => ((raiseEnded o reason y).updMvs (·.dropOrder number), [])
    | none => (y, [])
  | .reReason number reason, y =>
    (y.updMvs (·.updOrder number fun o => if o.state == .closing then { o with reason := some reason } else o), [])
  | .activate h, y => tryActivate h y
  | .testShut h, y => (testShutHolder h y, [])
  | .lag, y => (lagTest y, [])

/-- The deeds of one round in turn, with the deeds that follow from them. -/
def doAll : List Deed → Yard → Yard × List Deed
  | [], y => (y, [])
  | d :: ds, y =>
    let r := deed d y
    let q := doAll ds r.1
    (q.1, r.2 ++ q.2)

/-- Do deeds in rounds, those that follow from a round making the next. The number bounds the rounds; a step has far fewer
(each of at most 16 orders opens, closes and ends at most once in a step; log 13). -/
def workN : Nat → List Deed → Yard → Yard
  | 0, _, y => y
  | _, [], y => y
  | n + 1, d :: ds, y =>
    let r := doAll (d :: ds) y
    workN n r.2 r.1

/-- Do deeds until none is left (log 13). -/
def work (ds : List Deed) (y : Yard) : Yard := workN 2000 ds y

/-! ### Outcomes and reports of valves (R35, R36, R38) -/

/-- A LOCAL outcome: the valve stands commanded NONE, its holder is UNMANAGED, LOCAL CONTROL is raised, and the active order
that the valve belongs to is abandoned (R34, R35, R38, R52, R57). -/
def valveLocal (v : Valve) (y : Yard) : Yard :=
  let y := y.updMvs fun m => m.setValve v { m.valve v with commanded := .none, timer := .idle }
  let y := raiseLocal v (setUnmanaged [v.holder] true y)
  let y := setShutPending [v.holder] false y
  match orderOfValve y v with
  | some o =>
    let others := (allValves y o).filter fun w => w != v && (y.mvs.valve w).commanded != .shut
    let c := commandAll .shut others (setUnmanaged (y.mvs.worked o.holder) true y)
    let y := raiseEnded o .localHand (c.1.updMvs (·.dropOrder o.number))
    work (c.2 ++ lagIfRunning o ++ [.activate o.holder]) y
  | none => y

/-- MVS takes the outcome of a valve command (R35). -/
def valveOutcome (v : Valve) (r : CmdOutcome) (y : Yard) : Yard :=
  match r with
  | .delivered =>
    if (y.mvs.valve v).there then setTimer v .idle y
    else setTimer v (.running y.now y.yds.valveLimit) y
  | .undelivered _ => work [.failed v] y
  | .refused => work [.failed v] y
  | .localHand => valveLocal v y

/-- Whether a command for a valve stands in the command list. -/
def commandAwaits (y : Yard) (v : Valve) : Bool := y.scs.commands.any (·.owner == .valve v)

/-- A report of CRACKED, OPEN or MOVING that marks the holder UNMANAGED (R36). -/
def valveMovedItself (v : Valve) (y : Yard) : Yard :=
  let r := y.mvs.valve v
  if r.commanded == .none then
    let was := y.mvs.unmanaged.get v.holder
    let y := setUnmanaged [v.holder] true y
    if was then y else raiseLocal v y
  else if r.commanded == .shut && !r.ticking && !commandAwaits y v && (y.mvs.activeOrder v.holder).isNone then
    raiseLocal v (setUnmanaged [v.holder] true y)
  else y

/-- MVS takes a valve report (R36), then tests its order (R44, R49) and the shut pending mark (R54). -/
def valveReport (v : Valve) (rep : Reported) (y : Yard) : Yard :=
  let ticking := (y.mvs.valve v).ticking
  let y := y.updMvs fun m => m.setValve v { m.valve v with reported := rep }
  let y := if (y.mvs.valve v).there then setTimer v .idle y else y
  let y :=
    match rep with
    | .fault =>
      let y := setTimer v .idle y
      if ticking || (orderOfValve y v).isSome then work [.failed v] y else y
    | .cracked => valveMovedItself v y
    | .opened => valveMovedItself v y
    | .moving => valveMovedItself v y
    | .shut => y
    | .unknown => y
  match y.mvs.activeOrder v.holder with
  | some o => work [.testRunning o.number, .testComplete o.number, .testShut v.holder] y
  | none => work [.testShut v.holder] y

/-! ### The yard trip (R59 to R62) -/

def TripCause.code : TripCause → Nat
  | .input => 0
  | .request => 1
  | .overTop h => 2 + 256 * h.number

/-- What the trip does to an order that waits (R62). -/
def tripWaiting (o : Order) : List Deed := if o.state == .waiting then [.drop o.number .trip] else []

/-- What the trip does to an active order (R62). -/
def tripActive (o : Order) : List Deed :=
  match o.state with
  | .waiting => []
  | .closing => if o.kind.fills then [.reReason o.number .trip] else []
  | _ => if o.kind.fills then [.close o.number .trip] else []

/-- The yard trips (R62): the orders that wait end first, so that none of them activates in the place of an order that the
trip closes (log 20). -/
def tripYard (cause : TripCause) (y : Yard) : Yard :=
  let y := y.updMvs fun m => { m with tripped := true, tripCause := some cause }
  let y := raiseNotice .trip 0 (cause.code : Int) y
  work (y.mvs.orders.flatMap tripWaiting ++ y.mvs.orders.flatMap tripActive) y

/-! ### Readings (R45 to R48, R61) -/

/-- An end condition at a reading: whether it is met, and the stock direction that stands after it (R46). -/
def endMetAt (y : Yard) (o : Order) : Bool × StockDir :=
  match o.finish with
  | .untilTravel x =>
    match travelOf y o.holder with
    | some t => (if o.kind == .fill then decide (x ≤ t) else decide (t ≤ x), o.stockDir)
    | none => (false, o.stockDir)
  | .untilStock v =>
    match orderStock y o.holder with
    | (some q, st) =>
      if st == .unknown then (false, o.stockDir)
      else
        match o.kind with
        | .fill => (decide (v ≤ q), o.stockDir)
        | .draw => (decide (q ≤ v), o.stockDir)
        | .float =>
          match o.stockDir with
          | .rising => (decide (v ≤ q), .rising)
          | .falling => (decide (q ≤ v), .falling)
          | .unset => if q < v then (false, .rising) else if v < q then (false, .falling) else (true, .unset)
    | (none, _) => (false, o.stockDir)
  | _ => (false, o.stockDir)

/-- BAND PASSED for each band crossed between the previous travel and the new, lower bands first (R48). -/
def bandsPassed (h : Holder) (prev t : Int) : Nat → List (Int × Int) → Yard → Yard
  | _, [], y => y
  | k, b :: bs, y =>
    let crossed := (decide (prev < b.1) && decide (b.2 < t)) || (decide (b.2 < prev) && decide (t < b.1))
    bandsPassed h prev t (k + 1) bs (if crossed then raiseNotice .bandPassed h.number (k : Int) y else y)

/-- Step 4 of R45: each used valve not already commanded it takes the working position (R47), then BAND PASSED (R48). -/
def throttle (h : Holder) (t : Int) (o : Order) (y : Yard) : Yard :=
  let p := workingPosition y o
  let c := commandAll p ((usedValves y o).filter fun v => (y.mvs.valve v).commanded != p) y
  let y := work c.2 c.1
  match y.mvs.prevTravel.get h with
  | some prev => bandsPassed h prev t 1 (holderBands y h) y
  | none => y

/-- The tests of R45 on an OPENING or RUNNING order at a reading of one of its holders. -/
def orderReading (h : Holder) (o : Order) (y : Yard) : Yard :=
  match travelOf y h with
  | none => work [.close o.number .readingLost] y
  | some t =>
    match limitMet y o.kind [h] with
    | some r => work [.close o.number r] y
    | none =>
      let e := endMetAt y o
      let y := y.updMvs (·.updOrder o.number fun o => { o with stockDir := e.2 })
      if e.1 then work [.close o.number .endMet] y else throttle h t o y

/-- The over-top test, made on every reading of a present holder while COMMITTED (R61). -/
def overTop (h : Holder) (y : Yard) : Yard :=
  if y.isCommitted then
    match travelOf y h, y.yds.geometry.get h with
    | some t, some g => if g.full ≤ t then tripYard (.overTop h) y else y
    | _, _ => y
  else y

/-- Whether a reading makes a WAITING order eligible by its WHEN (R41). -/
def whenMet (h : Holder) (t : Option Int) (o : Order) : Bool :=
  o.state == .waiting && !o.eligible &&
    match o.start, t with
    | .whenAbove g x, some v => g == h && decide (x < v)
    | .whenBelow g x, some v => g == h && decide (v < x)
    | _, _ => false

/-- The WHEN conditions at a reading; each order that becomes eligible lets activation be tried, in list order (R41, R42,
log 62). -/
def whenReading (h : Holder) (y : Yard) : Yard :=
  let met := y.mvs.orders.filter (whenMet h (travelOf y h))
  let y := y.updMvs fun m =>
    { m with orders := m.orders.map fun o => if whenMet h (travelOf y h) o then { o with eligible := true } else o }
  work (met.map (fun o => Deed.activate o.holder) ++ [.activate h]) y

/-- MVS takes a reading of a holder: the tests of R45, the over-top test (R61), WHEN and activation (R41, R42), and the
previous travel written at the end (R48). WHEN and activation come last (log 22). -/
def mvsReading (h : Holder) (y : Yard) : Yard :=
  let y :=
    match y.mvs.activeOrder h with
    | some o => if o.state == .opening || o.state == .running then orderReading h o y else y
    | none => y
  let y := whenReading h (overTop h y)
  y.updMvs fun m => { m with prevTravel := m.prevTravel.set h (travelOf y h) }

/-- A new pressure contribution of a holder: the lag test when the holder is in the drawing set (R29, R58). -/
def newContribution (h : Holder) (y : Yard) : Yard :=
  if (drawnBy y h).isSome then lagTest y else y

/-- MVS takes a period start signal: UNTIL PERIOD (R46), then AT PERIOD and activation (R41, R42), each over the orders in
list order (log 62). -/
def mvsPeriodStart (p : Nat) (y : Yard) : Yard :=
  let ends := y.mvs.orders.filter fun o =>
    (o.state == .opening || o.state == .running) && o.finish == .untilPeriod p
  let y := work (ends.map fun o => .close o.number .endMet) y
  let starts := y.mvs.orders.filter fun o => o.state == .waiting && o.start == .atPeriod p
  let y := y.updMvs fun m =>
    { m with orders := m.orders.map fun o =>
        if o.state == .waiting && o.start == .atPeriod p then { o with eligible := true } else o }
  work (starts.map fun o => .activate o.holder) y

end Sys2Proof.Machine
end

