-- ==== Sys2Proof/Machine/Stock.lean ====
section
/-! DEFINITION. The holder stock unit HSU (02): samples and changes of source, stock and closing computations, pressure
discord. -/

namespace Sys2Proof.Machine

/-- A quantity as HSU records it: its value and source, or none (R22). -/
def QRec.sampled (r : QRec) : Option Sampled :=
  if r.source == .none then none else r.value.map (⟨·, r.source⟩)

/-- The lifts 1 to n of a holder (R16). -/
def Yds.liftsOf (d : Yds) (h : Holder) : List Lift :=
  match d.holders.get h with
  | some r => (r.lifts.toList.take r.count).filterMap id
  | none => []

/-- The temperature handed: the holder's own, or YARD TEMP's standing in (R23). -/
def handedTemp (own : Option Sampled) (yard : Option Int) : Option (Int × Option Source) :=
  match own with
  | some t => some (t.value, some t.source)
  | none => yard.map (·, none)

/-- A stock computation of a holder from a travel, a temperature and a barometer, none when an input is none (R23, R25). -/
def jobOf (y : Yard) (h : Holder) (travel : Option Sampled) (temp : Option (Int × Option Source))
    (baro : Option Int) : Option StockJob :=
  match y.yds.geometry.get h, travel, temp, baro with
  | some g, some t, some w, some b => some ⟨h, y.yds.liftsOf h, g.zones, t.value, t.source, w.1, w.2, b⟩
  | _, _, _, _ => none

/-- The live computation of a holder (R23). -/
def liveJob (y : Yard) (h : Holder) : Option StockJob :=
  let r := y.hsu.holders.get h
  jobOf y h r.travel (handedTemp r.temp y.qpr.recs.yardTemp.value) (y.hsu.baro.map (·.value))

/-- A standing assessment without a computation: the status is UNKNOWN, the stock stands, and the figures are handed to
MVS (R24, R29). -/
def assess (h : Holder) (y : Yard) : Yard :=
  mvsReading h (y.updHolder h fun r => { r with status := .unknown })

/-- HSU forms a holder's stock: it hands the computation to CU, or makes the standing assessment (R23, R24, R30). -/
def formStock (h : Holder) (y : Yard) : Yard :=
  if y.isCommitted && y.yds.holderPresent h then
    match liveJob y h with
    | some j => y.updHsu fun u => { u with stockJobs := u.stockJobs ++ [j] }
    | none => assess h y
  else y

/-- Several holders at one event, in the order of the list, which is H1 to H6 (log 52). -/
def formAll (hs : List Holder) (y : Yard) : Yard := hs.foldl (fun y h => formStock h y) y

/-- HSU forms the stock of every present holder: one for which no computation can be handed, so one with no accepted travel too,
gets the standing assessment (R23, R24; DEDUCED, log 90). -/
def formPresent (y : Yard) : Yard := formAll y.yds.presentHolders y

/-- STOCK_COMPUTATION_RESULT: CU returns the oldest computation of the holder; the figures are written, and handed to MVS
(R23, R24, R29), the reading before the new contribution (log 51). -/
def stockBack (h : Holder) (y : Yard) : Yard :=
  match takeFirst (fun j => j.holder == h) y.hsu.stockJobs with
  | some (j, rest) =>
    let before := contribution y h
    let r := stockResult y.yds.vapour j
    let y := y.updHsu fun u => { u with stockJobs := rest }
    let y := y.updHolder h fun d =>
      { d with zone := r.zone, pressure := r.pressure, stock := some r.stock, clamped := r.clamped,
               status := jobStatus j r.clamped }
    let y := mvsReading h y
    if contribution y h = before then y else newContribution h y
  | none => y

/-! ### The closing stock (R25) -/

/-- What an entry of a closed record gives: its last value with the source at close, none when that is NONE (R25). -/
def PEntry.closed (e : PEntry) : Option Sampled :=
  if e.source == .none then none else e.last.map (⟨·, e.source⟩)

/-- The closing computation of a holder from a closed record (R25). -/
def recordJob (y : Yard) (r : PeriodRec) (h : Holder) : Option StockJob :=
  jobOf y h (r.entries.travel.get h).closed
    (handedTemp (r.entries.gasTemp.get h).closed (r.entries.yardTemp.closed.map (·.value)))
    (r.entries.baro.closed.map (·.value))

/-- HSU records a closing stock and hands it to SOA (R25). -/
def recordClosing (h : Holder) (c : Closing) (y : Yard) : Yard :=
  soaClosing h c (y.updHolder h fun r => { r with closing := some c })

/-- HSU forms the closing stock of one holder (R25). -/
def closeHolder (rec : PeriodRec) (y : Yard) (h : Holder) : Yard :=
  match recordJob y rec h with
  | some j => y.updHsu fun u => { u with closingJobs := u.closingJobs ++ [⟨j, rec.day, rec.period⟩] }
  | none => recordClosing h ⟨(y.hsu.holders.get h).stock, .unknown, rec.day, rec.period⟩ y

/-- HSU takes a closed period record (R25). -/
def hsuRecord (rec : PeriodRec) (y : Yard) : Yard :=
  if y.isCommitted then y.yds.presentHolders.foldl (closeHolder rec) y else y

/-- CLOSING_STOCK_RESULT: CU returns the oldest closing computation of the holder (R25). -/
def closingBack (h : Holder) (y : Yard) : Yard :=
  match takeFirst (fun j => j.job.holder == h) y.hsu.closingJobs with
  | some (j, rest) =>
    let r := stockResult y.yds.vapour j.job
    recordClosing h ⟨some r.stock, jobStatus j.job r.clamped, j.day, j.period⟩
      (y.updHsu fun u => { u with closingJobs := rest })
  | none => y

/-! ### Pressure discord (R26, R27) -/

/-- The counters and the flag after one compared sample, and whether PRESSURE DISCORD is raised (R26, R27). -/
def discordTest (within : Bool) (r : HolderDyn) : HolderDyn × Bool :=
  if r.discord then
    if within then
      if r.inCount + 1 ≥ 3 then ({ r with discord := false, outCount := 0, inCount := 0 }, false)
      else ({ r with inCount := r.inCount + 1 }, false)
    else ({ r with inCount := 0 }, false)
  else if within then ({ r with outCount := 0 }, false)
  else if r.outCount + 1 ≥ 3 then ({ r with discord := true, outCount := 0, inCount := 0 }, true)
  else ({ r with outCount := r.outCount + 1 }, false)

/-- An accepted HOLDER PRESS sample (R26, R27, R29). PRESSURE DISCORD is raised before MVS is handed the new contribution and
makes its lag test (DESIGN CHOICE, log 91). -/
def pressSample (h : Holder) (s : Sampled) (y : Yard) : Yard :=
  let y := y.updHolder h fun r => { r with press := some s }
  let r := y.hsu.holders.get h
  let y :=
    if y.isCommitted && r.travel.isSome then
      let diff := s.value - r.pressure
      let t := discordTest (decide ((diff.natAbs : Int) ≤ (y.yds.limits.get h).discordTol)) r
      let y := y.updHolder h fun _ => t.1
      if t.2 then raiseNotice .pressureDiscord h.number diff y else y
    else y
  newContribution h y

/-- A change of source of HOLDER PRESS that comes without a sample (R24, R27). -/
def pressSource (h : Holder) (s : Option Sampled) (y : Yard) : Yard :=
  let y := y.updHolder h fun r =>
    match s with
    | some v => { r with press := some v }
    | none => { r with press := none, discord := false, outCount := 0, inCount := 0 }
  newContribution h y

/-! ### Samples and changes of source (R23, R24) -/

/-- HSU takes a change of source of YARD TEMP (R24). -/
def yardTempChange (y : Yard) : Yard :=
  formAll (y.yds.presentHolders.filter fun h => (y.hsu.holders.get h).temp.isNone) y

/-- HSU takes the barometer, sampled or changed in its source: every present holder is recomputed or assessed (R23, R24). -/
def baroChange (s : Option Sampled) (y : Yard) : Yard := formPresent (y.updHsu fun u => { u with baro := s })

/-- HSU is handed a sample of one of its four slots (R23, R26). -/
def hsuSample (q : Slot) (s : Sampled) (y : Yard) : Yard :=
  match q with
  | .travel h => formStock h (y.updHolder h fun r => { r with travel := some s })
  | .gasTemp h => formStock h (y.updHolder h fun r => { r with temp := some s })
  | .holderPress h => pressSample h s y
  | .baro => baroChange (some s) y
  | _ => y

/-- HSU is handed a change of source that comes without a sample (R24). -/
def hsuSource (q : Slot) (s : Option Sampled) (y : Yard) : Yard :=
  match q with
  | .travel h => formStock h (y.updHolder h fun r => { r with travel := s })
  | .gasTemp h => formStock h (y.updHolder h fun r => { r with temp := s })
  | .holderPress h => pressSource h s y
  | .baro => baroChange s y
  | .yardTemp => yardTempChange y
  | _ => y

/-- A VAPOUR TABLE accepted: every present holder is recomputed, or assessed (R7, R23, R24). -/
def hsuVapour (y : Yard) : Yard := formPresent y

/-- COMMIT accepted: every present holder is recomputed, or assessed (R30). -/
def hsuCommit (y : Yard) : Yard := formPresent y

/-- RECOMMISSION accepted: every holder returns to the OPEN condition, the samples kept, the computations in hand dropped
(R30); the CLAMPED mark goes with the computation it was made by (DEDUCED, log 86). -/
def HolderDyn.reopen (r : HolderDyn) : HolderDyn :=
  { r with zone := 0, pressure := 0, stock := none, status := .unknown, clamped := false, closing := none,
           discord := false, outCount := 0, inCount := 0 }

def hsuRecommission (y : Yard) : Yard :=
  y.updHsu fun u =>
    { u with stockJobs := [], closingJobs := [],
             holders := Holder.list.foldl (fun t h => t.set h (t.get h).reopen) u.holders }

end Sys2Proof.Machine
end

