-- ==== Sys2Proof/Machine/Governing.lean ====
section
/-! DEFINITION. The district governing unit DGU (04 section 4.6, 05): profile values, the district update, the far-point
trim, the feed state and the boosters. -/

namespace Sys2Proof.Machine

/-! ### Profile values (R75) -/

/-- What one slot in use gives for a period, none outside its lead, hold and trail (R75). -/
def peakValue (base : Int) (lag : Nat) (rest : Bool) (p : Peak) (period : Nat) : Option Int :=
  let v := max p.value base
  let s : Int := (p.start : Int) + (if rest then (lag : Int) else 0)
  let n : Int := period
  let firstLead := s - p.lead
  let endHold := s + p.hold
  if firstLead ≤ n && n < s then
    some (base + roundDiv ((v - base) * (n - firstLead + 1)) ((p.lead : Int) + 1))
  else if s ≤ n && n < endHold then some v
  else if endHold ≤ n && n < endHold + p.trail then
    some (v - roundDiv ((v - base) * (n - endHold + 1)) ((p.trail : Int) + 1))
  else none

/-- The profile value of a programme for a period (R75). -/
def profileValue (g : Programme) (lag : Nat) (t : DayType) (period : Nat) : Int :=
  (g.peaks.toList.filterMap fun s => s.bind fun p => peakValue g.base lag (t == .rest) p period).foldl max g.base

/-- DGU takes a period start signal: the profile values are formed, and the booster failed marks cleared (R75, R93). -/
def dguPeriodStart (s : PeriodStart) (y : Yard) : Yard :=
  y.yds.presentDistricts.foldl
    (fun y d => y.updDistrict d fun r =>
      { r with profile := profileValue (y.yds.programme.get d) y.yds.lag s.dayType s.period, failed := false }) y

/-! ### The far-point trim (R87) -/

/-- The trim after a period with a far-point minimum (R87). -/
def trimAfter (t : TrimSet) (trim m : Int) : Int :=
  let moved :=
    if m < t.farTarget - t.farBand then trim + t.step
    else if t.farTarget + t.farBand < m then trim - t.step
    else trim
  clampTo (-t.maxTrim) t.maxTrim moved

def trimOne (rec : PeriodRec) (y : Yard) (d : District) : Yard :=
  let e := rec.entries.farPress.get d
  if y.yds.slotBound (.farPress d) && decide (0 < e.count) then
    match e.low with
    | some m => y.updDistrict d fun r => { r with trim := trimAfter (y.yds.trimSet.get d) r.trim m }
    | none => y
  else y

/-- DGU takes a closed period record (R87). -/
def dguRecord (rec : PeriodRec) (y : Yard) : Yard :=
  if y.isCommitted then y.yds.presentDistricts.foldl (trimOne rec) y else y

/-! ### Available pressure (R88) -/

/-- The holders counted: those whose outlet reports OPEN or CRACKED. -/
def countedHolders (y : Yard) : List Holder :=
  y.yds.presentHolders.filter fun h =>
    let r := (y.mvs.outlets.get h).reported
    r == .opened || r == .cracked

/-- The available pressure of the yard (R88). -/
def availableNow (y : Yard) : Option Int :=
  match countedHolders y with
  | h :: hs => some (hs.foldl (fun m x => max m (contribution y x)) (contribution y h) - y.yds.yardLoss)
  | [] => y.qpr.recs.outletPress.value

/-! ### Feed states (R89 to R93) -/

/-- The causes of BOOSTER FAILED in the order of their codes (R168). -/
inductive BoosterCause where
  | runUp | undelivered | refused | localHand | fault | stopped | stopFailed
deriving DecidableEq, Repr

def BoosterCause.code : BoosterCause → Nat
  | .runUp => 0
  | .undelivered => 1
  | .refused => 2
  | .localHand => 3
  | .fault => 4
  | .stopped => 5
  | .stopFailed => 6

def raiseBooster (d : District) (c : BoosterCause) (y : Yard) : Yard :=
  raiseNotice .boosterFailed d.number (c.code : Int) y

/-- The district enters SHORT: DISTRICT SHORT with the shortfall over the drop margin then stored (log 56), a free value while
it has none (R89, log 2). -/
def enterShort (d : District) (y : Yard) : Yard :=
  let y := y.updDistrict d fun r => { r with feed := .short }
  match (y.dgu.districts.get d).target, y.dgu.available with
  | some t, some a => raiseNotice .districtShort d.number (t + (y.yds.feedSet.get d).drop - a) y
  | _, _ =>
    let v := drawShortfall y
    raiseNotice .districtShort d.number v.1 v.2

/-- The cause of an outcome that is not delivered (R90, R92). -/
def CmdOutcome.boosterCause : CmdOutcome → Option BoosterCause
  | .delivered => none
  | .undelivered _ => some .undelivered
  | .refused => some .refused
  | .localHand => some .localHand

/-- The STOP command of a booster that has failed is put; a full list is an outcome with no effect in SHORT (R90, R93). -/
def putStop (d : District) (y : Yard) : Yard :=
  match y.yds.bind.booster.get d with
  | some p => (putCommand p .boosterStop 0 (.booster d) y).1
  | none => y

/-- A booster failure in BOOSTING or BOOSTED: commanded STOP, timer IDLE, the mark set, BOOSTER FAILED, SHORT (R90, R91). -/
def boosterFails (d : District) (c : BoosterCause) (y : Yard) : Yard :=
  let y := y.updDistrict d fun r => { r with boosterCmd := .stop, runUp := .idle, failed := true }
  let y := putStop d y
  enterShort d (raiseBooster d c y)

/-- A booster that would not stop: DIRECT, the timer IDLE, BOOSTER FAILED, the failed mark as it stood (R92). -/
def stopFails (d : District) (c : BoosterCause) (y : Yard) : Yard :=
  raiseBooster d c (y.updDistrict d fun r => { r with feed := .direct, runUp := .idle })

/-- The district enters BOOSTING (R90); a RUN that finds the list full is a booster failure at once, unless the booster
already reports RUNNING and the district has passed to BOOSTED. -/
def enterBoosting (d : District) (y : Yard) : Yard :=
  let y := y.updDistrict d fun r =>
    { r with boosterCmd := .run, hyst := 0, runUp := .idle,
             feed := if r.boosterRep == .running then .boosted else .boosting }
  match y.yds.bind.booster.get d with
  | some p =>
    let q := putCommand p .boosterRun 0 (.booster d) y
    if !q.2 && (q.1.dgu.districts.get d).feed == .boosting then boosterFails d .undelivered q.1 else q.1
  | none => y

/-- The district enters UNBOOSTING (R91); a STOP that finds the list full is returned at once (R92). -/
def enterUnboosting (d : District) (y : Yard) : Yard :=
  let y := y.updDistrict d fun r => { r with boosterCmd := .stop, hyst := 0, runUp := .idle, feed := .unboosting }
  match y.yds.bind.booster.get d with
  | some p =>
    let q := putCommand p .boosterStop 0 (.booster d) y
    if q.2 then q.1 else stopFails d .undelivered q.1
  | none => y

/-- Whether a booster is present in a district (R79). -/
def Yds.hasBooster (d : Yds) (x : District) : Bool :=
  match d.districts.get x with
  | some r => r.booster
  | none => false

/-- An infeasible district in DIRECT, SHORT or UNBOOSTING (R89, R92). -/
def infeasible (d : District) (y : Yard) : Yard :=
  let r := y.dgu.districts.get d
  if y.yds.hasBooster d && !r.failed then enterBoosting d y
  else if r.feed == .short then y
  else enterShort d y

/-- The evaluation of the feed state at a district update (R89 to R92). -/
def evaluateFeed (d : District) (y : Yard) : Yard :=
  let r := y.dgu.districts.get d
  let f := y.yds.feedSet.get d
  match y.dgu.available, r.target with
  | some a, some t =>
    let feasible := decide (t + f.drop ≤ a)
    match r.feed with
    | .direct => if feasible then y else infeasible d y
    | .short => if feasible then y.updDistrict d fun r => { r with feed := .direct } else infeasible d y
    | .boosting => y
    | .boosted =>
      if t + f.drop + f.hysteresis ≤ a then
        if r.hyst + 1 ≥ 4 then enterUnboosting d y else y.updDistrict d fun r => { r with hyst := r.hyst + 1 }
      else y.updDistrict d fun r => { r with hyst := 0 }
    | .unboosting => if feasible then y else infeasible d y
  | _, _ => y.updDistrict d fun r => { r with hyst := 0 }

/-! ### The district update (R82 to R84) -/

/-- One slew of the commanded set-point toward the target (R83). -/
def slewTo (slew target : Int) : Option Int → Int
  | none => target
  | some c => if c < target - slew then c + slew else if target + slew < c then c - slew else target

/-- The datum of COMMAND UNDELIVERED: the value in the low three bytes, the cause in the high byte (R168). -/
def undeliveredDatum (value : Int) (cause : Nat) : Int := value + 16777216 * (cause : Int)

/-- What became of a governor command, as the record shows it (R85). -/
def CmdOutcome.recorded : CmdOutcome → GovOutcome
  | .delivered => .delivered
  | .undelivered _ => .undelivered
  | .refused => .refused
  | .localHand => .localHand

/-- The cause of COMMAND UNDELIVERED: 0 three failed sends, 1 list full, 2 LINE RESET, 3 REFUSED, 4 LOCAL (R168). -/
def CmdOutcome.govCause : CmdOutcome → Nat
  | .delivered => 0
  | .undelivered c => c
  | .refused => 3
  | .localHand => 4

/-- DGU takes the outcome of a governor command (R85, R95). -/
def governorOutcome (d : District) (value : Int) (o : CmdOutcome) (y : Yard) : Yard :=
  let y := y.updDistrict d fun r =>
    { r with govPending := false, govOutcome := o.recorded,
             delivered := if o == .delivered then some value else r.delivered }
  if o != .delivered && y.isCommitted then
    raiseNotice .commandUndelivered d.number (undeliveredDatum value o.govCause) y
  else y

/-- The governor command of a district at the update (R84). -/
def governorCommand (d : District) (changed : Bool) (value : Int) (y : Yard) : Yard :=
  let r := y.dgu.districts.get d
  match y.yds.bind.governor.get d with
  | some p =>
    if changed || (r.delivered != some value && !r.govPending) then
      let y := y.updDistrict d fun r => { r with govPending := true }
      let q := putCommand p .governorSet value (.governor d) y
      if q.2 then q.1 else governorOutcome d value (.undelivered 1) q.1
    else y
  | none => y

/-- The update of one present district (R82, R83, R94). -/
def updateDistrict (y : Yard) (d : District) : Yard :=
  match y.yds.districts.get d with
  | some x =>
    let r := y.dgu.districts.get d
    let f := y.yds.feedSet.get d
    let target := clampTo x.floor x.ceiling (r.profile + r.trim)
    let next := slewTo f.slew target r.commanded
    let y := y.updDistrict d fun r => { r with target := some target, commanded := some next }
    let y := governorCommand d (r.commanded != some next) next y
    if r.adoption then
      y.updDistrict d fun r =>
        { r with adoptWait := if r.adoptWait == .idle then .running y.now f.runUp else r.adoptWait }
    else evaluateFeed d y
  | none => y

/-- The district update, at the start of each ORDER phase (R82). -/
def districtUpdate (y : Yard) : Yard :=
  if y.isCommitted then
    let y := y.updDgu fun u => { u with available := availableNow y }
    District.list.foldl updateDistrict y
  else y

/-! ### Reports, outcomes, timers (R86, R90 to R94) -/

/-- DGU takes a governor report (R86). -/
def governorReport (d : District) (value : Int) (st : PointStatus) (y : Yard) : Yard :=
  y.updDistrict d fun r => { r with reported := some (value, st) }

/-- Adoption from a report (R94). -/
def adoptFrom (d : District) (rep : BoosterRep) (y : Yard) : Yard :=
  match rep with
  | .running => y.updDistrict d fun r =>
      { r with adoption := false, adoptWait := .idle, feed := .boosted, hyst := 0 }
  | .stopped => y.updDistrict d fun r => { r with adoption := false, adoptWait := .idle, feed := .direct }
  | .fault =>
    raiseBooster d .fault (y.updDistrict d fun r =>
      { r with adoption := false, adoptWait := .idle, feed := .direct, failed := true })
  | .unknown => y

/-- Whether a report equals a commanded state (R93). -/
def BoosterCmd.equals : BoosterCmd → BoosterRep → Bool
  | .run, .running => true
  | .stop, .stopped => true
  | _, _ => false

/-- The effect of a booster report on the feed state (R90 to R92). -/
def boosterMoves (d : District) (rep : BoosterRep) (y : Yard) : Yard :=
  match (y.dgu.districts.get d).feed, rep with
  | .boosting, .running => y.updDistrict d fun r => { r with feed := .boosted, runUp := .idle, hyst := 0 }
  | .boosting, .fault => boosterFails d .fault y
  | .boosted, .stopped => boosterFails d .stopped y
  | .boosted, .fault => boosterFails d .fault y
  | .unboosting, .stopped => y.updDistrict d fun r => { r with feed := .direct, runUp := .idle }
  | _, _ => y

/-- DGU takes a booster report (R93 to R95). -/
def boosterReport (d : District) (rep : BoosterRep) (y : Yard) : Yard :=
  let y := y.updDistrict d fun r =>
    { r with boosterRep := rep, runUp := if r.boosterCmd.equals rep then .idle else r.runUp }
  if y.isCommitted then
    if (y.dgu.districts.get d).adoption then adoptFrom d rep y else boosterMoves d rep y
  else y

/-- DGU takes the outcome of a booster command (R90, R92, R93, R95). code is the command's own. -/
def boosterOutcome (d : District) (code : CmdCode) (o : CmdOutcome) (y : Yard) : Yard :=
  if y.isCommitted then
    let r := y.dgu.districts.get d
    let limit := (y.yds.feedSet.get d).runUp
    match r.feed, code with
    | .boosting, .boosterRun =>
      match o.boosterCause with
      | some c => boosterFails d c y
      | none => if r.boosterRep == .running then y else y.updDistrict d fun r => { r with runUp := .running y.now limit }
    | .unboosting, .boosterStop =>
      match o.boosterCause with
      | some c => stopFails d c y
      | none => if r.boosterRep == .stopped then y else y.updDistrict d fun r => { r with runUp := .running y.now limit }
    | _, _ => y
  else y

/-- BOOSTER_RUN_UP_EXPIRY: a RUNNING run-up timer reaches its limit (R90, R92). -/
def runUpExpiry (d : District) (y : Yard) : Yard :=
  match (y.dgu.districts.get d).runUp.deadline with
  | some t =>
    let y := (y.reach t).updDistrict d fun r => { r with runUp := .idle }
    match (y.dgu.districts.get d).feed with
    | .boosting => boosterFails d .runUp y
    | .unboosting => stopFails d .stopFailed y
    | _ => y
  | none => y

/-- ADOPTION_WAIT_EXPIRY: the adoption wait reaches the run-up limit it read (R94). -/
def adoptionExpiry (d : District) (y : Yard) : Yard :=
  match (y.dgu.districts.get d).adoptWait.deadline with
  | some t => (y.reach t).updDistrict d fun r => { r with adoption := false, adoptWait := .idle, feed := .direct }
  | none => y

/-! ### The description state (R94, R95) -/

/-- DGU at an accepted COMMIT: no commanded set-point, and a district whose booster is reported is adopted at once (R94,
R95). The districts are taken, and their BOOSTER FAILED notices raised, in the order D1 to D8 (DESIGN CHOICE, log 92). -/
def dguCommit (y : Yard) : Yard :=
  y.yds.presentDistricts.foldl
    (fun y d =>
      let y := y.updDistrict d fun r => { r with commanded := none }
      let r := y.dgu.districts.get d
      if r.adoption then adoptFrom d r.boosterRep y else y) y

/-- DGU at an accepted RECOMMISSION (R94, R95); a running adoption wait is set IDLE (DEDUCED, log 86). -/
def dguRecommission (y : Yard) : Yard :=
  y.yds.presentDistricts.foldl
    (fun y d =>
      let b := y.yds.hasBooster d
      y.updDistrict d fun r =>
        { r with commanded := none, govPending := false, runUp := .idle, hyst := 0, feed := .direct,
                 boosterCmd := if b then .none else r.boosterCmd, failed := if b then false else r.failed,
                 adoption := b, adoptWait := .idle }) y

end Sys2Proof.Machine
end

