-- ==== Sys2Proof/Machine/Quantities.lean ====
section
/-! DEFINITION. The quantity table and period ring QPR (08): samples, the source chain, meter deltas, period records. -/

namespace Sys2Proof.Machine

/-! ### Period records (R141 to R143) -/

/-- The entry of a record that opens; its source stands at NONE until the close (R141, log 75). -/
def PEntry.empty : PEntry := ⟨none, none, none, 0, .none, 0, false, false, false, none, false, none⟩

def PeriodRec.opened (day period : Nat) (partialMark gap : Bool) : PeriodRec :=
  ⟨day, period, partialMark, gap, false, 0, .make fun _ => .empty⟩

/-- Change the entry of a slot in the open record, when one is open. -/
def updOpen (q : Slot) (f : PEntry → PEntry) (y : Yard) : Yard :=
  y.updQpr fun u => { u with current := u.current.map (·.updEntry q f) }

/-- A sample is entered into the open record (R141). -/
def PEntry.enter (e : PEntry) (v : Int) : PEntry :=
  { e with last := some v, count := e.count + 1,
           low := some (match e.low with
             | some m => min m v
             | none => v),
           high := some (match e.high with
             | some m => max m v
             | none => v) }

/-! ### Handing on (R136, R138) -/

/-- A change of source is handed to HSU for its four slots and for YARD TEMP (R137, R138). -/
def handSource (q : Slot) (y : Yard) : Yard :=
  hsuSource q (y.qpr.recs.get q).sampled y

/-- The source becomes DECLARED with the declared value, or NONE, and the change is handed on (R138). -/
def toDeclared (q : Slot) (y : Yard) : Yard :=
  let y := y.updRec q fun r =>
    match (y.yds.subs.get q).declared with
    | some v => { r with value := some v, source := .declared }
    | none => { r with value := none, source := .none }
  handSource q y

/-- The hold test (R138). -/
def holdTest (q : Slot) (y : Yard) : Yard :=
  let r := y.qpr.recs.get q
  if r.source == .held && decide ((y.yds.subs.get q).hold ≤ r.since) then
    toDeclared q (y.updRec q fun r => { r with ranOut := true })
  else y

/-- A quantity with no point bound takes no samples, so that a standby candidate held for it is discarded; it is DECLARED or
NONE for having no point, and no longer because a hold has run out (R138, log 40). -/
def unboundNow (q : Slot) (y : Yard) : Yard :=
  let y := y.updRec q fun r => { r with ranOut := false, candidate := none }
  let r := y.qpr.recs.get q
  let d := (y.yds.subs.get q).declared
  let want : Source := if d.isSome then .declared else .none
  if r.source == want && r.value == d then y else toDeclared q y

/-- Every present quantity with no point bound is put so (R138), in the order of the slots (DESIGN CHOICE, log 85). -/
def unboundAll (y : Yard) : Yard :=
  (Slot.list.filter fun q => y.yds.slotPresent q && !(y.yds.slotBound q)).foldl (fun y q => unboundNow q y) y

/-! ### Meter deltas (R139, R140) -/

/-- The delta round the dial (R139). -/
def dialDelta (register base : Nat) : Nat := (((register : Int) - (base : Int)) % 1000000).toNat

/-- The limit of a delta (R139). -/
def jumpLimit (jump : Int) (scans : Nat) : Nat := (min (jump * (max scans 1 : Nat)) 999999).toNat

/-- A delta is added to the open record and handed to SOA with its marker mark (R139, R140). -/
def handDelta (m : Meter) (delta : Nat) (register : Nat) (y : Yard) : Yard :=
  let y := updOpen (meterSlot m) (fun e => { e with deltas := e.deltas + delta }) y
  soaDelta m delta y.qpr.markerAwaited (some register) y

/-- QPR takes the register of an accepted meter sample (R139, R140). -/
def meterSample (m : Meter) (register : Nat) (restarted : Bool) (y : Yard) : Yard :=
  let q := meterSlot m
  let r := y.qpr.recs.get q
  let rebase (y : Yard) : Yard := y.updRec q fun r => { r with base := some register, scans := 0 }
  if restarted then
    let y := rebase y
    if y.qpr.current.isSome then
      handDelta m 0 register (updOpen q (fun e => { e with restart := true, estimated := true }) y)
    else forgetSeen m y
  else if y.qpr.current.isSome then
    match r.base with
    | none => handDelta m 0 register (updOpen q (fun e => { e with estimated := true }) (rebase y))
    | some b =>
      let d := dialDelta register b
      let l := jumpLimit (y.yds.subs.get q).jump r.scans
      let y := rebase y
      if l < d then
        let y := raiseNotice .meterJump q.code (d : Int) (updOpen q (fun e => { e with jump := true }) y)
        handDelta m l register y
      else handDelta m d register y
  else y

/-! ### Samples (R136) -/

/-- The last good time of a sample taken now (R134). -/
def goodNow (y : Yard) : GoodTime :=
  ⟨y.scs.cycle, y.gdc.clock.map fun c => (c.day, c.period, c.second)⟩

/-- An accepted MEASURE value brought into its range; a travel also to no more than Zn + 500 once the geometry is formed, but
not below the range low, so that the law of R136 holds where the two part (R136, log 77). -/
def clampSample (y : Yard) (q : Slot) (v : Int) : Int :=
  let s := y.yds.subs.get q
  let w := clampTo s.low s.high v
  match q with
  | .travel h =>
    match y.yds.geometry.get h with
    | some g => max s.low (min w (g.full + 500))
    | none => w
  | _ => w

def countClamp (q : Slot) (y : Yard) : Yard := y.updRec q fun r => { r with clamps := saturate 65535 r.clamps }

/-- The record of an accepted value (R136 step 1). -/
def writeSample (q : Slot) (v : Int) (src : Source) (y : Yard) : Yard :=
  y.updRec q fun r =>
    { r with value := some v, source := src, lastGood := some (goodNow y), since := 0, accepted := true, ranOut := false }

/-- QPR accepts a value for a slot (R136). A METER slot takes registers of the dial alone: a value above 999,999, or below 0
from a MEASURE point bound to it while OPEN, counts a clamp and changes nothing else (log 57). -/
def acceptSample (q : Slot) (raw : Int) (src : Source) (restarted : Bool) (y : Yard) : Yard :=
  match q.meterOf with
  | some m =>
    if 999999 < raw || raw < 0 then countClamp q y
    else
      let y := writeSample q raw src y
      let y := updOpen q (·.enter raw) y
      meterSample m raw.toNat restarted y
  | none =>
    let v := clampSample y q raw
    let was := (y.qpr.recs.get q).source
    let y := if v = raw then y else countClamp q y
    let y := writeSample q v src y
    let y := updOpen q (·.enter v) y
    if q == .yardTemp then (if was == .none then yardTempChange y else y) else hsuSample q ⟨v, src⟩ y

/-- The value of a point entry by the kind of its POINT: a METER's register unsigned, a MEASURE's value signed (R108). -/
def entryValue (metered : Bool) (raw : BitVec 24) : Int := if metered then (raw.toNat : Int) else raw.toInt

/-- One point entry's value for one slot that names the point (R136). -/
def slotEntry (p : Point) (v : Int) (restarted : Bool) (y : Yard) (q : Slot) : Yard :=
  let b := y.yds.bind.slots.get q
  let r := y.qpr.recs.get q
  if !(y.yds.slotPresent q) then y
  else if b.primary == some p then
    acceptSample q v .live restarted (y.updRec q fun r => { r with candidate := none })
  else if b.standby == some p then
    if b.primary.isNone then acceptSample q v .standby restarted y
    else if r.accepted then y
    else y.updRec q fun r => { r with candidate := some (v, y.scs.cycle) }
  else y

/-- QPR takes a MEASURE or METER point entry with its value (R136); for two quantities that share the point while OPEN in the
order of their slots (DESIGN CHOICE, log 85). -/
def qprEntry (p : Point) (st : PointStatus) (v : Int) (restarted : Bool) (y : Yard) : Yard :=
  if st == .good then Slot.list.foldl (slotEntry p v restarted) y else y

/-! ### The end of the POLL phase (R137) -/

/-- QPR is told the address of a poll that has ended (R137). -/
def qprPolled (address : Nat) (y : Yard) : Yard :=
  y.updQpr fun u => { u with polled := if u.polled.contains address then u.polled else u.polled ++ [address] }

/-- Whether a poll of the outstation of a slot's primary or standby point ended in the cycle (R137). -/
def slotPolled (y : Yard) (q : Slot) : Bool :=
  let b := y.yds.bind.slots.get q
  let on (p : Option Point) : Bool :=
    match p with
    | some p => y.qpr.polled.contains p.outstation
    | none => false
  on b.primary || on b.standby

/-- One quantity at a POLL phase end (R137 steps 1 and 2). -/
def slotPhaseEnd (y : Yard) (q : Slot) : Yard :=
  if y.yds.slotPresent q then
    let r := y.qpr.recs.get q
    let y :=
      match r.candidate with
      | some c => if r.accepted then y else acceptSample q c.1 .standby false y
      | none => y
    let r := y.qpr.recs.get q
    let y :=
      if (r.source == .live || r.source == .standby) && !r.accepted && slotPolled y q then
        holdTest q (handSource q (y.updRec q fun r => { r with source := .held }))
      else y
    y.updRec q fun r =>
      { r with candidate := none, accepted := false,
               scans := if q.isMeter && r.base.isSome then saturate 65535 r.scans else r.scans }
  else y

/-- QPR is told that the POLL phase has ended (R137, R138, R139). -/
def qprPhaseEnd (y : Yard) : Yard :=
  let y := Slot.list.foldl slotPhaseEnd y
  unboundAll (y.updQpr fun u => { u with polled := [] })

/-- A POLL phase ended by a long break: candidates discarded, marks cleared (R137). -/
def qprPhaseCut (y : Yard) : Yard :=
  let y := Slot.list.foldl (fun y q => y.updRec q fun r => { r with candidate := none, accepted := false }) y
  y.updQpr fun u => { u with polled := [] }

/-! ### Periods since good (R138) -/

/-- The periods since good of every quantity rise by 1, and then the hold tests are made, in the order of the slots, which is
that of what they hand to HSU and of what follows there (R138, R142 step 6; the order is a DESIGN CHOICE, log 85). -/
def sinceRises (y : Yard) : Yard :=
  let qs := Slot.list.filter y.yds.slotPresent
  let y := qs.foldl (fun y q => y.updRec q fun r => { r with since := saturate 255 r.since }) y
  qs.foldl (fun y q => holdTest q y) y

/-! ### The close and the opening of a record (R141, R142) -/

/-- One entry at the close (R142 steps 2 and 3). -/
def PEntry.close (e : PEntry) (r : QRec) (isMeter : Bool) : PEntry :=
  { e with source := r.source, last := if e.count = 0 then r.value else e.last,
           estimated := e.estimated || (isMeter && e.count = 0) }

/-- The record as it closes (R142 steps 1 to 3). -/
def PeriodRec.close (rec : PeriodRec) (y : Yard) (partialMark : Bool) : PeriodRec :=
  let qs := Slot.list.filter y.yds.slotPresent
  let missing := (qs.filter fun q => y.yds.slotBound q && (rec.entries.get q).count == 0).length
  let rec' := qs.foldl (fun r q => r.updEntry q fun e => e.close (y.qpr.recs.get q) q.isMeter) rec
  { rec' with partialFlag := rec.partialFlag || partialMark, incomplete := decide (0 < missing), nIncomplete := missing }

/-- A record is appended to the ring; the oldest goes when it holds eight (R143). -/
def ringAppend (ring : List PeriodRec) (r : PeriodRec) : List PeriodRec :=
  if ring.length < 8 then ring ++ [r] else ring.drop 1 ++ [r]

/-- QPR takes a period close signal (R142). -/
def qprClose (partialMark : Bool) (y : Yard) : Yard :=
  let y :=
    match y.qpr.current with
    | some rec =>
      let closed := rec.close y partialMark
      let y := if closed.incomplete then raiseNotice .periodIncomplete 0 (closed.nIncomplete : Int) y else y
      let y := y.updQpr fun u => { u with ring := ringAppend u.ring closed, current := none }
      dguRecord closed (soaRecord closed (hsuRecord closed y))
    | none => y
  sinceRises y

/-- QPR takes a period start signal (R141). -/
def qprPeriodStart (s : PeriodStart) (y : Yard) : Yard :=
  y.updQpr fun u => { u with current := some (.opened s.day s.period s.partialMark s.skipped.isSome) }

/-! ### SET SUBSTITUTE and BIND (R135, R138) -/

/-- The current value brought into a new range, handed on as a sample with its source (R135). -/
def reclamp (q : Slot) (y : Yard) : Yard :=
  let r := y.qpr.recs.get q
  let s := y.yds.subs.get q
  match r.value with
  | some v =>
    if (r.source == .live || r.source == .standby || r.source == .held) && !(inRange s.low s.high v) then
      let w := clampTo s.low s.high v
      hsuSample q ⟨w, r.source⟩ (y.updRec q fun r => { r with value := some w })
    else y
  | none => y

/-- The effect of new substitute settings on the quantity (R135): one that is NONE becomes DECLARED when its hold has run out
or it has no point bound. -/
def applySubstitute (q : Slot) (y : Yard) : Yard :=
  let y := if q.isMeter then y else reclamp q y
  let r := y.qpr.recs.get q
  match r.source with
  | .declared => toDeclared q y
  | .none =>
    if (y.yds.subs.get q).declared.isSome && (r.ranOut || !(y.yds.slotBound q)) then toDeclared q y else y
  | .held => holdTest q y
  | _ => y

end Sys2Proof.Machine
end

