-- ==== Sys2Proof/Machine/Clock.lean ====
section
/-! DEFINITION. The gas-day clock GDC (04): seconds, period boundaries, day types, setting and stopping, the period mark. -/

namespace Sys2Proof.Machine

/-! ### Days and types -/

/-- The type of a day that begins (R72). -/
def dayTypeFor (pattern : List Bool) (forced : Option DayType) (weekday : Nat) : DayType :=
  match forced with
  | some t => t
  | none => if pattern.getD weekday false then .rest else .working

/-- The day after, from 65,535 to 1 (R66). -/
def dayAfter (day : Nat) : Nat := if day < 65535 then day + 1 else 1

/-- The weekday after, from 6 to 0 (R66). -/
def weekdayAfter (w : Nat) : Nat := if w < 6 then w + 1 else 0

/-- The forward distance of a day from another round the ring of day numbers (R70). -/
def dayDistance (carried resume : Nat) : Nat := (((carried : Int) - (resume : Int)) % 65535).toNat

/-! ### The signals (R67) -/

/-- The period close signal: QPR first, which hands the closed record on, then SOA (R67, R142, R153; log 15). -/
def givePeriodClose (period : Nat) (partialMark : Bool) (y : Yard) : Yard :=
  soaPeriodClose period (qprClose partialMark y)

/-- The day close signal: SOA, then QPR's marker-awaited mark (R67, R140). -/
def giveDayClose (onTime : Bool) (y : Yard) : Yard × Option (Int × Bool) :=
  let r := soaDayClose onTime y
  (r.1.updQpr fun u => { u with markerAwaited := true }, r.2)

/-- The period start signal, to MVS, DGU, QPR and SOA in turn (R67, log 15). -/
def givePeriodStart (s : PeriodStart) (carry : Option (Int × Bool)) (y : Yard) : Yard :=
  soaPeriodStart s carry (qprPeriodStart s (dguPeriodStart s (mvsPeriodStart s.period y)))

/-! ### The period mark (R77) -/

/-- The mark period of a day: none when OFF or when the sum exceeds 95 (R77). -/
def markPeriod (mark : Option Nat) (lag : Nat) (t : DayType) : Option Nat :=
  match mark with
  | some p =>
    let q := if t == .rest then p + lag else p
    if q ≤ 95 then some q else none
  | none => none

/-- The period mark test (R77). -/
def markTest (y : Yard) : Yard :=
  match y.gdc.clock with
  | some c =>
    if markPeriod y.yds.periodMark y.yds.lag c.dayType == some c.period && y.gdc.markDay != some c.day then
      let y := raiseNotice .periodMark 0 ((c.period + 256 * c.dayType.code : Nat) : Int) y
      y.updGdc fun g => { g with markDay := some c.day }
    else y
  | none => y

/-! ### The running clock (R66) -/

def setLastClosed (period : Nat) (y : Yard) : Yard :=
  y.updGdc fun g => { g with resume := g.resume.map fun r => { r with lastClosed := some period } }

/-- Step 2 of R66: the day ends ON TIME, and the new day is taken up. -/
def dayChange (c : ClockTime) (y : Yard) : Yard × ClockTime :=
  let y := (giveDayClose true y).1
  let y := y.updScs fun u => { u with dayOwed := true }
  let day := dayAfter c.day
  let weekday := weekdayAfter c.weekday
  let t := dayTypeFor y.yds.dayPattern y.gdc.forcedNext weekday
  let y := y.updGdc fun g =>
    { g with forcedNow := g.forcedNext, forcedNext := none, resume := some ⟨day, weekday, t, none⟩ }
  (y, { c with day := day, weekday := weekday, dayType := t })

/-- The period boundary (R66). -/
def boundary (c : ClockTime) (y : Yard) : Yard :=
  let y := setLastClosed c.period (givePeriodClose c.period c.partialMark y)
  let r := if c.period = 95 then dayChange c y else (y, c)
  let next := { r.2 with period := if c.period < 95 then c.period + 1 else 0, second := 0, partialMark := false }
  let y := r.1.updGdc fun g => { g with clock := some next }
  markTest (givePeriodStart ⟨next.day, next.weekday, next.period, next.dayType, .onTime, false, none⟩ none y)

/-- PERIOD_END: the second count reaches 900 (R66). -/
def periodEnd (y : Yard) : Yard :=
  match y.gdc.clock with
  | some c =>
    let mark := y.secondMark + Config.sec (900 - c.second)
    boundary c ({ y with secondMark := mark }.reach mark)
  | none => y

/-- CLOCK_SECOND: a second of the time base (R66). The second that would reach 900 is PERIOD_END's. -/
def clockSecond (y : Yard) : Yard :=
  let mark := y.secondMark + Config.sec 1
  let passed := { y with secondMark := mark }.reach mark
  match y.gdc.clock with
  | some c =>
    if c.second < 899 then passed.updGdc fun g => { g with clock := some { c with second := c.second + 1 } } else y
  | none => passed

/-- UNSET_HOLD_TICK: 900 s of the time base pass while the clock is UNSET (R138). -/
def holdTick (y : Yard) : Yard :=
  if y.gdc.clock.isNone then
    let at900 := y.qpr.holdFrom + Config.sec 900
    sinceRises ((y.updQpr fun u => { u with holdFrom := at900 }).reach at900)
  else y

/-! ### Setting and stopping (R68 to R71) -/

def okAnswer : Decision := .answer .none []

/-- The clock set RUNNING with the type of the day fixed (R69, R70, R72). -/
def startClock (day weekday period second : Nat) (y : Yard) : Yard × DayType :=
  let t := dayTypeFor y.yds.dayPattern y.gdc.forcedNow weekday
  (y.updGdc fun g =>
    { g with clock := some ⟨day, weekday, period, second, t, second != 0⟩, forcedNext := none }, t)

/-- SET TIME with no resume point (R69). -/
def setFirst (day weekday period second : Nat) (y : Yard) : Yard :=
  let r := startClock day weekday period second y
  let y := r.1.updGdc fun g => { g with resume := some ⟨day, weekday, r.2, none⟩ }
  markTest (givePeriodStart ⟨day, weekday, period, r.2, .first, second != 0, none⟩ none y)

/-- The skipped periods from one period to the period before another, none when none lies between (R70). -/
def skippedFrom (first carried : Nat) : Option (Nat × Nat) :=
  if first < carried then some (first, carried - 1) else none

def skippedCount : Option (Nat × Nat) → Nat
  | some s => s.2 + 1 - s.1
  | none => 0

/-- SET TIME with a resume point, accepted (R70): the same day resumed, or a new day begun. The data state the case as 0 for the
same day and 1 for a new one (log 67). -/
def setResumed (p : Resume) (same : Bool) (day weekday period second : Nat) (y : Yard) : Yard × Decision :=
  let first :=
    if same then
      match p.lastClosed with
      | some l => l + 1
      | none => 0
    else 0
  let skipped := skippedFrom first period
  let c := if same then (y, none) else giveDayClose false y
  let r := startClock day weekday period second c.1
  let y := givePeriodStart ⟨day, weekday, period, r.2, .resumed, second != 0, skipped⟩ c.2 r.1
  let y := y.updGdc fun g => { g with resume := some ⟨day, weekday, r.2, if same then p.lastClosed else none⟩ }
  (markTest y, .answer .none [.u8 (if same then 0 else 1), .u8 (skippedCount skipped)])

/-- Whether a period lies after the last closed period (R70). -/
def afterClosed (lastClosed : Option Nat) (period : Nat) : Bool :=
  match lastClosed with
  | some l => decide (l < period)
  | none => true

/-- The first field of SET TIME out of its range, counted from 1 (R68). -/
def timeField (day weekday period second : Nat) : Option Nat :=
  if day < 1 || 65535 < day then some 1
  else if 6 < weekday then some 2
  else if 95 < period then some 3
  else if 899 < second then some 4
  else none

/-- SET TIME (R68 to R70). A refusal names the first field at fault (R165, log 9). -/
def setTime (day weekday period second : Nat) (y : Yard) : Yard × Decision :=
  match timeField day weekday period second with
  | some f => (y, .refuse .invalid [.u8 f])
  | none =>
    match y.gdc.clock with
    | some c =>
      if c.day = day && c.weekday = weekday && c.period = period then
        (y.updGdc fun g => { g with clock := some { c with second := second } }, okAnswer)
      else (y, .refuse .running [.u8 (if c.day = day then (if c.weekday = weekday then 3 else 2) else 1)])
    | none =>
      match y.gdc.resume with
      | none => (setFirst day weekday period second y, okAnswer)
      | some p =>
        let distance := dayDistance day p.day
        if distance = 0 then
          if afterClosed p.lastClosed period then setResumed p true day weekday period second y
          else (y, .refuse .backward [.u8 3])
        else if distance ≤ 32767 then setResumed p false day weekday period second y
        else (y, .refuse .backward [.u8 1])

/-- STOP CLOCK (R71). -/
def stopClock (y : Yard) : Yard :=
  match y.gdc.clock with
  | some c =>
    let y := setLastClosed c.period (givePeriodClose c.period true y)
    let y := y.updGdc fun g => { g with clock := none, forcedNow := none, forcedNext := none }
    soaStop (y.updQpr fun u => { u with holdFrom := y.now })
  | none => y

/-- The code of a day type in answers, FFh for none (log 8). -/
def typeCode : Option DayType → Nat
  | some t => t.code
  | none => 255

/-- FORCE DAY (R73). -/
def forceDay (next : Bool) (t : DayType) (y : Yard) : Yard × Decision :=
  match y.gdc.clock with
  | none => (y, .refuse .clockUnset [.u8 0])
  | some c =>
    if next then
      (y.updGdc fun g => { g with forcedNext := some t }, .answer .none [.u8 (typeCode y.gdc.forcedNext)])
    else
      let y' := y.updGdc fun g =>
        { g with forcedNow := some t, clock := some { c with dayType := t },
                 resume := g.resume.map fun r => { r with dayType := t } }
      (markTest y', .answer .none [.u8 (typeCode (some c.dayType))])

end Sys2Proof.Machine
end

