-- ==== Sys2Proof/Machine/YardLine.lean ====
section
/-! DEFINITION. The yard line controller YLC (06), first part: the frames and their checks, the replies and their tests, and
how an exchange, a break and the guard are begun. -/

namespace Sys2Proof.Machine

/-! ### Header and check byte (R102 to R104) -/

/-- The positions of d1 to d16 in the code (06 section 6.5.1). -/
def codePositions : List Nat := [3, 5, 6, 7, 9, 10, 11, 12, 13, 14, 15, 17, 18, 19, 20, 21]

/-- The data bits d1 to d16 of the two header bytes. -/
def headerBits (b1 b2 : Byte) : List Bool :=
  [0, 1, 2, 3, 4, 5, 6, 7].map b1.getLsbD ++ [0, 1, 2, 3, 4, 5, 6, 7].map b2.getLsbD

def countOnes (bits : List Bool) : Nat := (bits.filter id).length

/-- c0 to c4 as a number: the exclusive-or of the positions of the data bits that are 1 (R103). -/
def codeSum (bits : List Bool) : Nat :=
  (bits.zip codePositions).foldl (fun a x => if x.1 then a ^^^ x.2 else a) 0

/-- The low bits of a number, lowest first. -/
def bitsOf (k n : Nat) : List Bool := (List.range k).map n.testBit

/-- The check byte of a header (R103). -/
def checkByte (b1 b2 : Byte) : Byte :=
  let bits := headerBits b1 b2
  let c := codeSum bits
  BitVec.ofNat 8 (c + 32 * ((countOnes bits + countOnes (bitsOf 5 c)) % 2))

/-- The header bytes with the data bit at a position inverted (R104). -/
def mendAt (s : Nat) (b1 b2 : Byte) : Byte × Byte :=
  let k := codePositions.idxOf s
  if k < 8 then (b1 ^^^ BitVec.ofNat 8 (2 ^ k), b2) else (b1, b2 ^^^ BitVec.ofNat 8 (2 ^ (k - 8)))

/-- A header as received: its two bytes, mended where one bit was wrong, and whether it was corrected; none when it is
uncorrectable (R104). -/
def decodeHeader (b1 b2 check : Byte) : Option (Byte × Byte × Bool) :=
  let bits := headerBits b1 b2
  let s := codeSum bits ^^^ (check.toNat % 32)
  let e := (countOnes bits + countOnes (bitsOf 6 check.toNat)) % 2
  if 64 ≤ check.toNat then none
  else if s = 0 then some (b1, b2, false)
  else if e = 0 then none
  else if [1, 2, 4, 8, 16].contains s then some (b1, b2, true)
  else if codePositions.contains s then
    let m := mendAt s b1 b2
    some (m.1, m.2, true)
  else none

/-- A header's first byte: address and frame kind (10.6.3). -/
def headerByte (address kind : Nat) : Byte := BitVec.ofNat 8 (address + 32 * kind)

/-! ### Frames sent (R106, R107, 10.6.3) -/

def MarkPhase.code : MarkPhase → Nat
  | .poll => 1
  | .order => 2
  | .load => 3
  | .day => 4

def CmdCode.code : CmdCode → Nat
  | .valveShut => 0
  | .valveCrack => 1
  | .valveOpen => 2
  | .boosterRun => 3
  | .boosterStop => 4
  | .governorSet => 5

def Frame.address : Frame → Nat
  | .mark _ => 0
  | .read a => a
  | .order a _ _ _ => a
  | .load a _ _ => a
  | .probe a => a

/-- The frame kind of a frame sent (R102). -/
def Frame.kind : Frame → Nat
  | .mark _ => 0
  | .read _ => 1
  | .order _ _ _ _ => 2
  | .load _ _ _ => 3
  | .probe _ => 4

/-- The reply kind expected, none for MARK (R98). -/
def Frame.replyKind : Frame → Option Nat
  | .mark _ => none
  | .read _ => some 5
  | .order _ _ _ _ => some 6
  | .load _ _ _ => some 6
  | .probe _ => some 7

/-- The payload of a frame sent (10.6.3). -/
def Frame.payload : Frame → List Byte
  | .order _ ch code v => [BitVec.ofNat 8 ch, BitVec.ofNat 8 code.code] ++ signedBytes 3 v
  | .load _ p v => BitVec.ofNat 8 p :: signedBytes 3 v
  | _ => []

/-- The characters of a frame as they go out on YTX (R103, R105, R110, 10.6.3). -/
def Frame.bytes (f : Frame) : List Byte :=
  let b1 := headerByte f.address f.kind
  let b2 := match f with
    | .mark p => BitVec.ofNat 8 p.code
    | _ => BitVec.ofNat 8 f.payload.length
  [b1, b2, checkByte b1 b2] ++ f.payload ++ (if f.payload.isEmpty then [] else crcBytes f.payload)

def Exchange.address : Exchange → Nat
  | .frame f => f.address
  | .wake => 0

/-! ### Replies (R107 to R109, R111, R174) -/

/-- A good header taken as the answer of a frame: its payload length, or none for WRONG REPLY (R111 step 2, R102). -/
def replyLength (f : Frame) (b1 b2 : Byte) : Option Nat :=
  if b1.toNat % 32 = f.address && f.replyKind == some (b1.toNat / 32) && decide (b2.toNat ≤ 32) then some b2.toNat
  else none

def pointStatusOf : Nat → Option PointStatus
  | 0 => some .good
  | 1 => some .suspect
  | 2 => some .fault
  | _ => none

def ackCodeOf : Nat → Option AckCode
  | 0 => some .ok
  | 1 => some .corrected
  | 2 => some .payloadBad
  | 3 => some .unknownChannel
  | 4 => some .localHand
  | 5 => some .refused
  | _ => none

def outstationKindOf : Nat → Option OutstationKind
  | 0 => some .gauge
  | 1 => some .actuator
  | 2 => some .recorder
  | _ => none

/-- A point kind as IDENT codes it, some none for NONE (10.6.3). -/
def fittedKindOf : Nat → Option (Option PointKind)
  | 0 => some none
  | 1 => some (some .measure)
  | 2 => some (some .meter)
  | 3 => some (some .valve)
  | 4 => some (some .booster)
  | 5 => some (some .governor)
  | _ => none

/-- A valve position as a point value codes it (10.6.3). -/
def valveStateOf : Nat → Option Reported
  | 0 => some .shut
  | 1 => some .cracked
  | 2 => some .opened
  | 3 => some .moving
  | 4 => some .fault
  | _ => none

/-- A booster state as a point value codes it (10.6.3). -/
def boosterStateOf : Nat → Option BoosterRep
  | 0 => some .stopped
  | 1 => some .running
  | 2 => some .fault
  | _ => none

/-- Whether the value of an entry is one its point kind has (R108, R111; log 18). A VALVE or BOOSTER entry with the status
SUSPECT, which R108 gives no outstation to send, is taken as its value says (log 70). -/
def valueInList (kind : Option PointKind) (st : PointStatus) (raw : BitVec 24) : Bool :=
  st == .fault ||
    match kind with
    | some .valve => (valveStateOf raw.toNat).isSome
    | some .booster => (boosterStateOf raw.toNat).isSome
    | _ => true

/-- The first n point entries of VALUES, and the bytes after them (R108, 10.6.3). -/
def parseEntries (points : Four (Option PointKind)) : Nat → List Byte → Option (List PointEntry × List Byte)
  | 0, bs => some ([], bs)
  | n + 1, b :: v0 :: v1 :: v2 :: bs =>
    let ch := b.toNat % 4
    let raw := BitVec.ofNat 24 (ofLe [v0, v1, v2])
    match pointStatusOf (b.toNat / 4) with
    | some st =>
      if valueInList (points.get ch) st raw then
        match parseEntries points n bs with
        | some (es, rest) => some (⟨ch, st, raw⟩ :: es, rest)
        | none => none
      else none
    | none => none
  | _ + 1, _ => none

/-- The latched indices, m of them and no byte more (R108). -/
def parseLatches : Nat → List Byte → Option (List Nat)
  | 0, [] => some []
  | m + 1, v0 :: v1 :: v2 :: bs => (parseLatches m bs).map (ofLe [v0, v1, v2] :: ·)
  | _, _ => none

/-- The point entries of a reply whose point is a meter point by the roster (R108, R111). -/
def meterEntries (points : Four (Option PointKind)) (es : List PointEntry) : List PointEntry :=
  es.filter fun e => points.get e.channel == some .meter

def parseValues (points : Four (Option PointKind)) : List Byte → Option Reply
  | f :: c :: d :: bs =>
    let flags := f.toNat
    let n := flags % 8
    if 64 ≤ flags || n < 1 || 4 < n then none
    else
      match parseEntries points n bs with
      | some (es, rest) =>
        let latch := flags.testBit 5
        (parseLatches (if latch then (meterEntries points es).length else 0) rest).map fun ls =>
          .values ⟨flags.testBit 3, flags.testBit 4, latch, c.toNat, d.toNat, es, ls⟩
      | none => none
  | _ => none

/-- ACK: the channel is that of the ORDER answered, 0 for LOAD (R107). -/
def parseAck (channel : Nat) : List Byte → Option Reply
  | [code, ch] => if ch.toNat = channel then (ackCodeOf code.toNat).map (.ack · channel) else none
  | _ => none

def parseIdent : List Byte → Option Reply
  | [k, p0, p1, p2, p3] =>
    match outstationKindOf k.toNat, fittedKindOf p0.toNat, fittedKindOf p1.toNat, fittedKindOf p2.toNat,
        fittedKindOf p3.toNat with
    | some k, some a, some b, some c, some d => some (.ident ⟨k, ⟨a, b, c, d⟩⟩)
    | _, _, _, _, _ => none
  | _ => none

/-- The payload of the reply to a frame against its kind (R111 step 4, R174). points are those the roster describes. -/
def parseReply (points : Four (Option PointKind)) (f : Frame) (payload : List Byte) : Option Reply :=
  match f with
  | .mark _ => none
  | .read _ => parseValues points payload
  | .order _ ch _ _ => parseAck ch payload
  | .load _ _ _ => parseAck 0 payload
  | .probe _ => parseIdent payload

/-- The outcome of a reply whose bytes are all in: the payload and its check (R111 steps 3 to 5, R105). -/
def replyOutcome (points : Four (Option PointKind)) (f : Frame) (corrected : Bool) (length : Nat)
    (bytes : List Byte) : ExOutcome :=
  let payload := bytes.take length
  if bytes.drop length == crcBytes payload then
    match parseReply points f payload with
    | some r => .good corrected r
    | none => .payloadBad
  else .payloadBad

/-! ### Taking an exchange (R98, R99) -/

/-- The length of a break (R99). -/
def BreakKind.span : BreakKind → Time
  | .short => Config.ms 40
  | .wake => Config.ms 150
  | .long => Config.ms 500

/-- The part drives the line from now on (R99, R101: the detector does not run). -/
def Ylc.drive (u : Ylc) (now : Time) : Ylc := { u with driving := true, began := now, detector := none, timer := none }

/-- YLC takes an exchange from IDLE, reading the line settings (R97, R98). -/
def takeExchange (e : Exchange) (y : Yard) : Yard :=
  y.updYlc fun u =>
    let u := { u.drive y.now with flight := some ⟨e, y.yds.line.window, 0, none, none⟩,
                                  charTime := y.yds.line.rate.charTime }
    match e with
    | .frame _ => { u with line := .sending, brk := none }
    | .wake => { u with line := .breaking, brk := some .wake }

/-- YLC takes the exchange that has waited longest, from IDLE (R98). -/
def takeWaiting (y : Yard) : Yard :=
  match y.ylc.waiting with
  | e :: es => takeExchange e (y.updYlc fun u => { u with waiting := es })
  | [] => y

/-- SCS hands YLC an exchange: taken when IDLE, else it waits (R98). -/
def handExchange (e : Exchange) (y : Yard) : Yard :=
  if y.ylc.line == .idle then takeExchange e y
  else y.updYlc fun u => { u with waiting := u.waiting ++ [e] }

/-- When the line has stood at mark for two character times (R98). -/
def Ylc.quietAt (u : Ylc) : Time := u.busy + 2 * u.charTime

/-- A long break goes out from a moment on (R99, R101, R112, R116). -/
def longFrom (moment : Time) (y : Yard) : Yard :=
  y.updYlc fun u =>
    { u.drive moment with line := .breaking, brk := some .long, flight := none, again := false,
                          charTime := y.yds.line.rate.charTime }

/-- A long break goes out now. -/
def beginLong (y : Yard) : Yard := longFrom y.now y

/-- GUARD passes to IDLE at once where the two character times are already over; from IDLE a long break that waits is taken,
else the exchange that has waited longest (R98, R99). -/
def settle (y : Yard) : Yard :=
  if y.ylc.line == .guard && !y.lineSpace && decide (y.ylc.quietAt ≤ y.now) then
    let y := y.updYlc fun u => { u with line := .idle }
    if y.ylc.again then beginLong y else takeWaiting y
  else y

/-- The driver is released now: the undriven line stands as it stood before it was driven, its moves while driven being passed
over, and the detector runs if that is at space (R99, R101, log 69). -/
def release (y : Yard) : Yard :=
  y.updYlc fun u =>
    { u with driving := false, busy := y.now, detector := if y.lineSpace then some y.now else none }

/-- The stall of a reply, and the end of a drain that stays busy: a short break goes out within the exchange, which then
ends with the outcome decided (R110, R111). -/
def breakOff (o : ExOutcome) (y : Yard) : Yard :=
  y.updYlc fun u =>
    { u.drive y.now with line := .breaking, brk := some .short, flight := u.flight.map ({ · with decided := some o }) }

/-- The end of the character that is going out, the characters of a frame going back to back from the moment it began; the
present moment when none is in progress (R110, R112). -/
def Ylc.charEnd (u : Ylc) (now : Time) (chars : Nat) : Time :=
  let begun := (now - u.began + u.charTime - 1) / u.charTime
  max now (u.began + min begun chars * u.charTime)

/-- The characters of the frame that is going out. -/
def Ylc.sendingLength (u : Ylc) : Nat :=
  match u.flight with
  | some f =>
    match f.exchange with
    | .frame g => g.bytes.length
    | .wake => 0
  | none => 0

/-- SCS asks for the long break of LINE RESET. The exchange in flight ends ABORTED and the break goes out without the guard:
at the end of the character in progress in SENDING, at once while the reply is awaited, received or drained, after the break
in progress in BREAKING (R112). With no exchange in flight it is taken from IDLE, so that in GUARD it waits for IDLE (R99);
in HELD, and at a line start that waits for mark, it is the long break of the release (R112, R116). An exchange that waits is
dropped: the cycle it belongs to ends where it stands (R131, log 68). -/
def askLong (y : Yard) : Yard :=
  let cut := y.updYlc fun u =>
    { u with why := { u.why with reset := true }, waiting := [], flight := none, timer := none }
  let later := cut.updYlc fun u => { u with again := true }
  match y.ylc.line with
  | .held => cut
  | .breaking => if y.ylc.driving then later else cut
  | .guard => settle later
  | .sending => longFrom (y.ylc.charEnd y.now y.ylc.sendingLength) cut
  | .awaitReply => beginLong cut
  | .receiving => beginLong cut
  | .draining => beginLong cut
  | .idle => beginLong cut

end Sys2Proof.Machine
end

