-- ==== Sys2Proof/Machine/Scan.lean ====
section
/-! DEFINITION. The scan sequencer SCS (07): the roster, polls and what their replies hand on, sleepers, probes, the phases
of the scan cycle, the outcomes of commands and loads. -/

namespace Sys2Proof.Machine

/-! ### The roster (R117, R118) -/

def Scs.entryAt (u : Scs) (address : Nat) : Option Entry := u.roster.find? (·.address == address)

/-- The points the roster describes at an address, none where there is no entry. -/
def Scs.pointsAt (u : Scs) (address : Nat) : Four (Option PointKind) :=
  match u.entryAt address with
  | some e => e.points
  | none => .all none

def Scs.updEntry (u : Scs) (address : Nat) (f : Entry → Entry) : Scs :=
  { u with roster := u.roster.map fun e => if e.address == address then f e else e }

def updEntryDyn (address : Nat) (f : EntryDyn → EntryDyn) (y : Yard) : Yard :=
  y.updScs (·.updEntry address fun e => { e with dyn := f e.dyn })

/-- Insert an entry by ascending address, in place of one with the same address. -/
def insertEntry (e : Entry) : List Entry → List Entry
  | [] => [e]
  | x :: xs =>
    if e.address < x.address then e :: x :: xs
    else if e.address = x.address then e :: xs
    else x :: insertEntry e xs

/-- The address next above another in the roster, wrapping to the lowest (R117, R125). -/
def nextAbove (roster : List Entry) (a : Nat) : Option Nat :=
  match roster.find? (a < ·.address) with
  | some e => some e.address
  | none => roster.head?.map (·.address)

/-- The roster's addresses once round from the rotating start (R125). -/
def onceRound (roster : List Entry) (start : Option Nat) : List Nat :=
  let all := roster.map (·.address)
  match start with
  | some s => all.filter (s ≤ ·) ++ all.filter (· < s)
  | none => all

/-! ### Counting (R115) -/

def Counters.count (c : Counters) : ExOutcome → Counters
  | .good corrected r =>
    let c := if corrected then { c with corrected := saturate 65535 c.corrected } else c
    match r with
    | .values v =>
      { c with outCorrections := saturateBy 65535 c.outCorrections v.corrections,
               outDiscards := saturateBy 65535 c.outDiscards v.discards }
    | _ => c
  | .uncorrectable => { c with uncorrectable := saturate 65535 c.uncorrectable }
  | .wrongReply => { c with uncorrectable := saturate 65535 c.uncorrectable }
  | .payloadBad => { c with payloadBad := saturate 65535 c.payloadBad }
  | .timeout => { c with timeout := saturate 65535 c.timeout }
  | .aborted => c
  | .sent => c

def countOutcome (address : Nat) (o : ExOutcome) (y : Yard) : Yard :=
  updEntryDyn address (fun d => { d with counters := d.counters.count o }) y

/-! ### Poll outcomes (R119, R122) -/

def EntryState.polledAsLive : EntryState → Bool
  | .unknown => true
  | .live => true
  | .suspect => true
  | _ => false

/-- A good poll of an entry (R119, R122). -/
def EntryDyn.good (d : EntryDyn) (sleeper sleeping : Bool) (cycle : Nat) : EntryDyn :=
  { d with state := if sleeper && sleeping then .asleep else .live, misses := 0, failedWait := 0, woken := none,
           lastGood := some cycle }

/-- A missed poll of an entry that is no sleeper (R119). -/
def EntryDyn.missed (d : EntryDyn) : EntryDyn :=
  let m := saturate 255 d.misses
  match d.state with
  | .failed => { d with misses := m, failedWait := 4 }
  | s =>
    if 6 ≤ m then { d with misses := m, state := .failed, failedWait := 4 }
    else { d with misses := m, state := if 2 ≤ m then .suspect else s }

/-- A missed poll of a sleeper (R122). -/
def EntryDyn.missedAsleep (d : EntryDyn) : EntryDyn :=
  let m := saturate 255 d.misses
  let d := { d with misses := m, woken := none }
  if d.state == .failed || 3 ≤ m then { d with state := .failed } else { d with state := .asleep }

/-- A poll ends good: the roster is taken (R119, R122). -/
def pollGood (a : Nat) (sleeping : Bool) (y : Yard) : Yard :=
  match y.scs.entryAt a with
  | some e =>
    let y := updEntryDyn a (·.good e.sleeper sleeping y.scs.cycle) y
    if e.dyn.state == .failed then raiseNotice .outstationRecovered a (a : Int) y else y
  | none => y

/-- A poll is missed (R119, R122). -/
def pollMissed (a : Nat) (y : Yard) : Yard :=
  match y.scs.entryAt a with
  | some e =>
    let d := if e.sleeper then e.dyn.missedAsleep else e.dyn.missed
    let y := updEntryDyn a (fun _ => d) y
    if d.state == .failed && e.dyn.state != .failed then raiseNotice .outstationFailed a (a : Int) y else y
  | none => y

/-! ### The values of a reply (R120) -/

/-- Every valve of the yard. -/
def Valve.list : List Valve := Holder.list.flatMap fun h => [⟨h, .inlet⟩, ⟨h, .outlet⟩]

/-- Whether an entry of a reply is kept: a described channel, and not one whose fitted kind differs while MISMATCHED
(R120). -/
def entryKept (e : Entry) (p : PointEntry) : Bool :=
  match e.points.get p.channel with
  | some k =>
    if e.dyn.identity == .mismatched then
      match e.dyn.fitted with
      | some f => f.points.get p.channel == some k
      | none => true
    else true
  | none => false

/-- The report of a valve (R120). -/
def valveState (p : PointEntry) : Reported :=
  if p.status == .fault then .fault else (valveStateOf p.raw.toNat).getD .fault

def boosterState (p : PointEntry) : BoosterRep :=
  if p.status == .fault then .fault else (boosterStateOf p.raw.toNat).getD .fault

/-- One point entry is handed to the block that uses its point (R120); where several bindings name the point, to each of them
in the order of the binding codes (DESIGN CHOICE, log 85). The restarted flag goes with every METER entry handed, also where the
first METER entry of the reply is discarded (R140; DESIGN CHOICE, log 88). -/
def handEntry (a : Nat) (restarted : Bool) (y : Yard) (p : PointEntry) : Yard :=
  match y.scs.entryAt a with
  | some e =>
    let pt : Point := ⟨a, p.channel⟩
    if entryKept e p then
      match e.points.get p.channel with
      | some .measure => qprEntry pt p.status (entryValue false p.raw) false y
      | some .meter => qprEntry pt p.status (entryValue true p.raw) restarted y
      | some .valve =>
        (Valve.list.filter fun v => y.yds.bind.valve v == some pt).foldl (fun y v => valveReport v (valveState p) y) y
      | some .booster =>
        (District.list.filter fun d => y.yds.bind.booster.get d == some pt).foldl
          (fun y d => boosterReport d (boosterState p) y) y
      | some .governor =>
        (District.list.filter fun d => y.yds.bind.governor.get d == some pt).foldl
          (fun y d => governorReport d (p.raw.toNat : Int) p.status y) y
      | none => y
    else y
  | none => y

/-- The values of a good reply are handed on: the point entries, then the latched indices; a restarted reply sets the identity
UNCHECKED after them, so that its own entries are kept or discarded by the identity that stood (R120, log 71). -/
def handValues (a : Nat) (v : ValuesReply) (y : Yard) : Yard :=
  let y := v.entries.foldl (handEntry a v.restarted) (newReply y)
  let y := ((meterEntries (y.scs.pointsAt a) v.entries).zip v.latched).foldl
    (fun y x => soaLatch ⟨a, x.1.channel⟩ x.2 y) y
  if v.restarted then updEntryDyn a (fun d => { d with identity := .unchecked }) y else y

/-! ### The phases of the cycle (R123 to R127) -/

/-- The interval end of the cycle (R123). -/
def Scs.intervalEnd (u : Scs) : Time := u.cycleStart + Config.sec u.interval

/-- 70 % of the cycle's interval (R125). -/
def Scs.budget (u : Scs) : Time := 16800 * u.interval

/-- Whether the poll budget is not spent (R125), tested when SCS hands the READ (log 32); the time the line is HELD counts as
spent in the phase (log 80). -/
def inBudget (y : Yard) : Bool := decide (y.now - y.scs.pollStart < y.scs.budget)

/-- Whether a wake is due at the start of a cycle (R122). -/
def wakeIsDue (y : Yard) : Bool :=
  y.scs.wakeDue ||
    match y.gdc.clock, y.scs.lastWake with
    | _, none => true
    | some c, some w => w.2 != some c.period
    | none, some w => decide (w.1 + Config.sec 900 ≤ y.now)

/-- The failed wait of every FAILED entry falls by 1 at the start of a POLL phase (R119). -/
def Entry.waitFalls (e : Entry) : Entry :=
  if e.dyn.state == .failed then { e with dyn := { e.dyn with failedWait := e.dyn.failedWait - 1 } } else e

/-- The POLL phase begins: the failed waits fall, and MARK POLL is asked for (R119, R125). -/
def askPoll (y : Yard) : Yard :=
  handExchange (.frame (.mark .poll))
    (y.updScs fun u => { u with phase := .poll, pollStart := y.now, toPoll := [], polling := none, retrying := false,
                                sleepWait := none, roster := u.roster.map (·.waitFalls) })

/-- A scan cycle starts (R123, R124). -/
def startCycle (y : Yard) : Yard :=
  let y := y.updScs fun u =>
    { u with cycle := (u.cycle + 1) % 65536, interval := y.yds.scan, cycleStart := y.now, wakeDue := wakeIsDue y }
  if y.scs.dayOwed then handExchange (.frame (.mark .day)) (y.updScs fun u => { u with phase := .day }) else askPoll y

/-- The POLL phase ends: QPR is told, and MARK ORDER asked for (R137, R126). -/
def endPoll (y : Yard) : Yard :=
  let y := qprPhaseEnd (y.updScs fun u => { u with toPoll := [], polling := none, retrying := false, sleepWait := none })
  handExchange (.frame (.mark .order)) (y.updScs fun u => { u with phase := .order })

/-- The budget is spent at an entry: the cycle is SHORT (R125). -/
def endShort (a : Nat) (y : Yard) : Yard :=
  let count := saturate 255 y.scs.shortCount
  let y := y.updScs fun u => { u with shortCount := count, rotating := some a }
  endPoll (if 3 ≤ count then raiseNotice .lineOverloaded 0 (count : Int) y else y)

/-- The phase has taken every entry once round (R125). -/
def endRound (y : Yard) : Yard :=
  let lowest := y.scs.roster.head?.map fun e : Entry => e.address
  let start := if y.scs.rotating.isSome then y.scs.rotating else lowest
  endPoll (y.updScs fun u => { u with shortCount := 0, rotating := start.bind (nextAbove u.roster) })

/-- When a sleeper may be read, none for an entry that is not due (R122). -/
def sleeperDue (d : EntryDyn) : Option Time :=
  match d.state with
  | .waking => some (d.wakeTime + Config.sec 1)
  | .failed => d.woken.map (· + Config.sec 1)
  | .asleep => none
  | _ => some 0

/-- When an entry may be read, none for one that is not due (R125). -/
def entryDue (e : Entry) : Option Time :=
  if e.sleeper then sleeperDue e.dyn
  else if e.dyn.state.polledAsLive || (e.dyn.state == .failed && e.dyn.failedWait == 0) then some 0
  else none

/-- A READ is begun (R119). -/
def beginRead (a : Nat) (retry : Bool) (rest : List Nat) (y : Yard) : Yard :=
  handExchange (.frame (.read a))
    (y.updScs fun u => { u with toPoll := rest, polling := some a, retrying := retry, sleepWait := none })

/-- The POLL phase goes on with the entries still to take (R125, R122). -/
def pollOn : List Nat → Yard → Yard
  | [], y => endRound y
  | a :: rest, y =>
    match (y.scs.entryAt a).bind entryDue with
    | none => pollOn rest y
    | some t =>
      if y.now < t then y.updScs fun u => { u with toPoll := a :: rest, polling := none, sleepWait := some a }
      else if inBudget y then beginRead a false rest y
      else endShort a y

/-- MARK POLL has been sent: the entries are taken from the rotating start (R125). Those of the roster as it then stands are
taken; one described later in the phase waits for the next cycle (log 74). -/
def startPolls (y : Yard) : Yard := pollOn (onceRound y.scs.roster y.scs.rotating) y

/-- The outcome of a READ of the POLL phase (R119, R120, R125). An address that no entry of the roster has any longer, its
outstation removed while the READ was in flight, keeps its poll: the retry is begun to it, and a spent budget makes it the
rotating start; no entry takes the outcome (DESIGN CHOICE, log 82). -/
def readOutcome (a : Nat) (o : ExOutcome) (y : Yard) : Yard :=
  match o with
  | .good _ (.values v) => pollOn y.scs.toPoll (qprPolled a (handValues a v (pollGood a v.sleeping y)))
  | .aborted => pollOn y.scs.toPoll y
  | _ =>
    if y.scs.retrying then pollOn y.scs.toPoll (qprPolled a (pollMissed a y))
    else if inBudget y then beginRead a true y.scs.toPoll y
    else endShort a y

/-! ### The ORDER phase (R126, R129) -/

/-- Whether an outstation is sent commands and loads now (R126, R130). -/
def Scs.sendable (u : Scs) (address : Nat) : Bool := (u.entryAt address).any (·.dyn.state.polledAsLive)

/-- The next command the ORDER phase sends: those before it that are held are taken without being sent (R126). -/
def nextCommand (u : Scs) : List Command → List Command × Option Command
  | [] => ([], none)
  | c :: cs =>
    if c.taken then
      let r := nextCommand u cs
      (c :: r.1, r.2)
    else if u.sendable c.outstation then
      let c := { c with taken := true, inFlight := true, sends := c.sends + 1 }
      (c :: cs, some c)
    else
      let r := nextCommand u cs
      ({ c with taken := true } :: r.1, r.2)

def Command.frame (c : Command) : Frame := .order c.outstation c.channel c.code c.value

/-- The ORDER phase has ended: the LOAD phase, or the next cycle when the interval end is past (R123, R127). -/
def endOrder (y : Yard) : Yard :=
  if y.now < y.scs.intervalEnd then
    handExchange (.frame (.mark .load)) (y.updScs fun u => { u with phase := .load })
  else startCycle y

/-- The ORDER phase goes on with the next command (R126). -/
def orderOn (y : Yard) : Yard :=
  let r := nextCommand y.scs y.scs.commands
  let y := y.updScs fun u => { u with commands := r.1 }
  match r.2 with
  | some c => handExchange (.frame c.frame) y
  | none => endOrder y

/-- MARK ORDER has been sent: the district update, then the command list (R126). -/
def startOrders (y : Yard) : Yard :=
  let y := districtUpdate y
  orderOn (y.updScs fun u => { u with commands := u.commands.map ({ · with taken := false }) })

/-- A command's outcome is returned to its owner (R129). -/
def returnCommand (c : Command) (o : CmdOutcome) (y : Yard) : Yard :=
  match c.owner with
  | .valve v => valveOutcome v o y
  | .governor d => governorOutcome d c.value o y
  | .booster d => boosterOutcome d c.code o y

/-- What an ORDER's outcome makes of its command: returned as, or none for a failed send (R129). -/
def orderTaken : ExOutcome → Option CmdOutcome
  | .good _ (.ack .ok _) => some .delivered
  | .good _ (.ack .corrected _) => some .delivered
  | .good _ (.ack .localHand _) => some .localHand
  | .good _ (.ack .refused _) => some .refused
  | _ => none

def dropCommand (p : Point) (y : Yard) : Yard :=
  y.updScs fun u => { u with commands := u.commands.filter fun c => !(c.isFor p) }

/-- The outcome of an ORDER (R128, R129): that of a send whose command has been replaced is not returned. -/
def orderOutcome (p : Point) (o : ExOutcome) (y : Yard) : Yard :=
  let y :=
    match y.scs.commands.find? fun c => c.isFor p && c.inFlight with
    | some c =>
      match orderTaken o with
      | some r => returnCommand c r (dropCommand p y)
      | none =>
        if 3 ≤ c.sends then returnCommand c (.undelivered 0) (dropCommand p y)
        else y.updScs fun u =>
          { u with commands := u.commands.map fun c => if c.isFor p then { c with inFlight := false } else c }
    | none => y
  orderOn y

/-! ### The LOAD phase (R121, R122, R127, R130) -/

/-- The next load the phase sends; those held are taken without being sent (R130). -/
def nextLoad (u : Scs) : List Load → List Load × Option Load
  | [] => ([], none)
  | l :: ls =>
    if l.taken then
      let r := nextLoad u ls
      (l :: r.1, r.2)
    else if u.sendable l.address then
      let l := { l with taken := true, inFlight := true, sends := l.sends + 1 }
      (l :: ls, some l)
    else
      let r := nextLoad u ls
      ({ l with taken := true } :: r.1, r.2)

/-- Whether an entry is to be probed (R121). -/
def Entry.toProbe (e : Entry) : Bool :=
  !e.sleeper && (e.dyn.state == .unknown || e.dyn.identity == .unchecked)

/-- The LOAD phase goes on: the wake pulse, then probes, then loads, each begun only before the interval end (R127). The interval
end is tested when the exchange is handed to YLC, which may let it wait in GUARD (DESIGN CHOICE, log 89). The work is
looked up as it stands at each exchange: a wake due, the next entry of the roster above the last probed, a waiting load (DESIGN
CHOICE, log 94). -/
def loadOn (y : Yard) : Yard :=
  if y.scs.intervalEnd ≤ y.now then startCycle y
  else if y.scs.wakeDue then handExchange .wake y
  else
    match y.scs.roster.find? fun e => decide (y.scs.probed < e.address) && e.toProbe with
    | some e => handExchange (.frame (.probe e.address)) (y.updScs fun u => { u with probed := e.address })
    | none =>
      let r := nextLoad y.scs y.scs.loads
      let y := y.updScs fun u => { u with loads := r.1 }
      match r.2 with
      | some l => handExchange (.frame (.load l.address l.param l.value)) y
      | none => y.updScs fun u => { u with phase := .wait }

/-- MARK LOAD has been sent (R127). -/
def startLoads (y : Yard) : Yard :=
  loadOn (y.updScs fun u => { u with probed := 0, loads := u.loads.map ({ · with taken := false }) })

/-- A sleeper's record at a wake: ASLEEP becomes WAKING, a FAILED one is marked woken; a WAKING one takes the new time at
a wake pulse (R122, R131). -/
def EntryDyn.wake (d : EntryDyn) (now : Time) (pulse : Bool) : EntryDyn :=
  match d.state with
  | .asleep => { d with state := .waking, wakeTime := now }
  | .waking => if pulse then { d with wakeTime := now } else d
  | .failed => { d with woken := some now }
  | _ => d

def wakeSleepers (pulse : Bool) (y : Yard) : Yard :=
  y.updScs fun u =>
    { u with roster := u.roster.map fun e => if e.sleeper then { e with dyn := e.dyn.wake y.now pulse } else e }

/-- The wake pulse has been sent (R122). -/
def wakeSent (y : Yard) : Yard :=
  let y := y.updScs fun u =>
    { u with wakeDue := false, lastWake := some (y.now, y.gdc.clock.map (·.period)) }
  loadOn (wakeSleepers true y)

/-- Whether an IDENT matches the entry (R121). -/
def identMatches (e : Entry) (f : Fitted) : Bool := f.kind == e.kind && f.points == e.points

/-- The outcome of a PROBE (R121). -/
def probeOutcome (a : Nat) (o : ExOutcome) (y : Yard) : Yard :=
  loadOn <|
    match o, y.scs.entryAt a with
    | .good _ (.ident f), some e =>
      updEntryDyn a (fun d =>
        { d with fitted := some f, identity := if identMatches e f then .matched else .mismatched }) y
    | _, _ => y

/-- The load outcome an ACK gives, none for a failed send (R130). -/
def loadTaken : ExOutcome → Option LoadOutcome
  | .good _ (.ack .ok _) => some .done
  | .good _ (.ack .corrected _) => some .done
  | .good _ (.ack .localHand _) => some .localHand
  | .good _ (.ack .refused _) => some .refused
  | _ => none

/-- The load in flight leaves the list, and its outcome stands in the entry (R130). -/
def endLoad (a : Nat) (r : LoadOutcome) (y : Yard) : Yard :=
  updEntryDyn a (fun d => { d with load := r })
    (y.updScs fun u => { u with loads := u.loads.filter fun l => !l.inFlight })

/-- The outcome of a LOAD (R130). -/
def loadOutcome (a : Nat) (o : ExOutcome) (y : Yard) : Yard :=
  loadOn <|
    match y.scs.loads.find? (·.inFlight) with
    | some l =>
      match loadTaken o with
      | some r => endLoad a r y
      | none =>
        if 3 ≤ l.sends then endLoad a .failed y
        else y.updScs fun u => { u with loads := u.loads.map ({ · with inFlight := false }) }
    | none => y

/-! ### Taking an outcome (R123) -/

/-- A MARK has been sent (R124 to R127). -/
def markSent (p : MarkPhase) (y : Yard) : Yard :=
  match p with
  | .day =>
    askPoll (soaMarkerSent
      ((y.updScs fun u => { u with dayOwed := false }).updQpr fun q => { q with markerAwaited := false }))
  | .poll => startPolls y
  | .order => startOrders y
  | .load => startLoads y

/-- SCS takes the outcome of an exchange, and hands YLC the next (R115, R123). -/
def scsOutcome (e : Exchange) (o : ExOutcome) (y : Yard) : Yard :=
  match e with
  | .wake => wakeSent y
  | .frame f =>
    let y := countOutcome f.address o y
    match f with
    | .mark p => markSent p y
    | .read a => readOutcome a o y
    | .order a ch _ _ => orderOutcome ⟨a, ch⟩ o y
    | .load a _ _ => loadOutcome a o y
    | .probe a => probeOutcome a o y

/-! ### Cycle starts, waits, the long break (R122, R123, R131) -/

/-- SCAN_CYCLE_START: the interval end is reached in WAIT (R123). The next cycle begins although the line is HELD: WAIT has no
exchange that would wait, so that it does not stand still, and the first MARK of the new cycle waits (DESIGN CHOICE, log 83). -/
def intervalOver (y : Yard) : Yard :=
  if y.scs.phase == .wait then startCycle (y.reach y.scs.intervalEnd) else y

/-- SLEEPER_POLL_WAIT_EXPIRY: the 1 s after a sleeper's wake is over (R122). An entry removed meanwhile is passed over
(DESIGN CHOICE, log 82). -/
def sleepOver (y : Yard) : Yard :=
  match y.scs.sleepWait with
  | some a =>
    let t := ((y.scs.entryAt a).bind entryDue).getD 0
    let y := y.reach t
    pollOn y.scs.toPoll (y.updScs fun u => { u with sleepWait := none })
  | none => y

/-- The cycle in hand ends where it stands (R131, R137). -/
def cutCycle (y : Yard) : Yard :=
  qprPhaseCut (y.updScs fun u =>
    { u with phase := .none, toPoll := [], polling := none, retrying := false, sleepWait := none })

/-- The commands of a cleared list are returned to their owners as undelivered, in list order: R131 states that order, and at the
removal of an entry (R117) it is the model's (DESIGN CHOICE, log 95). -/
def returnAll (cause : Nat) (cs : List Command) (y : Yard) : Yard :=
  cs.foldl (fun y c => returnCommand c (.undelivered cause) y) y

/-- Every load of a cleared list leaves the outcome FAILED (R131). -/
def failLoads (ls : List Load) (y : Yard) : Yard :=
  ls.foldl (fun y l => updEntryDyn l.address (fun d => { d with load := .failed }) y) y

/-- A roster entry after LINE RESET: the counters, the last good cycle, the fitted kinds and the load outcome stay (R131). -/
def EntryDyn.lineReset (d : EntryDyn) : EntryDyn :=
  { d with state := .unknown, misses := 0, failedWait := 0, woken := none, identity := .unchecked }

/-- LINE RESET (R131). -/
def lineReset (y : Yard) : Yard :=
  let y := cutCycle (askLong y)
  let cs := y.scs.commands
  let y := returnAll 2 cs (y.updScs fun u => { u with commands := [] })
  let ls := y.scs.loads
  let y := failLoads ls (y.updScs fun u => { u with loads := [] })
  y.updScs fun u =>
    { u with roster := u.roster.map (fun e => { e with dyn := e.dyn.lineReset }),
             rotating := u.roster.head?.map (·.address), shortCount := 0 }

end Sys2Proof.Machine
end

