-- ==== Sys2Proof/Machine/LineEvents.lean ====
section
/-! DEFINITION. The yard line controller YLC (06), second part: how exchanges and breaks end, and the events of the line. -/

namespace Sys2Proof.Machine

/-- An exchange ends with its outcome: the line goes to GUARD, SCS takes the outcome, and the line passes on to IDLE where
the guard is already over (R98). -/
def endExchange (o : ExOutcome) (y : Yard) : Yard :=
  match y.ylc.flight with
  | some f =>
    let y := y.updYlc fun u => { u with flight := none, timer := none, line := .guard }
    settle (scsOutcome f.exchange o y)
  | none => y

/-- The frame of the exchange in flight. -/
def Ylc.frame (u : Ylc) : Option Frame :=
  match u.flight with
  | some f =>
    match f.exchange with
    | .frame g => some g
    | .wake => none
  | none => none

/-- GUARD_EXPIRY: the line has stood at mark for two character times (R98). -/
def guardExpiry (y : Yard) : Yard :=
  if y.ylc.line == .guard && !y.lineSpace then settle (y.reach y.ylc.quietAt) else y

/-- FRAME_SENT: the last stop bit of the frame has gone out (R106, R110). -/
def frameSent (y : Yard) : Yard :=
  match y.ylc.line, y.ylc.flight, y.ylc.frame with
  | .sending, some f, some g =>
    let y := release (y.reach (y.ylc.began + g.bytes.length * y.ylc.charTime))
    match g with
    | .mark _ => endExchange .sent y
    | _ => y.updYlc fun u => { u with line := .awaitReply, timer := some (y.now + Config.ms f.window) }
  | _, _, _ => y

/-- A long break has been sent: who asked for it is told (R101, R112, R116, R131). -/
def longSent (w : LongWhy) (y : Yard) : Yard :=
  let y := y.updYlc fun u => { u with line := .guard, why := ⟨false, false, false⟩ }
  let y := if w.recovery then wakeSleepers false y else y
  settle (if w.lineStart || w.reset then startCycle y else y)

/-- BREAK_SENT: the break and its mark character have been sent (R99). -/
def breakSent (y : Yard) : Yard :=
  match y.ylc.line, y.ylc.driving, y.ylc.brk with
  | .breaking, true, some k =>
    let y := release (y.reach (y.ylc.began + k.span + y.ylc.charTime))
    let w := y.ylc.why
    let held := y.ylc.held && !(k == .long && w.recovery)
    let y := y.updYlc fun u => { u with brk := none, held := held }
    if y.ylc.again then beginLong y
    else
      match k with
      | .long => longSent w y
      | .wake => endExchange .sent y
      | .short => endExchange ((y.ylc.flight.bind (·.decided)).getD .timeout) y
  | _, _, _ => y

/-- REPLY_WINDOW_EXPIRY: no start bit has been seen in the window (R110). -/
def windowExpiry (y : Yard) : Yard :=
  match y.ylc.line, y.ylc.timer with
  | .awaitReply, some t => endExchange .timeout (y.reach t)
  | _, _ => y

/-- The line was busy at a moment that is now reached (R98). -/
def busyAt (t : Time) (y : Yard) : Yard :=
  let y := y.reach t
  y.updYlc fun u => { u with busy := y.now }

/-- The reply deadline for a number of characters expected (R110). -/
def Ylc.deadline (u : Ylc) (start : Time) (chars : Nat) : Time := start + Config.ms 20 + chars * u.charTime

/-- REPLY_START: the first start bit of the reply, within the window (R110), a start bit at the very end of it among them
(DESIGN CHOICE, log 93). -/
def replyStart (moment : Time) (y : Yard) : Yard :=
  match y.ylc.line, y.ylc.timer with
  | .awaitReply, some t =>
    let y' := busyAt moment y
    if y'.now ≤ t then
      y'.updYlc fun u =>
        { u with line := .receiving, timer := some (u.deadline y'.now 3),
                 flight := u.flight.map ({ · with replyStart := y'.now }) }
    else y
  | _, _ => y

/-- The line drains, the outcome decided (R111). -/
def drain (o : ExOutcome) (y : Yard) : Yard :=
  y.updYlc fun u =>
    { u with line := .draining, timer := u.flight.map (fun f => u.deadline f.replyStart 37),
             flight := u.flight.map ({ · with decided := some o }) }

/-- REPLY_HEADER_RECEIVED: the header and its check byte are in, by the deadline (R104, R110, R111; log 93 for the deadline's
own moment). A header of length 0 completes its reply, whose payload does not agree with its kind. -/
def replyHeader (moment : Time) (b1 b2 check : Byte) (y : Yard) : Yard :=
  match y.ylc.line, y.ylc.timer, y.ylc.flight, y.ylc.frame with
  | .receiving, some t, some f, some g =>
    let y' := busyAt moment y
    if y'.now ≤ t && f.header.isNone then
      match decodeHeader b1 b2 check with
      | none => drain .uncorrectable y'
      | some h =>
        match replyLength g h.1 h.2.1 with
        | none => drain .wrongReply y'
        | some 0 => endExchange .payloadBad y'
        | some n =>
          y'.updYlc fun u =>
            { u with timer := some (u.deadline f.replyStart (5 + n)), flight := some { f with header := some (n, h.2.2) } }
    else y
  | _, _, _, _ => y

/-- REPLY_COMPLETE: the last byte expected is in, by the deadline (R110, R111; log 93 for the deadline's own moment). -/
def replyComplete (moment : Time) (bytes : List Byte) (y : Yard) : Yard :=
  match y.ylc.line, y.ylc.timer, y.ylc.flight.bind (·.header), y.ylc.frame with
  | .receiving, some t, some h, some g =>
    let y' := busyAt moment y
    if y'.now ≤ t && bytes.length == h.1 + 2 then
      endExchange (replyOutcome (y.scs.pointsAt g.address) g h.2 h.1 bytes) y'
    else y
  | _, _, _, _ => y

/-- REPLY_DEADLINE_EXPIRY: the reply has stalled (R110). -/
def deadlineExpiry (y : Yard) : Yard :=
  match y.ylc.line, y.ylc.timer with
  | .receiving, some t => breakOff .timeout (y.reach t)
  | _, _ => y

/-- STOP_BIT_AT_SPACE: a reply character with its stop bit at space (R110). -/
def stopBit (moment : Time) (y : Yard) : Yard :=
  match y.ylc.line with
  | .receiving => breakOff .timeout (busyAt moment y)
  | _ => y

/-- DRAIN_END: the line has stood at mark for two character times, before the drain runs out or as it does (R111; DESIGN CHOICE,
log 93). -/
def drainEnd (y : Yard) : Yard :=
  match y.ylc.line, y.ylc.timer with
  | .draining, some t =>
    if !y.lineSpace && decide (y.ylc.quietAt ≤ t) then
      endExchange ((y.ylc.flight.bind (·.decided)).getD .uncorrectable) (y.reach y.ylc.quietAt)
    else y
  | _, _ => y

/-- DRAIN_TIMEOUT: the line is still busy at 20 ms and 37 characters from the reply's start bit (R111). Where it has stood at
mark for two character times by then, the drain has ended and the event has no occasion (log 3). -/
def drainTimeout (y : Yard) : Yard :=
  match y.ylc.line, y.ylc.timer with
  | .draining, some t =>
    if y.lineSpace || decide (t < y.ylc.quietAt) then
      breakOff ((y.ylc.flight.bind (·.decided)).getD .uncorrectable) (y.reach t)
    else y
  | _, _ => y

/-- The address of the exchange in flight, or 0 (R101). -/
def Ylc.addressInFlight (u : Ylc) : Nat :=
  match u.flight with
  | some f => f.exchange.address
  | none => 0

/-- LINE_HELD: the line has stood at space for more than 400 ms while the part was not driving it, by the line-held detector;
with the detector stopped, as it is at mark, the event has no occasion (R101, log 3). The exchange in flight ends TIMEOUT
first (R101, where R98's table of outcomes has ABORTED; log 73), then the held mark is set and LINE HELD raised. -/
def lineHeld (y : Yard) : Yard :=
  match y.ylc.detector with
  | some since =>
    if !y.ylc.driving && y.ylc.line != .held then
      let y := y.reach (since + Config.ms 400)
      let address := y.ylc.addressInFlight
      let flight := y.ylc.flight
      let y := y.updYlc fun u => { u with line := .held, flight := none, timer := none, busy := y.now }
      let y :=
        match flight with
        | some f => scsOutcome f.exchange .timeout y
        | none => y
      raiseNotice .lineHeld 0 (address : Int) (y.updYlc fun u => { u with held := true })
    else y
  | none => y

/-- LINE_HELD_RELEASE: a held line has stood at mark for two character times; the long break of recovery goes out
(R101). -/
def heldRelease (y : Yard) : Yard :=
  if y.ylc.line == .held && !y.lineSpace then
    let y := y.reach y.ylc.quietAt
    beginLong (y.updYlc fun u => { u with why := { u.why with recovery := true } })
  else y

/-- LINE_GOES_TO_SPACE while the part is not driving (R98, R101). -/
def goesToSpace (moment : Time) (y : Yard) : Yard :=
  if !y.ylc.driving && !y.lineSpace then
    let y := busyAt moment y
    { y with lineSpace := true }.updYlc fun u => { u with detector := some y.now }
  else y

/-- LINE_RETURNS_TO_MARK while the part is not driving (R98, R101); a line start that found the line at space sends its
long break now (R116, log 19). -/
def returnsToMark (moment : Time) (y : Yard) : Yard :=
  if !y.ylc.driving && y.lineSpace then
    let y := busyAt moment y
    let y := { y with lineSpace := false }.updYlc fun u => { u with detector := none }
    if y.ylc.line == .breaking then beginLong y else y
  else y

end Sys2Proof.Machine
end

