-- ==== Sys2Proof/Machine/Description.lean ====
section
/-! DEFINITION. The yard description store YDS (01): structural requests, the derived geometry, COMMIT and RECOMMISSION, the
adjustable settings. Each function takes the fields of a request and answers the yard with the owner's decision. -/

namespace Sys2Proof.Machine

/-! ### Decisions (R165) -/

def invalid (field : Nat) : Decision := .refuse .invalid [.u8 field]
def noSuch (field : Nat) : Decision := .refuse .noSuch [.u8 field]
def refuse (c : Refused) : Decision := .refuse c [.u8 0]

/-- NONE, or CLAMPED when a value was replaced (R8). -/
def settled (clamped : Bool) : Decision := .answer (if clamped then .clamped else .none) []

/-- The first field at fault in a list of tests, each with its field number (R165). -/
def firstFault : List (Nat × Bool) → Option Nat
  | [] => none
  | t :: ts => if t.2 then firstFault ts else some t.1

/-- A value of a request that may be absent lies in its range (R173). -/
def optIn (lo hi : Int) : Option Int → Bool
  | some v => inRange lo hi v
  | none => true

/-- A value that must be given and lie in its range. -/
def mustIn (lo hi : Int) : Option Int → Bool
  | some v => inRange lo hi v
  | none => false

/-! ### Geometry (R5) -/

/-- The running sums of a list, the zone limits of a list of strokes. -/
def sums (from0 : Int) : List Int → List Int
  | [] => []
  | s :: ss => (from0 + s) :: sums (from0 + s) ss

/-- Lifts 1 to n of a record, those described. -/
def HolderRec.described (r : HolderRec) : List Lift := (r.lifts.toList.take r.count).filterMap id

/-- The derived geometry of a holder record (R5). -/
def geometryOf (r : HolderRec) : Geometry :=
  let zones := sums 0 (r.described.map (·.stroke))
  let full := zones.getLast?.getD 0
  ⟨0, zones, full, full - r.topMargin, r.landMargin, (zones.take (r.count - 1)).map fun z => (z - r.cup, z + r.cup)⟩

def formGeometry (hs : Holders (Option HolderRec)) : Holders (Option Geometry) :=
  ⟨hs.h1.map geometryOf, hs.h2.map geometryOf, hs.h3.map geometryOf, hs.h4.map geometryOf, hs.h5.map geometryOf,
    hs.h6.map geometryOf⟩

/-! ### Holders and lifts (R3, R4) -/

/-- The lifts above n are discarded (R3). -/
def keepLifts (n : Nat) (t : Four (Option Lift)) : Four (Option Lift) :=
  ⟨if 1 ≤ n then t.a0 else none, if 2 ≤ n then t.a1 else none, if 3 ≤ n then t.a2 else none,
    if 4 ≤ n then t.a3 else none⟩

/-- The quantity slots of a holder. -/
def holderSlots (h : Holder) : List Slot := [.travel h, .gasTemp h, .holderPress h]

def districtSlots (d : District) : List Slot := [.outletOf d, .farPress d, .meter d]

/-- The bindings of some slots released and their settings returned to the defaults (R3, R79, R135), the records of QPR at
these slots lost (log 37). -/
def releaseSlots (qs : List Slot) (y : Yard) : Yard :=
  qs.foldl
    (fun y q =>
      (y.updYds fun d =>
        { d with bind := { d.bind with slots := d.bind.slots.set q ⟨none, none⟩ },
                 subs := d.subs.set q q.defaultSub }).updRec q fun _ => .fresh) y

/-- A holder made not present (R3, R30); its valve bindings and the travel last read go with it (log 37). -/
def removeHolder (h : Holder) (y : Yard) : Yard :=
  let y := releaseSlots (holderSlots h) y
  let y := y.updYds fun d =>
    { d with holders := d.holders.set h none, limits := d.limits.set h .cold,
             bind := { d.bind with inlet := d.bind.inlet.set h none, outlet := d.bind.outlet.set h none } }
  (y.updHolder h fun _ => .fresh).updMvs fun m => { m with prevTravel := m.prevTravel.set h none }

/-- HOLDER (R3). -/
def describeHolder (number : Nat) (present : Bool) (n cup top land : Option Int) (y : Yard) : Yard × Decision :=
  if y.isCommitted then (y, refuse .fixed)
  else
    match holderOf number with
    | none => (y, invalid 1)
    | some h =>
      if present then
        match firstFault [(3, mustIn 1 4 n), (4, mustIn 50 500 cup), (5, optIn 100 1000 top), (6, optIn 50 1000 land)] with
        | some f => (y, invalid f)
        | none =>
          let count := (n.getD 0).toNat
          let old := y.yds.holders.get h
          let lifts := match old with
            | some r => keepLifts count r.lifts
            | none => .all none
          let rec' : HolderRec := ⟨count, cup.getD 0, top.getD 300, land.getD 200, lifts⟩
          let y' := y.updYds fun d => { d with holders := d.holders.set h (some rec') }
          (if old.isSome then y' else y'.updHolder h fun _ => .fresh, okAnswer)
      else (removeHolder h y, okAnswer)

/-- LIFT (R4). A number that names no holder is NO SUCH, as a holder not present is (log 9). -/
def describeLift (number k : Nat) (area stroke weight : Int) (y : Yard) : Yard × Decision :=
  if y.isCommitted then (y, refuse .fixed)
  else
    match (holderOf number).bind fun h => (y.yds.holders.get h).map (h, ·) with
    | none => (y, noSuch 1)
    | some (h, r) =>
      match firstFault [(2, decide (1 ≤ k) && decide (k ≤ r.count)), (3, inRange 100 400000 area),
          (4, inRange 500 15000 stroke), (5, inRange 0 2000 weight)] with
      | some f => (y, invalid f)
      | none =>
        let r' := { r with lifts := r.lifts.set (k - 1) (some ⟨area, stroke, weight⟩) }
        (y.updYds fun d => { d with holders := d.holders.set h (some r') }, okAnswer)

/-! ### The vapour table (R7) -/

/-- The first entry out of range or below the one before it, counted from 1 (R7). -/
def vapourFault : Nat → Nat → List Nat → Option Nat
  | _, _, [] => none
  | k, before, e :: es => if e ≤ 10000 && before ≤ e then vapourFault (k + 1) e es else some k

/-- VAPOUR TABLE (R7). -/
def setVapour (es : List Nat) (y : Yard) : Yard × Decision :=
  match vapourFault 1 0 es, es with
  | none, [a, b, c, d, e, f, g, h, i] =>
    (hsuVapour (y.updYds fun u => { u with vapour := ⟨a, b, c, d, e, f, g, h, i⟩ }), okAnswer)
  | some k, _ => (y, invalid k)
  | none, _ => (y, invalid 0)

/-! ### Districts (R79) -/

/-- A district made not present (R79). -/
def removeDistrict (d : District) (y : Yard) : Yard :=
  let y := releaseSlots (districtSlots d) y
  let y := y.updYds fun u =>
    { u with districts := u.districts.set d none, programme := u.programme.set d .cold,
             trimSet := u.trimSet.set d .cold, feedSet := u.feedSet.set d .cold,
             bind := { u.bind with governor := u.bind.governor.set d none, booster := u.bind.booster.set d none } }
  y.updDistrict d fun _ => .fresh 1000 0 false

/-- DISTRICT (R79). -/
def describeDistrict (number : Nat) (present : Bool) (booster : Option Int) (floor ceiling factor : Option Int)
    (y : Yard) : Yard × Decision :=
  if y.isCommitted then (y, refuse .fixed)
  else
    match districtOf number with
    | none => (y, invalid 1)
    | some d =>
      if present then
        match firstFault [(4, mustIn 500 3000 floor), (5, mustIn (floor.getD 0) 5000 ceiling),
            (6, mustIn 1 10000000 factor)] with
        | some f => (y, invalid f)
        | none =>
          let b := booster == some 1
          let old := y.yds.districts.get d
          let y := y.updYds fun u =>
            { u with districts := u.districts.set d (some ⟨b, floor.getD 0, ceiling.getD 0, factor.getD 0⟩) }
          (y.updDistrict d fun r =>
            match old with
            | none => .fresh (y.yds.programme.get d).base 0 b
            | some o => if o.booster == b then r else { r with adoption := b, adoptWait := .idle }, okAnswer)
      else (removeDistrict d y, okAnswer)

/-! ### The roster (R117) -/

/-- An entry removed with its commands, its loads and its place as rotating start (R117). The commands are returned in the
order of the list (DESIGN CHOICE, log 95). -/
def removeEntry (a : Nat) (y : Yard) : Yard :=
  let cs := y.scs.commands.filter (·.outstation == a)
  let y := y.updScs fun u =>
    let roster := u.roster.filter fun e => !(e.address == a)
    { u with roster := roster, commands := u.commands.filter fun c => !(c.outstation == a),
             loads := u.loads.filter fun l => !(l.address == a),
             rotating := if u.rotating == some a then nextAbove roster a else u.rotating }
  returnAll 0 cs y

/-- OUTSTATION (R117). One that is not present and names an address not in the roster is answered NONE and changes nothing
(DESIGN CHOICE, log 84). -/
def describeOutstation (a : Nat) (present : Bool) (kind : Option OutstationKind) (sleeper : Bool) (y : Yard) :
    Yard × Decision :=
  if y.isCommitted then (y, refuse .fixed)
  else if a < 1 || 30 < a then (y, invalid 1)
  else if present then
    match kind with
    | none => (y, invalid 3)
    | some k =>
      let old := y.scs.entryAt a
      if old.isNone && decide (24 ≤ y.scs.roster.length) then (y, refuse .listFull)
      else
        let points := y.scs.pointsAt a
        (y.updScs fun u => { u with roster := insertEntry ⟨a, k, sleeper, points, .fresh⟩ u.roster }, okAnswer)
  else (removeEntry a y, okAnswer)

/-- POINT (R117). One that is not present at a channel with no point is answered NONE and changes nothing (DESIGN CHOICE,
log 84). -/
def describePoint (a ch : Nat) (present : Bool) (kind : Option PointKind) (y : Yard) : Yard × Decision :=
  if y.isCommitted then (y, refuse .fixed)
  else if (y.scs.entryAt a).isNone then (y, noSuch 1)
  else if 3 < ch then (y, invalid 2)
  else if present && kind.isNone then (y, invalid 4)
  else
    let k := if present then kind else none
    (y.updScs fun u => u.updEntry a fun e => { e with points := e.points.set ch k }, okAnswer)

/-! ### Bindings (R133) -/

/-- What a binding of BIND names (R133). -/
inductive Binding where
  | slot (q : Slot)
  | valve (v : Valve)
  | governor (d : District)
  | booster (d : District)
deriving DecidableEq, Repr

/-- The bindings after the slots in the order of their codes, 47 to 74 (R173). -/
def actuatorBindings : List Binding :=
  Valve.list.map Binding.valve ++ District.list.flatMap fun d => [Binding.governor d, Binding.booster d]

/-- All 75 bindings in the order of their codes (R173). -/
def Binding.list : List Binding := Slot.list.map Binding.slot ++ actuatorBindings

def bindingOf (code : Nat) : Option Binding := (Binding.list.drop code).head?

/-- Whether the holder or district that a binding names is present (R133). -/
def Yds.bindingPresent (d : Yds) : Binding → Bool
  | .slot q => d.slotPresent q
  | .valve v => d.holderPresent v.holder
  | .governor x => d.districtPresent x
  | .booster x => d.districtPresent x

/-- The points of a binding in the order of R9. -/
def Bindings.points (b : Bindings) : Binding → List Point
  | .slot q => (b.slots.get q).primary.toList ++ (b.slots.get q).standby.toList
  | .valve v => (b.valve v).toList
  | .governor d => (b.governor.get d).toList
  | .booster d => (b.booster.get d).toList

/-- The point kind that suits a binding (R9). -/
def Binding.kind : Binding → PointKind
  | .slot q => if q.isMeter then .meter else .measure
  | .valve _ => .valve
  | .governor _ => .governor
  | .booster _ => .booster

/-- BIND accepted: the binding replaced or released (R133). -/
def putBinding (b : Binding) (standby : Bool) (p : Option Point) (y : Yard) : Yard :=
  match b with
  | .slot q =>
    let old := y.yds.bind.slots.get q
    let new : SlotBind := if standby then { old with standby := p } else { old with primary := p }
    let y := y.updYds fun d => { d with bind := { d.bind with slots := d.bind.slots.set q new } }
    let y :=
      match q.meterOf with
      | some m =>
        if old.primary == new.primary then y else forgetSeen m (y.updRec q fun r => { r with base := none, scans := 0 })
      | none => y
    if y.yds.slotBound q then y else unboundNow q y
  | .valve v =>
    y.updYds fun d =>
      { d with bind := match v.side with
          | .inlet => { d.bind with inlet := d.bind.inlet.set v.holder p }
          | .outlet => { d.bind with outlet := d.bind.outlet.set v.holder p } }
  | .governor x => y.updYds fun d => { d with bind := { d.bind with governor := d.bind.governor.set x p } }
  | .booster x => y.updYds fun d => { d with bind := { d.bind with booster := d.bind.booster.set x p } }

/-- The first field of BIND at fault (R133): 2 the role, 3 the point. -/
def bindFault (b : Binding) (standby : Bool) (p : Option Point) (d : Yds) : Option Nat :=
  let mayStandBy := match b with
    | .slot q => !q.isMeter
    | _ => false
  let inTable := match p with
    | some p => decide (1 ≤ p.outstation) && decide (p.outstation ≤ 30) && decide (p.channel ≤ 3)
    | none => true
  let other := match b with
    | .slot q => if standby then (d.bind.slots.get q).primary else (d.bind.slots.get q).standby
    | _ => none
  firstFault [(2, !standby || mayStandBy), (3, inTable), (3, p.isNone || other != p)]

/-- BIND (R133). -/
def describeBinding (code : Nat) (standby : Bool) (p : Option Point) (y : Yard) : Yard × Decision :=
  if y.isCommitted then (y, refuse .fixed)
  else
    match bindingOf code with
    | none => (y, invalid 1)
    | some b =>
      if y.yds.bindingPresent b then
        match bindFault b standby p y.yds with
        | some f => (y, invalid f)
        | none => (putBinding b standby p y, okAnswer)
      else (y, noSuch 1)

/-! ### LINE SETTINGS (R97) -/

def rateOf (v : Int) : Option BitRate :=
  if v = 600 then some .b600 else if v = 1200 then some .b1200 else if v = 2400 then some .b2400 else none

/-- LINE SETTINGS (R97). -/
def setLine (rate window : Int) (y : Yard) : Yard × Decision :=
  if y.isCommitted then (y, refuse .fixed)
  else
    match rateOf rate with
    | none => (y, invalid 1)
    | some r =>
      if inRange 10 250 window then (y.updYds fun d => { d with line := ⟨r, window.toNat⟩ }, okAnswer)
      else (y, invalid 2)

/-! ### COMMIT (R9, R10) -/

/-- The item classes of a refused COMMIT in the order R9 names them. -/
inductive ItemClass where
  | holder | pair | district | binding
deriving DecidableEq, Repr

def ItemClass.code : ItemClass → Nat
  | .holder => 0
  | .pair => 1
  | .district => 2
  | .binding => 3

/-- A check that failed: its item class, the object, the check by its place in R9 from 0. -/
structure CheckFault where
  cls : ItemClass
  object : Nat
  check : Nat
deriving DecidableEq, Repr

/-- A check of the holder records: the first present holder that fails it. -/
def holderCheck (d : Yds) (k : Nat) (fails : Holder → HolderRec → Bool) : Option CheckFault :=
  (Holder.list.find? fun h =>
    match d.holders.get h with
    | some r => fails h r
    | none => false).map fun h => ⟨.holder, h.number, k⟩

/-- BANDS: for some lift, 4c is not less than its stroke (R9). -/
def bandsFail (r : HolderRec) : Bool := r.described.any fun l => decide (l.stroke ≤ 4 * r.cup)

/-- MARGINS (R9). -/
def marginsFail (r : HolderRec) : Bool :=
  let g := geometryOf r
  decide (g.topStop ≤ g.landing) || g.bands.any fun b => decide (b.1 ≤ g.landing) || decide (g.topStop ≤ b.2)

/-- The leader and the follower of each pair. -/
def pairs : List (Nat × Holder × Holder) := [(1, .h1, .h2), (2, .h3, .h4), (3, .h5, .h6)]

def pairCheck (y : Yard) : Option CheckFault :=
  (pairs.find? fun p =>
    y.mvs.coupled.get p.1 && !(y.yds.holderPresent p.2.1 && y.yds.holderPresent p.2.2)).map fun p => ⟨.pair, p.1, 4⟩

def boosterCheck (d : Yds) : Option CheckFault :=
  (District.list.find? fun x => d.hasBooster x && (d.bind.booster.get x).isNone).map fun x => ⟨.district, x.number, 5⟩

/-- The bindings with their codes and points, in the order of R9: the governor and the booster district by district (log
48). -/
def namedPoints (b : Bindings) : List (Nat × Binding × Point) :=
  Binding.list.zipIdx.flatMap fun x => (b.points x.1).map fun p => (x.2, x.1, p)

/-- The kind the roster describes at a point. -/
def Scs.kindAt (u : Scs) (p : Point) : Option PointKind := if p.channel ≤ 3 then (u.pointsAt p.outstation).get p.channel else none

def bindingFault (k : Nat) (x : Option (Nat × Binding × Point)) : Option CheckFault :=
  x.map fun x => ⟨.binding, x.1, k⟩

/-- The first point named twice, by the later binding (R9). -/
def firstTwice : List Point → List (Nat × Binding × Point) → Option (Nat × Binding × Point)
  | _, [] => none
  | seen, x :: xs => if seen.contains x.2.2 then some x else firstTwice (x.2.2 :: seen) xs

/-- The checks of R9 in order; the first that fails. -/
def commitFault (y : Yard) : Option CheckFault :=
  let d := y.yds
  let named := namedPoints d.bind
  (holderCheck d 0 fun _ r => (r.lifts.toList.take r.count).any (·.isNone))
  <|> (holderCheck d 1 fun h _ => (d.bind.slots.travel.get h).primary.isNone)
  <|> (holderCheck d 2 fun _ r => bandsFail r)
  <|> (holderCheck d 3 fun _ r => marginsFail r)
  <|> pairCheck y
  <|> boosterCheck d
  <|> bindingFault 6 (named.find? fun x => (y.scs.kindAt x.2.2).isNone)
  <|> bindingFault 7 (named.find? fun x => y.scs.kindAt x.2.2 != some x.2.1.kind)
  <|> bindingFault 8 (firstTwice [] named)

/-- COMMIT accepted: geometry and state, then each block takes up its work (R10, R30, R94, R95, R138, R159; log 14). -/
def commitYard (y : Yard) : Yard :=
  let y := y.updYds fun d => { d with desc := .committed, geometry := formGeometry d.holders }
  soaCommit (dguCommit (hsuCommit (unboundAll y)))

/-- COMMIT (R1, R9, R10). -/
def commit (y : Yard) : Yard × Decision :=
  if y.isCommitted then (y, refuse .fixed)
  else
    match commitFault y with
    | some f => (y, .refuse .invalid [.u8 0, .u8 f.cls.code, .u8 f.object, .u8 f.check])
    | none => (commitYard y, okAnswer)

/-- RECOMMISSION (R11, R30, R95). -/
def recommission (y : Yard) : Yard × Decision :=
  if y.isCommitted then
    if y.gdc.clock.isSome || !y.mvs.orders.isEmpty then (y, refuse .active)
    else
      (dguRecommission (hsuRecommission
        (y.updYds fun d => { d with desc := .opened, geometry := .all none })), okAnswer)
  else (y, okAnswer)

/-! ### Adjustable settings (R8) -/

/-- Whether any of a list of values was replaced by its clamp (R8). -/
def anyMoved (vs : List (Int × Int)) : Bool := vs.any fun v => v.1 != v.2

/-- A present holder by its number, for a setting that names one (R8). -/
def Yds.presentHolder (d : Yds) (number : Nat) : Option Holder :=
  (holderOf number).bind fun h => if d.holderPresent h then some h else none

def Yds.presentDistrict (d : Yds) (number : Nat) : Option District :=
  (districtOf number).bind fun x => if d.districtPresent x then some x else none

/-- SET HOLDER LIMITS (R8); a changed lag threshold makes the lag test (R58). A number that names no holder is NO SUCH
(log 9). -/
def setHolderLimits (number : Nat) (tol lag : Int) (y : Yard) : Yard × Decision :=
  match y.yds.presentHolder number with
  | none => (y, noSuch 1)
  | some h =>
    let t := clampTo 50 1000 tol
    let l := clampTo 50 1000 lag
    let changed := (y.yds.limits.get h).lagThreshold != l
    let y := y.updYds fun d => { d with limits := d.limits.set h ⟨t, l⟩ }
    (if changed then lagTest y else y, settled (anyMoved [(tol, t), (lag, l)]))

/-- SET PROFILE (R74). -/
def setProfile (number : Nat) (base : Int) (y : Yard) : Yard × Decision :=
  match y.yds.presentDistrict number with
  | none => (y, noSuch 1)
  | some x =>
    let b := clampTo 500 5000 base
    (y.updYds fun d => { d with programme := d.programme.set x { d.programme.get x with base := b } }, settled (b != base))

/-- SET PEAK that puts a slot in use (R74). -/
def setPeak (number slot : Nat) (start lead hold trail value : Int) (y : Yard) : Yard × Decision :=
  match y.yds.presentDistrict number with
  | none => (y, noSuch 1)
  | some x =>
    if slot < 1 || 3 < slot then (y, invalid 2)
    else
      let g := y.yds.programme.get x
      let s := clampTo 0 95 start
      let l := clampTo 0 8 lead
      let h := clampTo 1 32 hold
      let t := clampTo 0 8 trail
      let v := max (clampTo 500 5000 value) g.base
      let p : Peak := ⟨s.toNat, l.toNat, h.toNat, t.toNat, v⟩
      (y.updYds fun d => { d with programme := d.programme.set x { g with peaks := g.peaks.set slot (some p) } },
        settled (anyMoved [(start, s), (lead, l), (hold, h), (trail, t), (value, v)]))

/-- SET PEAK that puts a slot out of use (R74). -/
def dropPeak (number slot : Nat) (y : Yard) : Yard × Decision :=
  match y.yds.presentDistrict number with
  | none => (y, noSuch 1)
  | some x =>
    if slot < 1 || 3 < slot then (y, invalid 2)
    else
      let g := y.yds.programme.get x
      (y.updYds fun d => { d with programme := d.programme.set x { g with peaks := g.peaks.set slot none } }, okAnswer)

/-- SET TRIM (R80): a present trim beyond the new max trim is clamped at once. -/
def setTrim (number : Nat) (target band step limit : Int) (y : Yard) : Yard × Decision :=
  match y.yds.presentDistrict number with
  | none => (y, noSuch 1)
  | some x =>
    let t : TrimSet := ⟨clampTo 200 3000 target, clampTo 0 1000 band, clampTo 5 200 step, clampTo 0 500 limit⟩
    let trim := (y.dgu.districts.get x).trim
    let trim' := clampTo (-t.maxTrim) t.maxTrim trim
    ((y.updYds fun d => { d with trimSet := d.trimSet.set x t }).updDistrict x fun r => { r with trim := trim' },
      settled (anyMoved [(target, t.farTarget), (band, t.farBand), (step, t.step), (limit, t.maxTrim), (trim, trim')]))

/-- SET FEED that names a district (R80). -/
def setFeed (number : Nat) (slew drop hyst runUp : Int) (y : Yard) : Yard × Decision :=
  match y.yds.presentDistrict number with
  | none => (y, noSuch 1)
  | some x =>
    let r := clampTo 10 300 runUp
    let f : FeedSet := ⟨clampTo 5 200 slew, clampTo 0 2000 drop, clampTo 0 1000 hyst, r.toNat⟩
    (y.updYds fun d => { d with feedSet := d.feedSet.set x f },
      settled (anyMoved [(slew, f.slew), (drop, f.drop), (hyst, f.hysteresis), (runUp, r)]))

/-- SET FEED that names no district: the yard loss allowance (R80). -/
def setLoss (allowance : Int) (y : Yard) : Yard × Decision :=
  let a := clampTo 0 2000 allowance
  (y.updYds fun d => { d with yardLoss := a }, settled (a != allowance))

/-- SET LAG (R74). -/
def setLag (lag : Int) (y : Yard) : Yard × Decision :=
  let l := clampTo 0 8 lag
  (y.updYds fun d => { d with lag := l.toNat }, settled (l != lag))

/-- SET DAY PATTERN (R72). -/
def setDayPattern (marks : List Bool) (y : Yard) : Yard × Decision :=
  (y.updYds fun d => { d with dayPattern := marks }, okAnswer)

/-- SET PERIOD MARK (R77). -/
def setPeriodMark (p : Option Int) (y : Yard) : Yard × Decision :=
  match p with
  | some v =>
    let c := clampTo 0 95 v
    (y.updYds fun d => { d with periodMark := some c.toNat }, settled (c != v))
  | none => (y.updYds fun d => { d with periodMark := none }, okAnswer)

/-- SET CV (R145). -/
def setCv (cv factor : Int) (y : Yard) : Yard × Decision :=
  let c := clampTo 10000 30000 cv
  let f := clampTo 1 10000000 factor
  (y.updYds fun d => { d with cv := c, makeFactor := f }, settled (anyMoved [(cv, c), (factor, f)]))

/-- SET BALANCE LIMIT (R145). -/
def setBalanceLimit (limit : Int) (y : Yard) : Yard × Decision :=
  let l := clampTo 0 200 limit
  (y.updYds fun d => { d with balanceLimit := l }, settled (l != limit))

/-- SET SCAN (R123). -/
def setScan (interval : Int) (y : Yard) : Yard × Decision :=
  let i := clampTo 5 60 interval
  (y.updYds fun d => { d with scan := i.toNat }, settled (i != interval))

/-- SET VALVE LIMIT (R33). -/
def setValveLimit (limit : Int) (y : Yard) : Yard × Decision :=
  let l := clampTo 20 600 limit
  (y.updYds fun d => { d with valveLimit := l.toNat }, settled (l != limit))

/-- The substitute settings a request makes of those that stand, with the pairs of value carried and value stored (R135). A meter's
jump limit sent absent stands as it was, and one sent for another slot is not looked at; nor are the range low and high carried for a
meter, which never make the answer CLAMPED (log 76). -/
def newSubstitute (q : Slot) (old : Substitute) (low high hold : Int) (declared jump : Option Int) :
    Substitute × List (Int × Int) :=
  let h := clampTo 0 8 hold
  if q.isMeter then
    let j := (jump.map (clampTo 1 999999)).getD old.jump
    (⟨old.low, old.high, h.toNat, none, j⟩, [(hold, h), (jump.getD j, j)])
  else
    let l := clampTo q.outer.1 q.outer.2 low
    let u := clampTo l q.outer.2 high
    let d := declared.map (clampTo l u)
    (⟨l, u, h.toNat, d, old.jump⟩, [(low, l), (high, u), (hold, h), (declared.getD 0, d.getD 0)])

/-- SET SUBSTITUTE (R135). -/
def setSubstitute (code : Nat) (low high hold : Int) (declared jump : Option Int) (y : Yard) : Yard × Decision :=
  match slotOf code with
  | none => (y, invalid 1)
  | some q =>
    if !(y.yds.slotPresent q) then (y, noSuch 1)
    else if q.isMeter && declared.isSome then (y, invalid 5)
    else
      let s := newSubstitute q (y.yds.subs.get q) low high hold declared jump
      (applySubstitute q (y.updYds fun d => { d with subs := d.subs.set q s.1 }), settled (anyMoved s.2))

end Sys2Proof.Machine
end

