-- ==== Sys2Proof/Machine/Store.lean ====
section
/-! DEFINITION. The retained store and its check word (R175). The manual gives the store's items and their order; how an item
is laid out in bytes is the model's (log 4). Every list stands with its count, every item that may be none with a presence
byte, so that no two stores have the same bytes. -/

namespace Sys2Proof.Machine

/-! ### Items in bytes (log 4) -/

def storeNat (n : Nat) : List Byte := leBytes 4 n

def storeInt (v : Int) : List Byte := signedBytes 4 v

/-- A volume or a heat. -/
def storeLong (v : Int) : List Byte := signedBytes 8 v

def storeFlag (b : Bool) : List Byte := [if b then 0x01#8 else 0x00#8]

def storeOpt {α : Type} (f : α → List Byte) : Option α → List Byte
  | none => [0x00#8]
  | some a => 0x01#8 :: f a

def storeList {α : Type} (f : α → List Byte) (as : List α) : List Byte := leBytes 1 as.length ++ as.flatMap f

def storeHolders {α : Type} (f : α → List Byte) (t : Holders α) : List Byte := Holder.list.flatMap fun h => f (t.get h)

def storeDistricts {α : Type} (f : α → List Byte) (t : Districts α) : List Byte := District.list.flatMap fun d => f (t.get d)

def storeSlots {α : Type} (f : α → List Byte) (t : Slots α) : List Byte := Slot.list.flatMap fun q => f (t.get q)

def storeMeters {α : Type} (f : α → List Byte) (t : Meters α) : List Byte := Meter.list.flatMap fun m => f (t.get m)

/-! ### YDS, with the fixed items of the roster -/

def Lift.store (l : Lift) : List Byte := storeInt l.area ++ storeInt l.stroke ++ storeInt l.weight

def HolderRec.store (r : HolderRec) : List Byte :=
  leBytes 1 r.count ++ storeInt r.cup ++ storeInt r.topMargin ++ storeInt r.landMargin
    ++ r.lifts.toList.flatMap (storeOpt Lift.store)

/-- The derived geometry, which R10 writes into the store and the table of R175 does not name (log 59). -/
def Geometry.store (g : Geometry) : List Byte :=
  storeList storeInt (g.zone0 :: g.zones) ++ storeInt g.full ++ storeInt g.topStop ++ storeInt g.landing
    ++ storeList (fun b => storeInt b.1 ++ storeInt b.2) g.bands

def DistrictRec.store (r : DistrictRec) : List Byte :=
  storeFlag r.booster ++ storeInt r.floor ++ storeInt r.ceiling ++ storeInt r.factor

def Point.store (p : Point) : List Byte := leBytes 1 p.outstation ++ leBytes 1 p.channel

def SlotBind.store (b : SlotBind) : List Byte := storeOpt Point.store b.primary ++ storeOpt Point.store b.standby

def Bindings.store (b : Bindings) : List Byte :=
  storeSlots SlotBind.store b.slots ++ storeHolders (storeOpt Point.store) b.inlet
    ++ storeHolders (storeOpt Point.store) b.outlet ++ storeDistricts (storeOpt Point.store) b.governor
    ++ storeDistricts (storeOpt Point.store) b.booster

def Peak.store (p : Peak) : List Byte :=
  storeNat p.start ++ storeNat p.lead ++ storeNat p.hold ++ storeNat p.trail ++ storeInt p.value

def Programme.store (g : Programme) : List Byte := storeInt g.base ++ g.peaks.toList.flatMap (storeOpt Peak.store)

def TrimSet.store (t : TrimSet) : List Byte :=
  storeInt t.farTarget ++ storeInt t.farBand ++ storeInt t.step ++ storeInt t.maxTrim

def FeedSet.store (f : FeedSet) : List Byte :=
  storeInt f.slew ++ storeInt f.drop ++ storeInt f.hysteresis ++ storeNat f.runUp

def HolderLimits.store (l : HolderLimits) : List Byte := storeInt l.discordTol ++ storeInt l.lagThreshold

def Substitute.store (s : Substitute) : List Byte :=
  storeInt s.low ++ storeInt s.high ++ leBytes 1 s.hold ++ storeOpt storeInt s.declared ++ storeInt s.jump

def Vapour.store (v : Vapour) : List Byte :=
  [v.e0, v.e1, v.e2, v.e3, v.e4, v.e5, v.e6, v.e7, v.e8].flatMap storeNat

def LineSet.store (l : LineSet) : List Byte := storeNat l.rate.charTime ++ storeNat l.window

/-- The fixed items of an outstation and its points (R117). -/
def Entry.store (e : Entry) : List Byte :=
  leBytes 1 e.address ++ leBytes 1 e.kind.code ++ storeFlag e.sleeper
    ++ e.points.toList.flatMap fun k => leBytes 1 (pointKindCode k)

def Yds.store (d : Yds) (roster : List Entry) : List Byte :=
  storeFlag (d.desc == .committed) ++ storeHolders (storeOpt HolderRec.store) d.holders
    ++ storeHolders (storeOpt Geometry.store) d.geometry ++ d.vapour.store ++ storeDistricts (storeOpt DistrictRec.store) d.districts ++ storeList Entry.store roster ++ d.line.store
    ++ d.bind.store ++ storeHolders HolderLimits.store d.limits ++ storeNat d.valveLimit
    ++ storeDistricts Programme.store d.programme ++ storeNat d.lag ++ storeList storeFlag d.dayPattern
    ++ storeOpt storeNat d.periodMark ++ storeDistricts TrimSet.store d.trimSet ++ storeDistricts FeedSet.store d.feedSet
    ++ storeInt d.yardLoss ++ storeInt d.cv ++ storeInt d.makeFactor ++ storeInt d.balanceLimit ++ storeNat d.scan
    ++ storeSlots Substitute.store d.subs

/-! ### MVS, GDC, DGU -/

/-- Coupling state, trip state and its cause. -/
def Mvs.store (m : Mvs) : List Byte :=
  m.coupled.toList.flatMap storeFlag ++ storeFlag m.tripped ++ storeOpt (fun c => storeNat c.code) m.tripCause

def Resume.store (r : Resume) : List Byte :=
  storeNat r.day ++ leBytes 1 r.weekday ++ leBytes 1 r.dayType.code ++ storeOpt storeNat r.lastClosed

/-- Resume point and mark raised for day. -/
def Gdc.store (g : Gdc) : List Byte := storeOpt Resume.store g.resume ++ storeOpt storeNat g.markDay

/-- Profile value and trim of each district. -/
def Dgu.store (u : Dgu) : List Byte := storeDistricts (fun r => storeInt r.profile ++ storeInt r.trim) u.districts

/-! ### QPR: the ring -/

def PEntry.store (e : PEntry) : List Byte :=
  storeOpt storeInt e.last ++ storeOpt storeInt e.low ++ storeOpt storeInt e.high ++ storeNat e.count
    ++ leBytes 1 e.source.code ++ storeNat e.deltas ++ storeFlag e.jump ++ storeFlag e.restart ++ storeFlag e.estimated
    ++ storeOpt storeLong e.vstd ++ storeFlag e.vclamped ++ storeOpt storeLong e.heat

def PeriodRec.store (r : PeriodRec) : List Byte :=
  storeNat r.day ++ leBytes 1 r.period ++ storeFlag r.partialFlag ++ storeFlag r.gap ++ storeFlag r.incomplete
    ++ leBytes 1 r.nIncomplete ++ storeSlots PEntry.store r.entries

def Qpr.store (u : Qpr) : List Byte := storeList PeriodRec.store u.ring

/-! ### SOA: the days, the periods in correction, the day book -/

def DayClosing.store (c : DayClosing) : List Byte :=
  storeOpt storeLong c.stock ++ leBytes 1 c.status.code ++ leBytes 1 c.period

def MeterDay.store (m : MeterDay) : List Byte :=
  storeLong m.openAcc ++ storeLong m.volume ++ storeLong m.heat ++ storeOpt storeNat m.peakPeriod
    ++ storeLong m.peakVolume ++ storeNat m.estimated ++ storeLong m.remainder ++ storeFlag m.latched ++ storeLong m.remVol

def Conditions.store (c : Conditions) : List Byte :=
  storeOpt storeInt c.baro ++ storeOpt storeInt c.temp ++ storeMeters (storeOpt storeInt) c.press

def DayFlags.store (f : DayFlags) : List Byte :=
  storeFlag f.part ++ storeFlag f.carried ++ storeFlag f.estimated ++ storeFlag f.gap

def Day.store (d : Day) : List Byte :=
  storeNat d.day ++ leBytes 1 d.weekday ++ leBytes 1 d.dayType.code ++ d.flags.store ++ storeOpt storeNat d.lastClosed
    ++ storeOpt (fun o => storeLong o.1 ++ storeFlag o.2) d.opening ++ storeHolders (storeOpt DayClosing.store) d.closings
    ++ storeMeters MeterDay.store d.meters ++ storeOpt Conditions.store d.conditions

def PendingDay.store (p : PendingDay) : List Byte := p.day.store ++ storeFlag p.due ++ storeFlag p.started

def storeMeter : Meter → List Byte
  | .make => leBytes 1 0
  | .district d => leBytes 1 d.number

def Correction.store (c : Correction) : List Byte :=
  storeMeter c.meter ++ storeNat c.day ++ leBytes 1 c.period ++ storeLong c.ml ++ storeInt c.press ++ storeInt c.temp
    ++ storeInt c.baro ++ storeFlag c.estimated

def Remainder.store (r : Remainder) : List Byte :=
  storeMeter r.meter ++ storeLong r.ml ++ storeInt r.press ++ storeInt r.temp ++ storeInt r.baro

def BookDistrict.store (b : BookDistrict) : List Byte :=
  storeLong b.volume ++ storeLong b.heat ++ storeOpt storeNat b.peakPeriod ++ storeLong b.peakVolume ++ storeNat b.estimated

def BookEntry.store (e : BookEntry) : List Byte :=
  storeNat e.day ++ leBytes 1 e.dayType.code ++ e.flags.store ++ storeLong e.opening ++ storeLong e.closing
    ++ storeLong e.make ++ storeLong e.makeHeat ++ storeLong e.sendOut ++ storeLong e.unaccounted
    ++ storeOpt storeInt e.permille ++ storeDistricts (storeOpt BookDistrict.store) e.districts

def Soa.store (u : Soa) : List Byte :=
  storeOpt Day.store u.current ++ storeOpt PendingDay.store u.pending ++ storeList Correction.store u.corrections
    ++ storeList Remainder.store u.remainders ++ storeList BookEntry.store u.book

/-! ### The store and its check word -/

/-- Every byte of the retained store but the check word, in the order of R175. -/
def Yard.store (y : Yard) : List Byte :=
  y.yds.store y.scs.roster ++ y.mvs.store ++ y.gdc.store ++ y.dgu.store ++ y.qpr.store ++ y.soa.store

/-- The check word formed over the store (R175, R105). -/
def Yard.storeCheck (y : Yard) : Check := crc y.store

/-- The state once the check word is formed again and written after the retained items that an event has written (R175).
While the part has no power nothing is written. -/
def State.resealed (s : State) : State := if s.powered then { s with checkWord := s.yard.storeCheck } else s

end Sys2Proof.Machine
end

