-- ==== Sys2Proof/Machine/StartUp.lean ====
section
/-! DEFINITION. Power and restart (11): the three reset classes as each block takes them (R13, R31, R64, R78, R96, R116,
R132, R144, R160, R172, R176 to R178). -/

namespace Sys2Proof.Machine

/-- The classes that keep the retained store; the datum of RESTARTED is the number of orders lost (R176, R177). -/
inductive KeepClass where
  | powerRestore
  | warmRestart (orders : Nat)
deriving DecidableEq, Repr

def KeepClass.warm : KeepClass → Bool
  | .powerRestore => false
  | .warmRestart _ => true

/-! ### Each block (11.5) -/

/-- YDS keeps its store; the geometry is formed again when COMMITTED (R13, R5). -/
def restartYds (d : Yds) : Yds :=
  { d with geometry := if d.desc == .committed then formGeometry d.holders else .all none }

/-- MVS keeps the coupling state and the trip state (R64). -/
def restartMvs (m : Mvs) (tripPin : Bool) (now : Time) : Mvs :=
  { Mvs.cold tripPin now with coupled := m.coupled, tripped := m.tripped, tripCause := m.tripCause }

/-- GDC: all kept at a warm restart; the resume point and the mark alone at a power restore (R78). -/
def restartGdc (warm : Bool) (g : Gdc) : Gdc :=
  if warm then g else { Gdc.cold with resume := g.resume, markDay := g.markDay }

/-- DGU keeps the profile values and the trims; adoption is set where a booster is present (R96, R94). -/
def restartDgu (d : Yds) (u : Dgu) : Dgu :=
  ⟨District.list.foldl
      (fun t x => t.set x (.fresh (u.districts.get x).profile (u.districts.get x).trim (d.hasBooster x))) u.districts,
    none⟩

/-- SCS keeps the fixed items of the roster, and at a warm restart the owed DAY marker (R132). -/
def restartScs (warm : Bool) (u : Scs) : Scs :=
  .fresh (u.roster.map fun e => { e with dyn := .fresh }) (warm && u.dayOwed)

/-- QPR keeps the ring, and at a warm restart the open record, flagged PARTIAL, and the marker-awaited mark (R144). -/
def restartQpr (warm running : Bool) (u : Qpr) (now : Time) : Qpr :=
  { Qpr.cold now with
    ring := u.ring
    current := if warm && running then u.current.map ({ · with partialFlag := true }) else none
    markerAwaited := warm && u.markerAwaited }

/-- The open-period accumulators of a day at 0 mL (R160). -/
def Day.noOpen (d : Day) : Day :=
  { d with meters := Meter.list.foldl (fun t m => t.set m { t.get m with openAcc := 0 }) d.meters }

/-- SOA keeps its days, the book and the corrections in hand, which it hands to CU again (R160). -/
def restartSoa (warm : Bool) (u : Soa) : Soa :=
  { u with current := if warm then u.current else u.current.map (·.noOpen)
           cursor := 0
           markerOut := warm && u.markerOut
           seen := .all ⟨none, none, none⟩ }

/-! ### Start-up (R177) -/

/-- The start-up notice, first in an emptied queue (R172, R177). -/
def startNotice (c : KeepClass) (y : Yard) : Yard :=
  let y := { y with notices := ⟨[], 0⟩ }
  match c with
  | .powerRestore => raiseNotice .powerRestored 0 0 y
  | .warmRestart n => raiseNotice .restarted 0 (n : Int) y

/-- The start-up of a power restore or a warm restart (R177). A power restore completes a pending day close at once. Every
closing stock is none afterwards (R31, R32; log 49). -/
def restartYard (c : KeepClass) (y : Yard) : Yard :=
  let warm := c.warm
  let y := if warm then y else { y with now := 0, secondMark := 0 }
  let y := startNotice c { y with gdc := restartGdc warm y.gdc }
  let y :=
    { y with yds := restartYds y.yds, hsu := .fresh, mvs := restartMvs y.mvs y.tripPin y.now,
             dgu := restartDgu y.yds y.dgu, scs := restartScs warm y.scs,
             qpr := restartQpr warm y.gdc.clock.isSome y.qpr y.now, soa := restartSoa warm y.soa }
  let y := if warm then y else makeDue y
  { y with ylc := .lineStart y.yds.line.rate y.lineSpace y.now }

/-- The start-up of a cold start: every retained item at its cold-start value, and every block after it (R177). The start-up
notice comes before the blocks take their state, so that a COLD START request met with the clock RUNNING gives it the day
and the period of that clock (R168); at a power-up the clock is lost with the working state. -/
def coldYard (clock : Option ClockTime) (y : Yard) : Yard :=
  { Yard.cold y.tripPin y.lineSpace with
    freeDraws := y.freeDraws
    notices := (Notices.mk [] 0).raise .coldStarted 0 0 (clock.map (·.day)) (clock.map (·.period)) }

/-- A power-up: the check word formed over the store, compared with the stored one, decides between cold start and power
restore; with the battery run out it is found failing (R176). -/
def powerUp (batteryHeld : Bool) (s : State) : State :=
  { s with powered := true, link := .fresh,
           yard := if batteryHeld && s.checkWord == s.yard.storeCheck then restartYard .powerRestore s.yard
             else coldYard none s.yard }

/-- Power lost or RESET asserted: the controller does no work, the line driver is disabled, and what is queued on the host
link is lost (R116, R172, R176). storeTorn: power failed between a retained item and its check word, which then does not
match (R175, log 4). -/
def powerFail (storeTorn : Bool) (s : State) : State :=
  { s with powered := false, link := .fresh,
           checkWord := if storeTorn then ~~~s.yard.storeCheck else s.checkWord
           yard := { s.yard.updYlc (fun u => { u with driving := false }) with notices := ⟨[], 0⟩ } }

/-- The reset a request asked for begins (R178). -/
def beginReset (a : ResetAsk) (s : State) : State :=
  { s with link := .fresh,
           yard := match a with
             | .coldStart => coldYard s.yard.gdc.clock s.yard
             | .warmRestart n => restartYard (.warmRestart n) s.yard }

end Sys2Proof.Machine
end

