-- ==== Sys2Proof/Machine/Operands.lean ====
section
/-! DEFINITION. The operands of host requests: the layout of each payload (R173) and the test of its form (R162). -/

namespace Sys2Proof.Machine

/-- The codings of a request field (R173). A flag is 0 or 1 (log 7); a choice has n codes; the optional kinds carry a
presence byte. -/
inductive FieldKind where
  | u8 | u16 | s32 | flag
  | choice (n : Nat)
  | optU8 | optU16 | optS32 | optFlag
  | optChoice (n : Nat)
deriving DecidableEq, Repr

def FieldKind.width : FieldKind → Nat
  | .u8 => 1
  | .u16 => 2
  | .s32 => 4
  | .flag => 1
  | .choice _ => 1
  | .optU8 => 2
  | .optU16 => 3
  | .optS32 => 5
  | .optFlag => 2
  | .optChoice _ => 2

/-- A field as read: its value, none where it is absent. -/
abbrev Field := Option Int

/-- A choice code that lies in its list (R162). -/
def readChoice (n : Nat) (bs : List Byte) : Option Field :=
  if ofLe bs < n then some (some (ofLe bs : Int)) else none

/-- A field that may be absent: its bytes are ignored when the presence byte is 0 (R173). -/
def readOptional (read : List Byte → Option Field) : List Byte → Option Field
  | p :: bs => if p = 0#8 then some none else if p = 1#8 then read bs else none
  | [] => none

/-- Read one field from its own bytes; none: the form is bad (R162, R173). -/
def FieldKind.read (k : FieldKind) (bs : List Byte) : Option Field :=
  match k with
  | .u8 => some (some (ofLe bs : Int))
  | .u16 => some (some (ofLe bs : Int))
  | .s32 => some (some (ofSigned bs))
  | .flag => readChoice 2 bs
  | .choice n => readChoice n bs
  | .optU8 => readOptional (fun b => some (some (ofLe b : Int))) bs
  | .optU16 => readOptional (fun b => some (some (ofLe b : Int))) bs
  | .optS32 => readOptional (fun b => some (some (ofSigned b))) bs
  | .optFlag => readOptional (readChoice 2) bs
  | .optChoice n => readOptional (readChoice n) bs

/-- A payload as its form test leaves it: its fields, or the first field at fault, 0 for the length (R162, R165). -/
inductive Form where
  | bad (field : Nat)
  | ok (fields : List Field)
deriving DecidableEq, Repr

abbrev Layout := List FieldKind

def layoutWidth (l : Layout) : Nat := (l.map (·.width)).sum

/-- Read the fields in order, the next being number k. -/
def readFields : Nat → Layout → List Byte → Form
  | _, [], _ => .ok []
  | k, f :: fs, bs =>
    match f.read (bs.take f.width) with
    | none => .bad k
    | some v =>
      match readFields (k + 1) fs (bs.drop f.width) with
      | .ok vs => .ok (v :: vs)
      | .bad n => .bad n

/-- The form test of a payload with a layout (R162). -/
def formOf (l : Layout) (payload : List Byte) : Form :=
  if payload.length = layoutWidth l then readFields 1 l payload else .bad 0

/-! ### How a payload is written (R173) -/

/-- Whether a field holds a value its coding can carry. -/
def FieldKind.admits : FieldKind → Field → Bool
  | .u8, some v => inRange 0 255 v
  | .u16, some v => inRange 0 65535 v
  | .s32, some v => inRange (-2147483648) 2147483647 v
  | .flag, some v => inRange 0 1 v
  | .choice n, some v => decide (0 ≤ v) && decide (v < n) && decide (v ≤ 255)
  | .optU8, some v => inRange 0 255 v
  | .optU16, some v => inRange 0 65535 v
  | .optS32, some v => inRange (-2147483648) 2147483647 v
  | .optFlag, some v => inRange 0 1 v
  | .optChoice n, some v => decide (0 ≤ v) && decide (v < n) && decide (v ≤ 255)
  | .optU8, none => true
  | .optU16, none => true
  | .optS32, none => true
  | .optFlag, none => true
  | .optChoice _, none => true
  | _, none => false

/-- A field that may be absent: the presence byte, then its bytes, zeros where it is absent (R173). -/
def writeOptional (k : Nat) : Field → List Byte
  | some v => 0x01#8 :: signedBytes k v
  | none => 0x00#8 :: List.replicate k 0x00#8

/-- The bytes of a field (R173). -/
def FieldKind.write : FieldKind → Field → List Byte
  | .u8, f => signedBytes 1 (f.getD 0)
  | .u16, f => signedBytes 2 (f.getD 0)
  | .s32, f => signedBytes 4 (f.getD 0)
  | .flag, f => signedBytes 1 (f.getD 0)
  | .choice _, f => signedBytes 1 (f.getD 0)
  | .optU8, f => writeOptional 1 f
  | .optU16, f => writeOptional 2 f
  | .optS32, f => writeOptional 4 f
  | .optFlag, f => writeOptional 1 f
  | .optChoice _, f => writeOptional 1 f

/-- Whether a layout carries a list of fields: as many, each with a value its coding admits. -/
def layoutAdmits : Layout → List Field → Bool
  | [], [] => true
  | k :: ks, f :: fs => k.admits f && layoutAdmits ks fs
  | _, _ => false

/-- The payload of a request with a layout (R173). -/
def writeFields : Layout → List Field → List Byte
  | k :: ks, f :: fs => k.write f ++ writeFields ks fs
  | _, _ => []

/-! ### Fields by their place -/

def fieldAt (fs : List Field) (k : Nat) : Field := fs.getD k none

def intAt (fs : List Field) (k : Nat) : Int := (fieldAt fs k).getD 0

def natAt (fs : List Field) (k : Nat) : Nat := (intAt fs k).toNat

def flagAt (fs : List Field) (k : Nat) : Bool := intAt fs k == 1

/-! ### The layouts (R173, in the order in which each owning rule lists the fields; log 7) -/

/-- HOLDER (R3). -/
def layHolder : Layout := [.u8, .flag, .optU8, .optS32, .optS32, .optS32]
/-- LIFT (R4). -/
def layLift : Layout := [.u8, .u8, .s32, .s32, .s32]
/-- VAPOUR TABLE (R7). -/
def layVapour : Layout := List.replicate 9 .u16
/-- DISTRICT (R79). -/
def layDistrict : Layout := [.u8, .flag, .optFlag, .optS32, .optS32, .optS32]
/-- OUTSTATION (R117). -/
def layOutstation : Layout := [.u8, .flag, .optChoice 3, .optFlag]
/-- POINT (R117). -/
def layPoint : Layout := [.u8, .u8, .flag, .optChoice 5]
/-- BIND (R133, R173): the point's two bytes are its outstation and its channel. -/
def layBind : Layout := [.u8, .choice 2, .optU16]
/-- LINE SETTINGS (R97). -/
def layLine : Layout := [.s32, .s32]
/-- A request with an object alone. -/
def layObject : Layout := [.u8]
/-- A request with an order number alone (R53). -/
def layNumber : Layout := [.u16]
/-- SET HOLDER LIMITS (R8). -/
def layLimits : Layout := [.u8, .s32, .s32]
/-- SET PROFILE (R74). -/
def layProfile : Layout := [.u8, .s32]
/-- SET PEAK with its slot in use (R74). -/
def layPeakUsed : Layout := [.u8, .u8, .flag, .u8, .u8, .u8, .u8, .s32]
/-- SET PEAK with its slot not in use (R74). -/
def layPeakFree : Layout := [.u8, .u8, .flag]
/-- SET TRIM (R80). -/
def layTrim : Layout := [.u8, .s32, .s32, .s32, .s32]
/-- SET FEED that names a district (R80). -/
def layFeed : Layout := [.optU8, .s32, .s32, .s32, .s32]
/-- SET FEED that names no district (R80). -/
def layLoss : Layout := [.optU8, .s32]
/-- SET DAY PATTERN (R72). -/
def layPattern : Layout := List.replicate 7 .flag
/-- SET PERIOD MARK (R77, R173). -/
def layMark : Layout := [.optU8]
/-- One figure. -/
def layFigure : Layout := [.s32]
/-- SET CV (R145). -/
def layCv : Layout := [.s32, .s32]
/-- SET SUBSTITUTE (R135). -/
def laySubstitute : Layout := [.u8, .s32, .s32, .s32, .optS32, .optS32]
/-- SET TIME (R68): the weekday index is one byte, which R173 does not say (log 7). -/
def layTime : Layout := [.u16, .u8, .u8, .s32]
/-- FORCE DAY (R73): current or next, then the type. -/
def layForce : Layout := [.choice 2, .choice 2]
/-- WHEN (R39): the holder, ABOVE or BELOW, the travel. -/
def layWhen : Layout := [.u8, .choice 2, .s32]
/-- UNTIL with a travel or a stock (R39). -/
def layUntilFigure : Layout := [.choice 3, .s32]
/-- UNTIL with a period (R39). -/
def layUntilPeriod : Layout := [.choice 3, .u8]
/-- FILL, DRAW and FLOAT (R39, R40). -/
def layOrder : Layout := [.u16, .u8, .optU8, .u8]
/-- LOAD OUTSTATION (R130). -/
def layLoad : Layout := [.u8, .s32, .s32]
/-- READ PERIOD (R143): the age, 0 for OPEN (log 7), then the section. -/
def layPeriod : Layout := [.u8, .u8]
/-- READ DAY (R158). -/
def layDay : Layout := [.u8, .choice 2]
/-- READ DAY BOOK (R157). -/
def layBook : Layout := [.u8, .flag, .flag]

/-- SET PEAK: whether the five items follow is said by the third byte, a flag: 0 not in use, 1 in use (R74, log 7). -/
def formPeak (payload : List Byte) : Form :=
  formOf (if payload.getD 2 0#8 == 0#8 then layPeakFree else layPeakUsed) payload

/-- SET FEED: whether a district is named is said by the first byte (R80). -/
def formFeed (payload : List Byte) : Form :=
  formOf (if payload.getD 0 0#8 == 0#8 then layLoss else layFeed) payload

/-- UNTIL: the choice, TRAVEL 0, STOCK 1 and PERIOD 2 (log 7), says how the value is coded (R39). -/
def formUntil (payload : List Byte) : Form :=
  formOf (if payload.getD 0 0#8 == 2#8 then layUntilPeriod else layUntilFigure) payload

end Sys2Proof.Machine
end

