-- ==== Sys2Proof/Machine/HostLink.lean ====
section
/-! DEFINITION. The host link port HLP (10): the receiver, the request queue, the taking of a request and the forming of its
answer, the answer frame. -/

namespace Sys2Proof.Machine

/-! ### Codes (R165, 10.6.2) -/

def Refused.code : Refused → Nat
  | .invalid => 1
  | .fixed => 2
  | .badForm => 3
  | .unknownKind => 4
  | .noSuch => 5
  | .active => 6
  | .coupled => 7
  | .listFull => 8
  | .queueFull => 9
  | .tripped => 10
  | .clockUnset => 11
  | .backward => 12
  | .running => 13
  | .notCommitted => 14

def Indication.code : Indication → Nat
  | .none => 0
  | .clamped => 1
  | .staged => 2
  | .replaced => 3
  | .alreadyClosing => 4
  | .ended => 5

def NoticeKind.code : NoticeKind → Nat
  | .orderEnded => 1
  | .valveStuck => 2
  | .localControl => 3
  | .bandPassed => 4
  | .laggingHolder => 5
  | .pressureDiscord => 6
  | .trip => 7
  | .tripCleared => 8
  | .districtShort => 9
  | .boosterFailed => 10
  | .commandUndelivered => 11
  | .outstationFailed => 12
  | .outstationRecovered => 13
  | .lineOverloaded => 14
  | .lineHeld => 15
  | .periodIncomplete => 16
  | .meterJump => 17
  | .periodMark => 18
  | .dayClosed => 19
  | .balanceOut => 20
  | .coldStarted => 21
  | .powerRestored => 22
  | .restarted => 23

/-! ### The answer frame (R173, 10.6.2) -/

/-- A signed figure of k bytes, none as the most negative number of its width (R173). -/
def figBytes (k : Nat) : Option Int → List Byte
  | some v => signedBytes k v
  | none => leBytes k (2 ^ (8 * k - 1))

def Fig.bytes : Fig → List Byte
  | .u8 v => leBytes 1 v
  | .u16 v => leBytes 2 v
  | .s32 v => figBytes 4 v
  | .s64 v => figBytes 8 v

/-- Bytes 1 to M + 2 of an answer frame. -/
def Answer.body (a : Answer) : List Byte :=
  let tail : List Byte × Nat × Nat × Nat :=
    match a.decision with
    | .answer i d => (d.flatMap (·.bytes), 0, 0, i.code)
    | .refuse c d => (d.flatMap (·.bytes), 1, c.code, 0)
  leBytes 2 (5 + tail.1.length) ++ [a.kind, a.tag] ++ leBytes 1 tail.2.1 ++ leBytes 1 tail.2.2.1
    ++ leBytes 1 (tail.2.2.2 + if a.dropped then 128 else 0) ++ tail.1

/-- The characters of an answer on HTX (R164, 10.6.2). -/
def Answer.bytes (a : Answer) : List Byte := 0x01#8 :: a.body ++ crcBytes a.body

/-! ### Arrival (R161, R163) -/

/-- The QUEUE FULL refusals that wait for sending, the one now being sent among them until its ANSWER_SENT (R163, log 79). -/
def Link.refusalsWaiting (l : Link) : Nat := (l.answers.filter fun a => !a.place).length

/-- A request to a full queue: refused QUEUE FULL at once, or discarded with OVERRUN counted (R163). -/
def Link.turnAway (l : Link) (kind tag : Byte) : Link :=
  if l.refusalsWaiting < 8 then
    { l with answers := l.answers ++ [⟨kind, tag, .refuse .queueFull [.u8 0], false, false, none⟩] }
  else { l with counts := { l.counts with overrun := saturate 65535 l.counts.overrun } }

/-- A good request frame arrives (R163). -/
def Link.arrive (l : Link) (kind tag : Byte) (payload : List Byte) : Link :=
  if l.queue.length < 4 then { l with queue := l.queue ++ [⟨kind, tag, payload, false⟩] } else l.turnAway kind tag

/-- A complete frame: the characters after the start byte (R161). -/
def Link.frame (l : Link) (got : List Byte) : Link :=
  let body := got.dropLast.dropLast
  if got.drop body.length == crcBytes body then
    match body with
    | _ :: kind :: tag :: payload => l.arrive kind tag payload
    | _ => l
  else { l with counts := { l.counts with check := saturate 65535 l.counts.check } }

/-- A character on HRX whose stop bit ends at a moment (R161). -/
def Link.character (l : Link) (now : Time) (b : Byte) : Link :=
  match l.recv with
  | .hunting => if b = 0x01#8 then { l with recv := .inFrame [] now } else l
  | .inFrame got _ =>
    match got with
    | [] =>
      if b.toNat < 2 || 26 < b.toNat then
        { l with recv := .hunting, counts := { l.counts with length := saturate 65535 l.counts.length } }
      else { l with recv := .inFrame [b] now }
    | n :: _ =>
      if (got ++ [b]).length = n.toNat + 3 then { l with recv := .hunting }.frame (got ++ [b])
      else { l with recv := .inFrame (got ++ [b]) now }

/-- The frame in hand is discarded for a gap (R161). -/
def Link.gap (l : Link) : Link :=
  match l.recv with
  | .hunting => l
  | .inFrame _ _ => { l with recv := .hunting, counts := { l.counts with gap := saturate 65535 l.counts.gap } }

/-- The end of the 20 ms after the last character of a frame in hand (R161). -/
def Receiver.gapAt : Receiver → Option Time
  | .hunting => none
  | .inFrame _ last => some (last + Config.ms 20)

/-- A character time of the host link, 1 1/24 ms (R161). -/
def hostCharTime : Time := 25

/-- A character that ends now: one that starts more than 20 ms after the one before finds its frame discarded first, and is
taken as a HUNTING byte (R161, log 44). -/
def Link.heard (now : Time) (l : Link) (b : Byte) : Link :=
  let late := match l.recv.gapAt with
    | some t => decide (t + hostCharTime < now)
    | none => false
  (if late then l.gap else l).character now b

/-- HOST_LINK_CHARACTER (R161). -/
def hostCharacter (moment : Time) (b : Byte) (s : State) : State :=
  let y := s.yard.reach moment
  { s with link := s.link.heard y.now b, yard := y }

/-- FRAME_GAP (R161). -/
def frameGapEvent (s : State) : State :=
  match s.link.recv.gapAt with
  | some t => { s with link := s.link.gap, yard := s.yard.reach t }
  | none => s

/-- REQUEST_FRAME: the characters of a whole frame, back to back, the first of them by now (R161, log 44). -/
def frameArrives (bytes : List Byte) (s : State) : State :=
  { s with link := bytes.foldl (Link.heard s.yard.now) s.link }

/-! ### Taking a request (R162 to R164, R167) -/

/-- The oldest request not yet taken is marked taken (R164). -/
def markTaken : List Request → List Request
  | [] => []
  | r :: rs => if r.taken then r :: markTaken rs else { r with taken := true } :: rs

/-- The queue's part of taking a request: it is the oldest not yet taken, or, where none waits, it arrives now and is
taken at once; none when another stands before it or the queue is full (R163, R164; log 6). -/
def Link.claim (l : Link) (kind tag : Byte) (payload : List Byte) : Option Link :=
  match l.queue.find? fun r => !r.taken with
  | some r =>
    if r.kind = kind && r.tag = tag && r.payload = payload then some { l with queue := markTaken l.queue } else none
  | none =>
    if l.queue.length < 4 then some { l with queue := l.queue ++ [⟨kind, tag, payload, true⟩] } else none

/-- A request that cannot be taken: turned away from a full queue that holds none untaken, else it changes nothing. -/
def Link.unclaimed (l : Link) (kind tag : Byte) : Link :=
  if l.queue.any fun r => !r.taken then l else l.turnAway kind tag

/-- What an owner is given of the link: the qualifiers taken out of the staging slot, and the link as it stands. -/
abbrev RequestWork := List Qualifier → Link → List Field → Yard → Yard × Decision

/-- A request of a kind that consumes the staging slot: its form is tested, its owner decides, and the answer is formed
(R162, R164, R167). -/
def takeRequest (kind tag : Byte) (payload : List Byte) (form : Form) (isOrder : Bool) (asks : Option ResetAsk)
    (owner : RequestWork) (s : State) : State :=
  if s.powered then
    match s.link.claim kind tag payload with
    | some l =>
      let dropped := !isOrder && !l.staging.isEmpty
      let answered (r : Yard × Decision) (asks : Option ResetAsk) : State :=
        { s with yard := r.1,
                 link := { l with staging := [], answers := l.answers ++ [⟨kind, tag, r.2, dropped, true, asks⟩] } }
      match form with
      | .ok fs => answered (owner l.staging l fs s.yard) asks
      | .bad f => answered (s.yard, .refuse .badForm [.u8 f]) none
    | none => { s with link := s.link.unclaimed kind tag }
  else s

/-- A request whose owner needs its fields and the yard alone. -/
def plain (kind : Byte) (form : List Byte → Form) (work : List Field → Yard → Yard × Decision) (tag : Byte)
    (payload : List Byte) (s : State) : State :=
  takeRequest kind tag payload (form payload) false none (fun _ _ fs y => work fs y) s

/-- The same for an operational request, refused NOT COMMITTED while the description is OPEN (R12). -/
def operational (kind : Byte) (form : List Byte → Form) (work : List Field → Yard → Yard × Decision) (tag : Byte)
    (payload : List Byte) (s : State) : State :=
  plain kind form (fun fs y => if y.isCommitted then work fs y else (y, refuse .notCommitted)) tag payload s

/-- A query: the yard stands, and the answer's data are drawn from it. -/
def query (kind : Byte) (form : List Byte → Form) (data : List Field → Yard → Decision) (tag : Byte)
    (payload : List Byte) (s : State) : State :=
  plain kind form (fun fs y => (y, data fs y)) tag payload s

/-- The staging slot after a qualifier, and the indication (R166). -/
def stage (q : Qualifier) : List Qualifier → List Qualifier × Indication
  | [] => ([q], .staged)
  | [a] => ([a, q], .staged)
  | a :: _ => ([a, q], .replaced)

/-- A WHEN or UNTIL is taken (R166): refused, it leaves the slot as it was. -/
def takeQualifier (kind tag : Byte) (payload : List Byte) (form : Form) (read : List Field → Qualifier) (s : State) :
    State :=
  if s.powered then
    match s.link.claim kind tag payload with
    | some l =>
      let r : List Qualifier × Decision :=
        match form with
        | .bad f => (l.staging, .refuse .badForm [.u8 f])
        | .ok fs =>
          if s.yard.isCommitted then
            let p := stage (read fs) l.staging
            (p.1, .answer p.2 [])
          else (l.staging, refuse .notCommitted)
      { s with link := { l with staging := r.1, answers := l.answers ++ [⟨kind, tag, r.2, false, true, none⟩] } }
    | none => { s with link := s.link.unclaimed kind tag }
  else s

/-- ANSWER_SENT: the first answer waiting has been sent in full; its request leaves the queue, and the reset it asked for
begins (R163, R178). -/
def answerGone (s : State) : State :=
  match s.link.answers with
  | a :: rest =>
    let l := { s.link with answers := rest, queue := if a.place then s.link.queue.drop 1 else s.link.queue }
    let s := { s with link := l }
    match a.asks with
    | some r => beginReset r s
    | none => s
  | [] => s

end Sys2Proof.Machine
end

