-- ==== Sys2Proof/Machine/Queries.lean ====
section
/-! DEFINITION. The data of the queries (R29, R39, R81, R118, R134, R143, R157, R158, R171) and of TAKE NOTICE (R170), coded
as R173 states; what R173 leaves open of them is log 8. -/

namespace Sys2Proof.Machine

/-! ### Codes of answer data (R173) -/

def flagFig (b : Bool) : Fig := .u8 (if b then 1 else 0)

/-- A period, object or choice that may be none: FFh (R173). -/
def u8Opt (v : Option Nat) : Fig := .u8 (v.getD 255)

def u16Opt (v : Option Nat) : Fig := .u16 (v.getD 65535)

def num (n : Nat) : Fig := .s32 (some (n : Int))

def CouplingRole.code : CouplingRole → Nat
  | .none => 0
  | .leader => 1
  | .follower => 2

def OrderKind.code : OrderKind → Nat
  | .fill => 0
  | .draw => 1
  | .float => 2

def StockDir.code : StockDir → Nat
  | .unset => 0
  | .rising => 1
  | .falling => 2

def OrderState.code : OrderState → Nat
  | .waiting => 0
  | .opening => 1
  | .running => 2
  | .closing => 3

def GovOutcome.code : GovOutcome → Nat
  | .none => 0
  | .delivered => 1
  | .undelivered => 2
  | .refused => 3
  | .localHand => 4

def PointStatus.code : PointStatus → Nat
  | .good => 0
  | .suspect => 1
  | .fault => 2

def FeedState.code : FeedState → Nat
  | .direct => 0
  | .boosting => 1
  | .boosted => 2
  | .unboosting => 3
  | .short => 4

def BoosterCmd.code : BoosterCmd → Nat
  | .none => 0
  | .run => 1
  | .stop => 2

def BoosterRep.code : BoosterRep → Nat
  | .unknown => 0
  | .stopped => 1
  | .running => 2
  | .fault => 3

def EntryState.code : EntryState → Nat
  | .unknown => 0
  | .live => 1
  | .suspect => 2
  | .failed => 3
  | .asleep => 4
  | .waking => 5

def Identity.code : Identity → Nat
  | .unchecked => 0
  | .matched => 1
  | .mismatched => 2

def LoadOutcome.code : LoadOutcome → Nat
  | .none => 0
  | .pending => 1
  | .done => 2
  | .localHand => 3
  | .refused => 4
  | .failed => 5

/-- A moment of the time base in whole milliseconds (log 8). -/
def inMs (t : Time) : Nat := t / Config.unitsPerMs

def timerFigs : Timer → List Fig
  | .idle => [.u8 0, .s32 none, .s32 none]
  | .running start limit => [.u8 1, num (inMs start), num limit]

/-- A heat in MJ, rounded to the nearest: heat is given in megajoules in every answer (00 section 4.1, R157, R158). -/
def inMJ (heat : Int) : Fig := .s64 (some (roundDiv heat 1000000))

/-- A heat that may be none. -/
def optMJ : Option Int → Fig
  | some v => inMJ v
  | none => .s64 none

/-! ### READ STATUS (R171) -/

/-- The cause of the trip in two bytes, the code of the cause and the number of the OVER-TOP holder, FFh for none (R171; the
two bytes are a DESIGN CHOICE, log 8). -/
def TripCause.figs : Option TripCause → List Fig
  | none => [u8Opt none, u8Opt none]
  | some .input => [.u8 0, u8Opt none]
  | some .request => [.u8 1, u8Opt none]
  | some (.overTop h) => [.u8 2, .u8 h.number]

/-- The clock of READ STATUS, the weekday index one byte (R171, log 8). -/
def clockFigs : Option ClockTime → List Fig
  | none => [.u8 0, u16Opt none, u8Opt none, u8Opt none, .s32 none, u8Opt none]
  | some c => [.u8 1, .u16 c.day, .u8 c.weekday, .u8 c.period, num c.second, .u8 c.dayType.code]

def statusData (l : Link) (y : Yard) : List Fig :=
  [flagFig y.isCommitted] ++ clockFigs y.gdc.clock ++ [flagFig y.mvs.tripped] ++ TripCause.figs y.mvs.tripCause
    ++ [u16Opt (y.soa.current.map (·.day)), flagFig y.soa.pending.isSome, .u8 y.notices.queue.length,
        num y.notices.lost, .u8 l.queue.length, num l.counts.length, num l.counts.gap, num l.counts.check,
        num l.counts.overrun]

/-! ### READ HOLDER (R22, R29) -/

def sampledFigs : Option Sampled → List Fig
  | some s => [.s32 (some s.value), .u8 s.source.code]
  | none => [.s32 none, u8Opt none]

def closingFigs : Option Closing → List Fig
  | some c => [.s64 c.stock, .u8 c.status.code, .u8 c.period]
  | none => [.s64 none, u8Opt none, u8Opt none]

def liftFigs : Option Lift → List Fig
  | some l => [.s32 (some l.area), .s32 (some l.stroke), .s32 (some l.weight)]
  | none => [.s32 none, .s32 none, .s32 none]

/-- The holder record in the order of R3, then the lift entries as a list with its count (R4, R173). The holder number and
the present item of R3, which the request and the answer itself say, are left out (DESIGN CHOICE, log 8). -/
def recordFigs (r : HolderRec) : List Fig :=
  let lifts := r.lifts.toList.take r.count
  [.u8 r.count, .s32 (some r.cup), .s32 (some r.topMargin), .s32 (some r.landMargin), .u8 lifts.length]
    ++ lifts.flatMap liftFigs

/-- The derived geometry in the order of R5, the zone limits Z0 to Zn and the bands as lists with their counts (R173). -/
def geometryFigs (g : Geometry) : List Fig :=
  [.u8 (g.zones.length + 1)] ++ (g.zone0 :: g.zones).map (fun z => .s32 (some z))
    ++ [.s32 (some g.full), .s32 (some g.topStop), .s32 (some g.landing), .u8 g.bands.length]
    ++ g.bands.flatMap fun b => [.s32 (some b.1), .s32 (some b.2)]

/-- The items of R22, the UNMANAGED flag, the record, the geometry while COMMITTED, and a coupled leader's pair stock. -/
def holderData (y : Yard) (h : Holder) (r : HolderRec) : List Fig :=
  let d := y.hsu.holders.get h
  let role := y.mvs.role h
  sampledFigs d.travel ++ sampledFigs d.temp ++ sampledFigs d.press
    ++ [.u8 d.zone, .s32 (some d.pressure), .s64 d.stock, .u8 d.status.code, flagFig d.clamped]
    ++ closingFigs d.closing
    ++ [flagFig d.discord, .u8 d.outCount, .u8 d.inCount, .u8 role.code, flagFig (y.mvs.unmanaged.get h)]
    ++ recordFigs r
    ++ (match y.yds.geometry.get h with
        | some g => geometryFigs g
        | none => [])
    ++ (if role == .leader then [.s64 (pairStock y h).1, .u8 (pairStock y h).2.code] else [])

def readHolder (number : Nat) (y : Yard) : Decision :=
  match (holderOf number).bind fun h => (y.yds.holders.get h).map (h, ·) with
  | some (h, r) => .answer .none (holderData y h r)
  | none => noSuch 1

/-! ### READ ORDERS (R39) -/

/-- A start condition: its code, then the period, the holder and the travel, those it has not as none (log 8). -/
def startFigs : StartCond → List Fig
  | .absent => [.u8 0, u8Opt none, u8Opt none, .s32 none]
  | .atPeriod p => [.u8 1, .u8 p, u8Opt none, .s32 none]
  | .whenAbove h x => [.u8 2, u8Opt none, .u8 h.number, .s32 (some x)]
  | .whenBelow h x => [.u8 3, u8Opt none, .u8 h.number, .s32 (some x)]

/-- An end condition: its code, then the travel, the stock and the period, those it has not as none (log 8). -/
def endFigs : EndCond → List Fig
  | .absent => [.u8 0, .s32 none, .s64 none, u8Opt none]
  | .untilTravel x => [.u8 1, .s32 (some x), .s64 none, u8Opt none]
  | .untilStock v => [.u8 2, .s32 none, .s64 (some v), u8Opt none]
  | .untilPeriod p => [.u8 3, .s32 none, .s64 none, .u8 p]

/-- The fields of an order in READ ORDERS (R39): two lag marks always, also where no holder is coupled (log 8). -/
def orderFigs (o : Order) : List Fig :=
  [.u16 o.number, .u8 o.holder.number, .u8 o.kind.code] ++ startFigs o.start ++ endFigs o.finish
    ++ [.u8 o.stockDir.code, .u8 o.standing, flagFig o.eligible, flagFig o.lagOwn, flagFig o.lagOther, .u8 o.state.code,
        u8Opt (o.reason.map (·.code))]

def readOrders (y : Yard) : Decision :=
  .answer .none (.u8 y.mvs.orders.length :: y.mvs.orders.flatMap orderFigs)

/-! ### READ DISTRICT (R74, R79 to R81) -/

def peakFigs : Option Peak → List Fig
  | some p => [.u8 1, .u8 p.start, .u8 p.lead, .u8 p.hold, .u8 p.trail, .s32 (some p.value)]
  | none => [.u8 0, u8Opt none, u8Opt none, u8Opt none, u8Opt none, .s32 none]

/-- The settings of a district as READ DISTRICT gives them: programme, R80's settings, yard loss; not the lag (log 8). -/
def settingFigs (d : Yds) (x : District) : List Fig :=
  let t := d.trimSet.get x
  let f := d.feedSet.get x
  [.s32 (some (d.programme.get x).base)] ++ (d.programme.get x).peaks.toList.flatMap peakFigs
    ++ [.s32 (some t.farTarget), .s32 (some t.farBand), .s32 (some t.step), .s32 (some t.maxTrim), .s32 (some f.slew),
        .s32 (some f.drop), .s32 (some f.hysteresis), num f.runUp, .s32 (some d.yardLoss)]

def districtDynFigs (r : DistrictDyn) : List Fig :=
  [.s32 (some r.profile), .s32 (some r.trim), .s32 r.target, .s32 r.commanded, .s32 r.delivered, flagFig r.govPending,
    .u8 r.govOutcome.code, .s32 (r.reported.map (·.1)), u8Opt (r.reported.map (·.2.code)), .u8 r.feed.code,
    .u8 r.boosterCmd.code, .u8 r.boosterRep.code]
    ++ timerFigs r.runUp ++ [flagFig r.failed, .u8 r.hyst, flagFig r.adoption, flagFig (r.adoptWait != .idle)]

/-- READ DISTRICT (R81); the district number and the present item are left out (log 8). -/
def readDistrict (number : Nat) (y : Yard) : Decision :=
  match (districtOf number).bind fun x => (y.yds.districts.get x).map (x, ·) with
  | some (x, r) =>
    .answer .none ([flagFig r.booster, .s32 (some r.floor), .s32 (some r.ceiling), .s32 (some r.factor)]
      ++ settingFigs y.yds x ++ districtDynFigs (y.dgu.districts.get x) ++ [.s32 y.dgu.available])
  | none => noSuch 1

/-! ### READ OUTSTATION (R117, R118) -/

def pointKindFigs (t : Four (Option PointKind)) : List Fig := t.toList.map fun k => .u8 (pointKindCode k)

def fittedFigs : Option Fitted → List Fig
  | some f => .u8 f.kind.code :: pointKindFigs f.points
  | none => List.replicate 5 (u8Opt none)

/-- The time of the wake: that of a WAKING entry, else that of a FAILED sleeper's woken mark (R118, R122, log 8). -/
def EntryDyn.wokenAt (d : EntryDyn) : Option Time := if d.state == .waking then some d.wakeTime else d.woken

/-- The dynamic record in the order of R118. -/
def entryDynFigs (d : EntryDyn) : List Fig :=
  [.u8 d.state.code, .u8 d.misses, .u8 d.failedWait, flagFig d.woken.isSome, .s32 (d.wokenAt.map fun t => (inMs t : Int)),
    .u8 d.identity.code]
    ++ fittedFigs d.fitted
    ++ [num d.counters.corrected, num d.counters.uncorrectable, num d.counters.payloadBad, num d.counters.timeout,
        num d.counters.outCorrections, num d.counters.outDiscards, .s32 (d.lastGood.map (↑)), .u8 d.load.code]

/-- READ OUTSTATION: the fixed items of R117, which are always present for an entry of the roster, its points, the dynamic
record (R118, log 8). -/
def readOutstation (a : Nat) (y : Yard) : Decision :=
  match y.scs.entryAt a with
  | some e =>
    .answer .none ([.u8 e.address, .u8 e.kind.code, flagFig e.sleeper] ++ pointKindFigs e.points ++ entryDynFigs e.dyn)
  | none => noSuch 1

/-! ### READ QUANTITY (R134) -/

def pointFigs : Option Point → List Fig
  | some p => [.u8 p.outstation, .u8 p.channel]
  | none => [u8Opt none, u8Opt none]

def goodTimeFigs : Option GoodTime → List Fig
  | some t =>
    [num t.cycle, u16Opt (t.clock.map (·.1)), u8Opt (t.clock.map (·.2.1)), .s32 (t.clock.map fun c => (c.2.2 : Int))]
  | none => [.s32 none, u16Opt none, u8Opt none, .s32 none]

/-- The record of R134, every item for every slot: the jump limit, which meters alone have, is sent as none for another slot,
its meter base as none and its scans count as 0 (DESIGN CHOICE, log 8). -/
def quantityData (y : Yard) (q : Slot) : List Fig :=
  let b := y.yds.bind.slots.get q
  let s := y.yds.subs.get q
  let r := y.qpr.recs.get q
  pointFigs b.primary ++ pointFigs b.standby
    ++ [.s32 (some s.low), .s32 (some s.high), num s.hold, .s32 s.declared,
        .s32 (if q.isMeter then some s.jump else none), .s32 r.value, .u8 r.source.code]
    ++ goodTimeFigs r.lastGood
    ++ [.u8 r.since, .s32 (r.candidate.map (·.1)), .s32 (r.candidate.map fun c => (c.2 : Int)), flagFig r.accepted,
        num r.clamps, .s32 (r.base.map (↑)), num r.scans]

def readQuantity (code : Nat) (y : Yard) : Decision :=
  match slotOf code with
  | some q => if y.yds.slotPresent q then .answer .none (quantityData y q) else noSuch 1
  | none => invalid 1

/-! ### READ PERIOD (R141, R143) -/

def entryFigs (isMeter : Bool) (e : PEntry) : List Fig :=
  [.s32 e.last, .s32 e.low, .s32 e.high, num e.count, .u8 e.source.code]
    ++ (if isMeter then
          [num e.deltas, flagFig e.jump, flagFig e.restart, flagFig e.estimated, .s64 e.vstd, flagFig e.vclamped,
            optMJ e.heat]
        else [])

/-- The slots of a section of READ PERIOD, none for one that names an absent object (R143, R173). -/
def sectionSlots (d : Yds) (section_ : Nat) : Option (List Slot) :=
  if section_ = 0 then some [.baro, .yardTemp, .outletPress, .makePress, .makeMeter]
  else if section_ ≤ 6 then (d.presentHolder section_).map holderSlots
  else (d.presentDistrict (section_ - 6)).map districtSlots

/-- The record of an age: 0 the open one, 1 the newest closed (R143). -/
def recordOfAge (q : Qpr) (age : Nat) : Option PeriodRec :=
  if age = 0 then q.current else (q.ring.reverse.drop (age - 1)).head?

/-- A period record and its entries of a section's slots, as they stand in it: an object described anew since shows what was
entered for its slots before (R143, log 87). -/
def recordData (r : PeriodRec) (qs : List Slot) : List Fig :=
  [.u16 r.day, .u8 r.period, flagFig r.partialFlag, flagFig r.gap, flagFig r.incomplete, .u8 r.nIncomplete]
    ++ qs.flatMap fun q => entryFigs q.isMeter (r.entries.get q)

/-- READ PERIOD: an age above 8 is INVALID at field 1, and one beyond the records held is NO SUCH there, whatever the section
(R143, log 9). -/
def readPeriod (age section_ : Nat) (y : Yard) : Decision :=
  if 8 < age then invalid 1
  else if 14 < section_ then invalid 2
  else
    match recordOfAge y.qpr age, sectionSlots y.yds section_ with
    | some r, some qs => .answer .none (recordData r qs)
    | none, _ => noSuch 1
    | some _, none => noSuch 2

/-! ### READ DAY and READ DAY BOOK (R157, R158) -/

def dayFlagFigs (f : DayFlags) : List Fig := [flagFig f.part, flagFig f.carried, flagFig f.estimated, flagFig f.gap]

/-- The corrections of a day in hand at CU, the remainders of a pending day among them (R146). -/
def Soa.inHand (u : Soa) (d : Day) (isPending : Bool) : Nat :=
  (u.corrections.filter (·.day == d.day)).length + (if isPending then u.remainders.length else 0)

def dayFigs (y : Yard) (d : Day) (isPending : Bool) : List Fig :=
  let m := d.meters.get .make
  [.u16 d.day, .u8 d.dayType.code] ++ dayFlagFigs d.flags
    ++ [u8Opt d.lastClosed, .s64 (d.opening.map (·.1)), .s64 (some m.volume), inMJ m.heat,
        .u8 (y.soa.inHand d isPending)]

def dayDistrictFigs (m : MeterDay) : List Fig :=
  [.s64 (some m.volume), inMJ m.heat, u8Opt m.peakPeriod, .s64 (some m.peakVolume), .u8 m.estimated,
    .s64 (some m.remainder), flagFig m.latched]

/-- The bound meters whose latch is not yet reported (R158). -/
def unreported (y : Yard) (d : Day) : Nat := (y.yds.boundMeters.filter fun m => !(d.meters.get m).latched).length

/-- READ DAY: with no such day the request is NO SUCH at field 2, whatever its section, and else with an absent district NO
SUCH at field 1 (R158; which of two faults is named is a DESIGN CHOICE, log 9). -/
def readDay (section_ : Nat) (isPending : Bool) (y : Yard) : Decision :=
  if 8 < section_ then invalid 1
  else
    match (if isPending then y.soa.pending.map (·.day) else y.soa.current) with
    | none => noSuch 2
    | some d =>
      let tail := if isPending then [Fig.u8 (unreported y d)] else []
      if section_ = 0 then .answer .none (dayFigs y d isPending ++ tail)
      else
        match y.yds.presentDistrict section_ with
        | some x => .answer .none (dayDistrictFigs (d.meters.get (.district x)) ++ tail)
        | none => noSuch 1

/-- A day book entry's yard figures; the permille of a MAKE NIL day is sent as none (R157, log 8). -/
def bookFigs (e : BookEntry) : List Fig :=
  [.u16 e.day, .u8 e.dayType.code] ++ dayFlagFigs e.flags
    ++ [.s64 (some e.opening), .s64 (some e.closing), .s64 (some e.make), inMJ e.makeHeat, .s64 (some e.sendOut),
        .s64 (some e.unaccounted), .s32 e.permille]

def bookDistrictFigs (b : BookDistrict) : List Fig :=
  [.s64 (some b.volume), inMJ b.heat, u8Opt b.peakPeriod, .s64 (some b.peakVolume), .u8 b.estimated]

/-- A section of a day book entry, none when the entry holds no record of the district (R157). -/
def BookEntry.sectionFigs (e : BookEntry) (section_ : Nat) : Option (List Fig) :=
  if section_ = 0 then some (bookFigs e)
  else (districtOf section_).bind fun x => (e.districts.get x).map bookDistrictFigs

/-- READ DAY BOOK (R157). A request refused NO SUCH leaves the cursor where it stood before the request, FROM NEWEST or not:
a refused request changes nothing in its owner (R165). -/
def readDayBook (section_ : Nat) (advance fromNewest : Bool) (y : Yard) : Yard × Decision :=
  if 8 < section_ then (y, invalid 1)
  else
    let at_ := if fromNewest then y.soa.book.length - 1 else y.soa.cursor
    let place (k : Nat) : Yard := y.updSoa fun u => { u with cursor := k }
    match (y.soa.book.drop at_).head? with
    | none => (place at_, .answer .ended [])
    | some e =>
      match e.sectionFigs section_ with
      | none => (y, noSuch 1)
      | some d => (place (if advance then at_ + 1 else at_), .answer .none d)

/-! ### TAKE NOTICE (R170, 10.6.2) -/

def noticeFigs (n : Notice) (remaining lost : Nat) : List Fig :=
  [.u8 n.kind.code, .u16 n.object, u16Opt n.day, u8Opt n.period, .s32 (some n.datum), .u8 n.repeats, .u8 remaining,
    .u16 lost]

/-- The data of TAKE NOTICE on an empty queue: kind 0, none remaining, the lost count; the fields of the absent notice are
sent as log 8 says. -/
def noNoticeFigs (lost : Nat) : List Fig :=
  [.u8 0, .u16 0, u16Opt none, u8Opt none, .s32 (some 0), .u8 0, .u8 0, .u16 lost]

/-- TAKE NOTICE (R170). -/
def takeNotice (y : Yard) : Yard × Decision :=
  match y.notices.queue with
  | n :: rest => ({ y with notices := ⟨rest, 0⟩ }, .answer .none (noticeFigs n rest.length y.notices.lost))
  | [] => ({ y with notices := ⟨[], 0⟩ }, .answer .none (noNoticeFigs y.notices.lost))

end Sys2Proof.Machine
end

