-- ==== Sys2Proof/Machine/Movement.lean ====
section
/-! DEFINITION. The requests of the movement sequencer and of SCS as their owners take them (R40, R53 to R57, R60, R63,
R130). -/

namespace Sys2Proof.Machine

/-! ### FILL, DRAW, FLOAT (R40) -/

/-- An order as its request and its staged qualifiers give it (R39, R167). -/
structure OrderAsk where
  number : Nat
  holder : Nat
  kind : OrderKind
  period : Option Nat
  standing : Nat
  staged : List Qualifier
deriving DecidableEq, Repr

def Qualifier.isWhen : Qualifier → Bool
  | .whenTravel _ _ _ => true
  | _ => false

/-- The holder number a staged WHEN names (R40); with two staged, the first (log 55). -/
def OrderAsk.whenHolder (a : OrderAsk) : Option Nat :=
  match a.staged.find? (·.isWhen) with
  | some (.whenTravel n _ _) => some n
  | _ => none

/-- The start condition (R39). -/
def OrderAsk.start (a : OrderAsk) : StartCond :=
  match a.period with
  | some p => .atPeriod p
  | none =>
    match a.staged.find? (·.isWhen) with
    | some (.whenTravel n above x) =>
      match holderOf n with
      | some h => if above then .whenAbove h x else .whenBelow h x
      | none => .absent
    | _ => .absent

/-- The end condition (R39). -/
def OrderAsk.finish (a : OrderAsk) : EndCond :=
  match a.staged.find? fun q => !q.isWhen with
  | some (.untilTravel x) => .untilTravel x
  | some (.untilStock v) => .untilStock v
  | some (.untilPeriod p) => .untilPeriod p
  | _ => .absent

/-- The values of a qualifier lie in the ranges of R39. -/
def Qualifier.inRanges : Qualifier → Bool
  | .whenTravel _ _ x => inRange 0 60500 x
  | .untilTravel x => inRange 0 60500 x
  | .untilStock v => inRange 0 1000000000 v
  | .untilPeriod p => decide (p ≤ 95)

def EndCond.isTravel : EndCond → Bool
  | .untilTravel _ => true
  | _ => false

/-- Test 3 of R40 with the field number of each cause; 0 where no field of the request is at fault (log 9). -/
def orderFault (a : OrderAsk) (h : Holder) (y : Yard) : Option Nat :=
  let finish := a.finish
  let periodOk := match a.period with
    | some p => decide (p ≤ 95)
    | none => true
  let samePeriod := match a.period, finish with
    | some p, .untilPeriod q => p == q
    | _, _ => false
  let used := (y.mvs.worked h).flatMap fun x => a.kind.used.map fun s => (⟨x, s⟩ : Valve)
  firstFault
    [(1, decide (1 ≤ a.number) && decide (a.number ≤ 999)), (3, periodOk), (4, decide (a.standing ≤ 31)),
     (0, a.staged.all (·.inRanges)),
     (0, decide ((a.staged.filter (·.isWhen)).length ≤ 1) && decide ((a.staged.filter fun q => !q.isWhen).length ≤ 1)),
     (1, (y.mvs.orderOf a.number).isNone), (0, !(a.kind == .float && finish.isTravel)),
     (4, a.standing == 0 || a.period.isSome), (0, !(a.period.isSome && a.whenHolder.isSome)), (0, !samePeriod),
     (2, used.all fun v => (y.yds.bind.valve v).isSome)]

def EndCond.isPeriod : EndCond → Bool
  | .untilPeriod _ => true
  | _ => false

/-- An UNTIL TRAVEL target within the limits of the holder, and whether it was replaced (R40). -/
def limitTarget (k : OrderKind) (g : Option Geometry) (e : EndCond) : EndCond × Bool :=
  match e, g with
  | .untilTravel x, some g =>
    if k == .fill && decide (g.topStop < x) then (.untilTravel g.topStop, true)
    else if k == .draw && decide (x < g.landing) then (.untilTravel g.landing, true)
    else (e, false)
  | _, _ => (e, false)

/-- Whether an order is eligible on acceptance (R41). -/
def eligibleAtOnce (s : StartCond) (clock : Option ClockTime) : Bool :=
  match s with
  | .absent => true
  | .atPeriod p =>
    match clock with
    | some c => c.period == p
    | none => false
  | _ => false

/-- An accepted order: appended, made eligible where its start says so, and activation tried (R40 to R42). -/
def acceptOrder (a : OrderAsk) (h : Holder) (y : Yard) : Yard × Decision :=
  let t := limitTarget a.kind (y.yds.geometry.get h) a.finish
  let eligible := eligibleAtOnce a.start y.gdc.clock
  let o : Order := ⟨a.number, h, a.kind, a.start, t.1, .unset, a.standing, eligible, false, false, .waiting, none⟩
  let y := y.updMvs fun m => { m with orders := m.orders ++ [o] }
  (if eligible then work [.activate h] y else y, settled t.2)

/-- FILL, DRAW and FLOAT (R40). -/
def takeOrder (a : OrderAsk) (y : Yard) : Yard × Decision :=
  match y.yds.presentHolder a.holder with
  | none => (y, noSuch 2)
  | some h =>
    let whenAbsent := match a.whenHolder with
      | some n => (y.yds.presentHolder n).isNone
      | none => false
    if whenAbsent then (y, noSuch 0)
    else if y.mvs.role h == .follower then (y, .refuse .coupled [.u8 2])
    else
      match orderFault a h y with
      | some f => (y, invalid f)
      | none =>
        if (a.period.isSome || a.finish.isPeriod) && y.gdc.clock.isNone then
          (y, .refuse .clockUnset [.u8 (if a.period.isSome then 3 else 0)])
        else if a.kind.fills && y.mvs.tripped then (y, refuse .tripped)
        else if 16 ≤ y.mvs.orders.length then (y, refuse .listFull)
        else acceptOrder a h y

/-- The order an order request's fields and qualifiers ask for. -/
def askOf (k : OrderKind) (staged : List Qualifier) (fs : List Field) : OrderAsk :=
  ⟨natAt fs 0, natAt fs 1, k, (fieldAt fs 2).map (·.toNat), natAt fs 3, staged⟩

/-! ### CANCEL, SHUT HOLDER, COUPLE, UNCOUPLE (R53 to R57) -/

/-- CANCEL (R53). The data of a WAITING order removed are one byte 1, and the other answers carry none (log 66). -/
def cancelOrder (number : Nat) (y : Yard) : Yard × Decision :=
  match y.mvs.orderOf number with
  | none => (y, noSuch 1)
  | some o =>
    match o.state with
    | .waiting => (work [.activate o.holder] (y.updMvs (·.dropOrder number)), .answer .none [.u8 1])
    | .closing => (y, .answer .alreadyClosing [])
    | _ => (work [.close number .cancelled] y, okAnswer)

/-- SHUT HOLDER (R54, R57). A SHUT that finds the list full fails once the marks are set, and clears its holder's mark again
(log 64). -/
def shutHolder (number : Nat) (y : Yard) : Yard × Decision :=
  match y.yds.presentHolder number with
  | none => (y, noSuch 1)
  | some h =>
    if y.mvs.role h == .follower then (y, .refuse .coupled [.u8 1])
    else if (y.mvs.activeOrder h).isSome then (y, .refuse .active [.u8 1])
    else
      let hs := y.mvs.worked h
      let y := setShutPending hs true y
      (work ((y.yds.boundValves hs [.inlet, .outlet]).map (.command · .shut) ++ hs.map .testShut) y, okAnswer)

/-- COUPLE (R55). The WAITING orders of the follower end in list order (log 62). -/
def couplePair (number : Nat) (y : Yard) : Yard × Decision :=
  match (holderOf number).filter (·.leads) with
  | none => (y, invalid 1)
  | some h =>
    if !(y.yds.holderPresent h && y.yds.holderPresent h.partner) then (y, noSuch 1)
    else if (y.mvs.activeOrder h).isSome || (y.mvs.activeOrder h.partner).isSome then (y, .refuse .active [.u8 1])
    else if y.mvs.isCoupled h then (y, okAnswer)
    else
      let mine := y.mvs.orders.filter fun o => o.holder == h.partner && o.state == .waiting
      let y := work (mine.map fun o => .drop o.number .coupling) y
      let y := y.updMvs fun m => { m with coupled := m.coupled.set h.pair true }
      (work [.activate h] y, okAnswer)

/-- UNCOUPLE (R56). -/
def uncouplePair (number : Nat) (y : Yard) : Yard × Decision :=
  match (holderOf number).filter (·.leads) with
  | none => (y, invalid 1)
  | some h =>
    if (y.mvs.activeOrder h).isSome then (y, .refuse .active [.u8 1])
    else if y.mvs.isCoupled h then
      let y := y.updMvs fun m => { m with coupled := m.coupled.set h.pair false }
      (work [.activate h, .activate h.partner] y, okAnswer)
    else (y, okAnswer)

/-! ### TRIP and CLEAR TRIP (R60, R63) -/

def tripRequest (y : Yard) : Yard × Decision := (tripYard .request y, okAnswer)

/-- CLEAR TRIP (R63). -/
def clearTrip (y : Yard) : Yard × Decision :=
  let overfull := fun h =>
    match travelOf y h, y.yds.geometry.get h with
    | some t, some g => decide (g.full ≤ t)
    | _, _ => false
  if y.tripPin || y.yds.presentHolders.any overfull then (y, refuse .active)
  else if y.mvs.tripped then
    (raiseNotice .tripCleared 0 0 (y.updMvs fun m => { m with tripped := false }), okAnswer)
  else (y, okAnswer)

/-! ### LOAD OUTSTATION and LINE RESET (R130, R131) -/

/-- LOAD OUTSTATION (R130). A value that 24 bits cannot carry is INVALID (log 9). -/
def loadRequest (a : Nat) (param value : Int) (y : Yard) : Yard × Decision :=
  if (y.scs.entryAt a).isNone then (y, noSuch 1)
  else if !(inRange 0 255 param) then (y, invalid 2)
  else if !(inRange (-8388608) 16777215 value) then (y, invalid 3)
  else if 4 ≤ y.scs.loads.length then (y, refuse .listFull)
  else
    let y := y.updScs fun u => { u with loads := u.loads ++ [⟨a, param.toNat, value, 0, false, false⟩] }
    (updEntryDyn a (fun d => { d with load := .pending }) y, okAnswer)

/-! ### The YARD TRIP input (R59) -/

/-- YARD TRIP becomes asserted: the watch begins (R59). -/
def tripAsserted (moment : Time) (y : Yard) : Yard :=
  if y.tripPin then y
  else
    let y := { y with tripPin := true }.reach moment
    y.updMvs fun m => { m with watch := .running y.now }

/-- YARD TRIP is released: the watch ends (R59). -/
def tripReleased (y : Yard) : Yard := { y with tripPin := false }.updMvs fun m => { m with watch := .idle }

/-- YARD TRIP has stayed asserted for 200 ms (R59). -/
def tripWatchOver (y : Yard) : Yard :=
  match y.mvs.watch with
  | .running since =>
    tripYard .input ((y.reach (since + Config.ms 200)).updMvs fun m => { m with watch := .spent })
  | _ => y

/-- VALVE_TIMER_EXPIRY: a RUNNING travel timer reaches its limit (R37). -/
def valveTimerOver (v : Valve) (y : Yard) : Yard :=
  match (y.mvs.valve v).timer.deadline with
  | some t => work [.failed v] (y.reach t)
  | none => y

end Sys2Proof.Machine
end

