-- ==== Sys2Proof/Machine/DescriptionRequests.lean ====
section
/-! DEFINITION. The meanings of the description requests and the adjustable settings (rows HOLDER to SET_VALVE_LIMIT). -/

namespace Sys2Proof.Machine

/-- What a meaning answers: this model stops nowhere. -/
abbrev Result := Host.Outcome State Fault Refusal

/-- An event ends: its effect stands, and the check word has been formed again over the retained store (R175). -/
def concluded (s : State) : Result := .next s.resealed

/-- HOLDER (R3). -/
def execHolder (tag : Byte) (payload : List Byte) (s : State) : Result :=
  concluded (plain 0x10#8 (formOf layHolder)
    (fun fs y => describeHolder (natAt fs 0) (flagAt fs 1) (fieldAt fs 2) (fieldAt fs 3) (fieldAt fs 4) (fieldAt fs 5) y)
    tag payload s)

/-- LIFT (R4). -/
def execLift (tag : Byte) (payload : List Byte) (s : State) : Result :=
  concluded (plain 0x11#8 (formOf layLift)
    (fun fs y => describeLift (natAt fs 0) (natAt fs 1) (intAt fs 2) (intAt fs 3) (intAt fs 4) y) tag payload s)

/-- VAPOUR TABLE (R7). -/
def execVapourTable (tag : Byte) (payload : List Byte) (s : State) : Result :=
  concluded (plain 0x12#8 (formOf layVapour) (fun fs y => setVapour (fs.map fun f => (f.getD 0).toNat) y) tag payload s)

/-- DISTRICT (R79). -/
def execDistrict (tag : Byte) (payload : List Byte) (s : State) : Result :=
  concluded (plain 0x13#8 (formOf layDistrict)
    (fun fs y => describeDistrict (natAt fs 0) (flagAt fs 1) (fieldAt fs 2) (fieldAt fs 3) (fieldAt fs 4) (fieldAt fs 5) y)
    tag payload s)

/-- OUTSTATION (R117). -/
def execOutstation (tag : Byte) (payload : List Byte) (s : State) : Result :=
  concluded (plain 0x14#8 (formOf layOutstation)
    (fun fs y => describeOutstation (natAt fs 0) (flagAt fs 1) ((fieldAt fs 2).bind fun k => outstationKindOf k.toNat)
      (flagAt fs 3) y) tag payload s)

/-- The point kind of a POINT request, coded by its place in R117's list. -/
def pointKindOf : Nat → Option PointKind
  | 0 => some .measure
  | 1 => some .meter
  | 2 => some .valve
  | 3 => some .booster
  | 4 => some .governor
  | _ => none

/-- POINT (R117). -/
def execPoint (tag : Byte) (payload : List Byte) (s : State) : Result :=
  concluded (plain 0x15#8 (formOf layPoint)
    (fun fs y => describePoint (natAt fs 0) (natAt fs 1) (flagAt fs 2) ((fieldAt fs 3).bind fun k => pointKindOf k.toNat) y)
    tag payload s)

/-- The point of a BIND request: its outstation in the first byte, its channel in the second (R133, R173). -/
def bindPoint (f : Field) : Option Point := f.map fun v => ⟨v.toNat % 256, v.toNat / 256⟩

/-- BIND (R133). -/
def execBind (tag : Byte) (payload : List Byte) (s : State) : Result :=
  concluded (plain 0x16#8 (formOf layBind)
    (fun fs y => describeBinding (natAt fs 0) (flagAt fs 1) (bindPoint (fieldAt fs 2)) y) tag payload s)

/-- LINE SETTINGS (R97). -/
def execLineSettings (tag : Byte) (payload : List Byte) (s : State) : Result :=
  concluded (plain 0x17#8 (formOf layLine) (fun fs y => setLine (intAt fs 0) (intAt fs 1) y) tag payload s)

/-- COMMIT (R9, R10). -/
def execCommit (tag : Byte) (payload : List Byte) (s : State) : Result :=
  concluded (plain 0x18#8 (formOf []) (fun _ y => commit y) tag payload s)

/-- RECOMMISSION (R11). -/
def execRecommission (tag : Byte) (payload : List Byte) (s : State) : Result :=
  concluded (plain 0x19#8 (formOf []) (fun _ y => recommission y) tag payload s)

/-- SET HOLDER LIMITS (R8). -/
def execSetHolderLimits (tag : Byte) (payload : List Byte) (s : State) : Result :=
  concluded (plain 0x20#8 (formOf layLimits) (fun fs y => setHolderLimits (natAt fs 0) (intAt fs 1) (intAt fs 2) y)
    tag payload s)

/-- SET PROFILE (R74). -/
def execSetProfile (tag : Byte) (payload : List Byte) (s : State) : Result :=
  concluded (plain 0x21#8 (formOf layProfile) (fun fs y => setProfile (natAt fs 0) (intAt fs 1) y) tag payload s)

/-- SET PEAK (R74). -/
def execSetPeak (tag : Byte) (payload : List Byte) (s : State) : Result :=
  concluded (plain 0x22#8 formPeak
    (fun fs y =>
      if flagAt fs 2 then
        setPeak (natAt fs 0) (natAt fs 1) (intAt fs 3) (intAt fs 4) (intAt fs 5) (intAt fs 6) (intAt fs 7) y
      else dropPeak (natAt fs 0) (natAt fs 1) y) tag payload s)

/-- SET TRIM (R80). -/
def execSetTrim (tag : Byte) (payload : List Byte) (s : State) : Result :=
  concluded (plain 0x23#8 (formOf layTrim)
    (fun fs y => setTrim (natAt fs 0) (intAt fs 1) (intAt fs 2) (intAt fs 3) (intAt fs 4) y) tag payload s)

/-- SET FEED (R80). -/
def execSetFeed (tag : Byte) (payload : List Byte) (s : State) : Result :=
  concluded (plain 0x24#8 formFeed
    (fun fs y =>
      match fieldAt fs 0 with
      | some x => setFeed x.toNat (intAt fs 1) (intAt fs 2) (intAt fs 3) (intAt fs 4) y
      | none => setLoss (intAt fs 1) y) tag payload s)

/-- SET LAG (R74). -/
def execSetLag (tag : Byte) (payload : List Byte) (s : State) : Result :=
  concluded (plain 0x25#8 (formOf layObject) (fun fs y => setLag (intAt fs 0) y) tag payload s)

/-- SET DAY PATTERN (R72). -/
def execSetDayPattern (tag : Byte) (payload : List Byte) (s : State) : Result :=
  concluded (plain 0x26#8 (formOf layPattern) (fun fs y => setDayPattern (fs.map (· == some 1)) y) tag payload s)

/-- SET PERIOD MARK (R77). -/
def execSetPeriodMark (tag : Byte) (payload : List Byte) (s : State) : Result :=
  concluded (plain 0x27#8 (formOf layMark) (fun fs y => setPeriodMark (fieldAt fs 0) y) tag payload s)

/-- SET CV (R145). -/
def execSetCv (tag : Byte) (payload : List Byte) (s : State) : Result :=
  concluded (plain 0x28#8 (formOf layCv) (fun fs y => setCv (intAt fs 0) (intAt fs 1) y) tag payload s)

/-- SET BALANCE LIMIT (R145). -/
def execSetBalanceLimit (tag : Byte) (payload : List Byte) (s : State) : Result :=
  concluded (plain 0x29#8 (formOf layFigure) (fun fs y => setBalanceLimit (intAt fs 0) y) tag payload s)

/-- SET SCAN (R123). -/
def execSetScan (tag : Byte) (payload : List Byte) (s : State) : Result :=
  concluded (plain 0x2A#8 (formOf layFigure) (fun fs y => setScan (intAt fs 0) y) tag payload s)

/-- SET SUBSTITUTE (R135). -/
def execSetSubstitute (tag : Byte) (payload : List Byte) (s : State) : Result :=
  concluded (plain 0x2B#8 (formOf laySubstitute)
    (fun fs y => setSubstitute (natAt fs 0) (intAt fs 1) (intAt fs 2) (intAt fs 3) (fieldAt fs 4) (fieldAt fs 5) y)
    tag payload s)

/-- SET VALVE LIMIT (R33). -/
def execSetValveLimit (tag : Byte) (payload : List Byte) (s : State) : Result :=
  concluded (plain 0x2C#8 (formOf layFigure) (fun fs y => setValveLimit (intAt fs 0) y) tag payload s)

end Sys2Proof.Machine
end

