-- ==== Sys2Proof/Machine/WorkRequests.lean ====
section
/-! DEFINITION. The meanings of the clock, movement and line requests, of the queries, TAKE NOTICE and the resets (rows
SET_TIME to UNKNOWN_KIND). -/

namespace Sys2Proof.Machine

/-! ### The clock -/

/-- SET TIME (R68 to R70). -/
def execSetTime (tag : Byte) (payload : List Byte) (s : State) : Result :=
  concluded (plain 0x30#8 (formOf layTime)
    (fun fs y =>
      let second := intAt fs 3
      if second < 0 then (y, invalid ((timeField (natAt fs 0) (natAt fs 1) (natAt fs 2) 0).getD 4))
      else setTime (natAt fs 0) (natAt fs 1) (natAt fs 2) second.toNat y) tag payload s)

/-- STOP CLOCK (R71). -/
def execStopClock (tag : Byte) (payload : List Byte) (s : State) : Result :=
  concluded (plain 0x31#8 (formOf []) (fun _ y => (stopClock y, okAnswer)) tag payload s)

/-- FORCE DAY (R73). -/
def execForceDay (tag : Byte) (payload : List Byte) (s : State) : Result :=
  concluded (operational 0x32#8 (formOf layForce)
    (fun fs y => forceDay (flagAt fs 0) (if flagAt fs 1 then .rest else .working) y) tag payload s)

/-! ### Movement -/

/-- WHEN (R166). -/
def execWhen (tag : Byte) (payload : List Byte) (s : State) : Result :=
  concluded (takeQualifier 0x40#8 tag payload (formOf layWhen payload)
    (fun fs => .whenTravel (natAt fs 0) (intAt fs 1 == 0) (intAt fs 2)) s)

/-- The qualifier of an UNTIL request: TRAVEL 0, STOCK 1, PERIOD 2 (R39, log 7). -/
def untilOf (fs : List Field) : Qualifier :=
  if intAt fs 0 = 0 then .untilTravel (intAt fs 1)
  else if intAt fs 0 = 1 then .untilStock (intAt fs 1)
  else .untilPeriod (natAt fs 1)

/-- UNTIL (R166). -/
def execUntil (tag : Byte) (payload : List Byte) (s : State) : Result :=
  concluded (takeQualifier 0x41#8 tag payload (formUntil payload) untilOf s)

/-- An order request: the staged qualifiers go to MVS with it, and no dropped mark is set (R40, R167). -/
def orderRequest (kind : Byte) (k : OrderKind) (tag : Byte) (payload : List Byte) (s : State) : State :=
  takeRequest kind tag payload (formOf layOrder payload) true none
    (fun staged _ fs y => if y.isCommitted then takeOrder (askOf k staged fs) y else (y, refuse .notCommitted)) s

/-- FILL (R40). -/
def execFill (tag : Byte) (payload : List Byte) (s : State) : Result := concluded (orderRequest 0x42#8 .fill tag payload s)

/-- DRAW (R40). -/
def execDraw (tag : Byte) (payload : List Byte) (s : State) : Result := concluded (orderRequest 0x43#8 .draw tag payload s)

/-- FLOAT (R40). -/
def execFloat (tag : Byte) (payload : List Byte) (s : State) : Result := concluded (orderRequest 0x44#8 .float tag payload s)

/-- CANCEL (R53). -/
def execCancel (tag : Byte) (payload : List Byte) (s : State) : Result :=
  concluded (operational 0x45#8 (formOf layNumber) (fun fs y => cancelOrder (natAt fs 0) y) tag payload s)

/-- COUPLE (R55). -/
def execCouple (tag : Byte) (payload : List Byte) (s : State) : Result :=
  concluded (operational 0x46#8 (formOf layObject) (fun fs y => couplePair (natAt fs 0) y) tag payload s)

/-- UNCOUPLE (R56). -/
def execUncouple (tag : Byte) (payload : List Byte) (s : State) : Result :=
  concluded (operational 0x47#8 (formOf layObject) (fun fs y => uncouplePair (natAt fs 0) y) tag payload s)

/-- SHUT HOLDER (R54). -/
def execShutHolder (tag : Byte) (payload : List Byte) (s : State) : Result :=
  concluded (operational 0x48#8 (formOf layObject) (fun fs y => shutHolder (natAt fs 0) y) tag payload s)

/-- TRIP (R60). -/
def execTrip (tag : Byte) (payload : List Byte) (s : State) : Result :=
  concluded (operational 0x49#8 (formOf []) (fun _ y => tripRequest y) tag payload s)

/-- CLEAR TRIP (R63). -/
def execClearTrip (tag : Byte) (payload : List Byte) (s : State) : Result :=
  concluded (operational 0x4A#8 (formOf []) (fun _ y => clearTrip y) tag payload s)

/-! ### The line -/

/-- LINE RESET (R131). -/
def execLineReset (tag : Byte) (payload : List Byte) (s : State) : Result :=
  concluded (operational 0x50#8 (formOf []) (fun _ y => (lineReset y, okAnswer)) tag payload s)

/-- LOAD OUTSTATION (R130). -/
def execLoadOutstation (tag : Byte) (payload : List Byte) (s : State) : Result :=
  concluded (operational 0x51#8 (formOf layLoad) (fun fs y => loadRequest (natAt fs 0) (intAt fs 1) (intAt fs 2) y)
    tag payload s)

/-! ### Queries -/

/-- READ STATUS (R171). -/
def execReadStatus (tag : Byte) (payload : List Byte) (s : State) : Result :=
  concluded (takeRequest 0x60#8 tag payload (formOf [] payload) false none
    (fun _ l _ y => (y, .answer .none (statusData l y))) s)

/-- READ HOLDER (R29). -/
def execReadHolder (tag : Byte) (payload : List Byte) (s : State) : Result :=
  concluded (query 0x61#8 (formOf layObject) (fun fs y => readHolder (natAt fs 0) y) tag payload s)

/-- READ ORDERS (R39). -/
def execReadOrders (tag : Byte) (payload : List Byte) (s : State) : Result :=
  concluded (query 0x62#8 (formOf []) (fun _ y => readOrders y) tag payload s)

/-- READ DISTRICT (R81). -/
def execReadDistrict (tag : Byte) (payload : List Byte) (s : State) : Result :=
  concluded (query 0x63#8 (formOf layObject) (fun fs y => readDistrict (natAt fs 0) y) tag payload s)

/-- READ OUTSTATION (R118). -/
def execReadOutstation (tag : Byte) (payload : List Byte) (s : State) : Result :=
  concluded (query 0x64#8 (formOf layObject) (fun fs y => readOutstation (natAt fs 0) y) tag payload s)

/-- READ QUANTITY (R134). -/
def execReadQuantity (tag : Byte) (payload : List Byte) (s : State) : Result :=
  concluded (query 0x65#8 (formOf layObject) (fun fs y => readQuantity (natAt fs 0) y) tag payload s)

/-- READ PERIOD (R143). -/
def execReadPeriod (tag : Byte) (payload : List Byte) (s : State) : Result :=
  concluded (query 0x66#8 (formOf layPeriod) (fun fs y => readPeriod (natAt fs 0) (natAt fs 1) y) tag payload s)

/-- READ DAY (R158). -/
def execReadDay (tag : Byte) (payload : List Byte) (s : State) : Result :=
  concluded (query 0x67#8 (formOf layDay) (fun fs y => readDay (natAt fs 0) (flagAt fs 1) y) tag payload s)

/-- READ DAY BOOK (R157). -/
def execReadDayBook (tag : Byte) (payload : List Byte) (s : State) : Result :=
  concluded (plain 0x68#8 (formOf layBook) (fun fs y => readDayBook (natAt fs 0) (flagAt fs 1) (flagAt fs 2) y)
    tag payload s)

/-! ### Notices, resets, unknown kinds -/

/-- TAKE NOTICE (R170). -/
def execTakeNotice (tag : Byte) (payload : List Byte) (s : State) : Result :=
  concluded (plain 0x70#8 (formOf []) (fun _ y => takeNotice y) tag payload s)

/-- RESTART (R178): the number of orders in the list is the datum of RESTARTED. -/
def execRestart (tag : Byte) (payload : List Byte) (s : State) : Result :=
  concluded (takeRequest 0x7E#8 tag payload (formOf [] payload) false (some (.warmRestart s.yard.mvs.orders.length))
    (fun _ _ _ y => (y, okAnswer)) s)

/-- COLD START (R178). -/
def execColdStart (tag : Byte) (payload : List Byte) (s : State) : Result :=
  concluded (takeRequest 0x7F#8 tag payload (formOf [] payload) false (some .coldStart) (fun _ _ _ y => (y, okAnswer)) s)

/-- The kinds of the catalogue (R171). -/
def catalogued (kind : Byte) : Bool :=
  let k := kind.toNat
  (0x10 ≤ k && k ≤ 0x19) || (0x20 ≤ k && k ≤ 0x2C) || (0x30 ≤ k && k ≤ 0x32) || (0x40 ≤ k && k ≤ 0x4A)
    || k == 0x50 || k == 0x51 || (0x60 ≤ k && k ≤ 0x68) || k == 0x70 || k == 0x7E || k == 0x7F

/-- UNKNOWN_KIND (R162): a kind that is not in the catalogue; with a kind that is, the event has no occasion. -/
def execUnknownKind (kind tag : Byte) (payload : List Byte) (s : State) : Result :=
  concluded (if catalogued kind then s
    else takeRequest kind tag payload (.ok []) false none (fun _ _ _ y => (y, refuse .unknownKind)) s)

end Sys2Proof.Machine
end

