-- ==== Sys2Proof/Machine/Events.lean ====
section
/-! DEFINITION. The meanings of the events: the host link, the supply and the pins, the clock, the correction unit, the
timers and the yard line (rows REQUEST_FRAME to LINE_RETURNS_TO_MARK). Without power the controller does no work (R176):
only the pins' levels follow. An event whose occasion does not stand in the state changes nothing (log 3). -/

namespace Sys2Proof.Machine

/-- The work of an event while the part is powered (R176). -/
def whilePowered (f : Yard → Yard) (s : State) : State := if s.powered then { s with yard := f s.yard } else s

/-! ### The host link -/

/-- REQUEST_FRAME (R161, R163). -/
def execRequestFrame (bytes : List Byte) (s : State) : Result := concluded (if s.powered then frameArrives bytes s else s)

/-- FRAME_GAP (R161). -/
def execFrameGap (s : State) : Result := concluded (if s.powered then frameGapEvent s else s)

/-- ANSWER_SENT (R163, R178). -/
def execAnswerSent (s : State) : Result := concluded (if s.powered then answerGone s else s)

/-- HOST_LINK_CHARACTER (R161). -/
def execHostLinkCharacter (moment : Nat) (b : Byte) (s : State) : Result :=
  concluded (if s.powered then hostCharacter moment b s else s)

/-! ### The supply and the pins -/

/-- POWER_UP (R176, R177). -/
def execPowerUp (batteryHeld : Bool) (s : State) : Result := concluded (powerUp batteryHeld s)

/-- POWER_FAIL (R175, R176). -/
def execPowerFail (storeTorn : Bool) (s : State) : Result := concluded (if s.powered then powerFail storeTorn s else s)

/-- YARD_TRIP_ASSERTED (R59). -/
def execYardTripAsserted (moment : Nat) (s : State) : Result :=
  concluded (if s.powered then { s with yard := tripAsserted moment s.yard }
    else { s with yard := { s.yard with tripPin := true } })

/-- YARD_TRIP_RELEASED (R59). -/
def execYardTripReleased (s : State) : Result :=
  concluded (if s.powered then { s with yard := tripReleased s.yard }
    else { s with yard := { s.yard with tripPin := false } })

/-- YARD_TRIP_WATCH_EXPIRY (R59). -/
def execYardTripWatchExpiry (s : State) : Result := concluded (whilePowered tripWatchOver s)

/-! ### The clock -/

/-- CLOCK_SECOND (R66). -/
def execClockSecond (s : State) : Result := concluded (whilePowered clockSecond s)

/-- PERIOD_END (R66). -/
def execPeriodEnd (s : State) : Result := concluded (whilePowered periodEnd s)

/-- UNSET_HOLD_TICK (R138). -/
def execUnsetHoldTick (s : State) : Result := concluded (whilePowered holdTick s)

/-! ### The correction unit -/

/-- STOCK_COMPUTATION_RESULT (R23). -/
def execStockComputationResult (h : Holder) (s : State) : Result := concluded (whilePowered (stockBack h) s)

/-- CLOSING_STOCK_RESULT (R25). -/
def execClosingStockResult (h : Holder) (s : State) : Result := concluded (whilePowered (closingBack h) s)

/-- METER_VOLUME_RESULT (R148). -/
def execMeterVolumeResult (m : Meter) (period : Nat) (s : State) : Result := concluded (whilePowered (meterResult m period) s)

/-- REMAINDER_RESULT (R153). -/
def execRemainderResult (m : Meter) (s : State) : Result := concluded (whilePowered (remainderBack m) s)

/-! ### Timers -/

/-- VALVE_TIMER_EXPIRY (R37). -/
def execValveTimerExpiry (h : Holder) (side : Side) (s : State) : Result := concluded (whilePowered (valveTimerOver ⟨h, side⟩) s)

/-- BOOSTER_RUN_UP_EXPIRY (R90, R92). -/
def execBoosterRunUpExpiry (d : District) (s : State) : Result := concluded (whilePowered (runUpExpiry d) s)

/-- ADOPTION_WAIT_EXPIRY (R94). -/
def execAdoptionWaitExpiry (d : District) (s : State) : Result := concluded (whilePowered (adoptionExpiry d) s)

/-- SCAN_CYCLE_START (R123). -/
def execScanCycleStart (s : State) : Result := concluded (whilePowered intervalOver s)

/-- SLEEPER_POLL_WAIT_EXPIRY (R122). -/
def execSleeperPollWaitExpiry (s : State) : Result := concluded (whilePowered sleepOver s)

/-! ### The yard line -/

/-- GUARD_EXPIRY (R98). -/
def execGuardExpiry (s : State) : Result := concluded (whilePowered guardExpiry s)

/-- FRAME_SENT (R110). -/
def execFrameSent (s : State) : Result := concluded (whilePowered frameSent s)

/-- BREAK_SENT (R99). -/
def execBreakSent (s : State) : Result := concluded (whilePowered breakSent s)

/-- REPLY_WINDOW_EXPIRY (R110). -/
def execReplyWindowExpiry (s : State) : Result := concluded (whilePowered windowExpiry s)

/-- REPLY_START (R110). -/
def execReplyStart (moment : Nat) (s : State) : Result := concluded (whilePowered (replyStart moment) s)

/-- REPLY_HEADER_RECEIVED (R111). -/
def execReplyHeaderReceived (moment : Nat) (b1 b2 check : Byte) (s : State) : Result :=
  concluded (whilePowered (replyHeader moment b1 b2 check) s)

/-- REPLY_COMPLETE (R111). -/
def execReplyComplete (moment : Nat) (bytes : List Byte) (s : State) : Result :=
  concluded (whilePowered (replyComplete moment bytes) s)

/-- REPLY_DEADLINE_EXPIRY (R110). -/
def execReplyDeadlineExpiry (s : State) : Result := concluded (whilePowered deadlineExpiry s)

/-- STOP_BIT_AT_SPACE (R110). -/
def execStopBitAtSpace (moment : Nat) (s : State) : Result := concluded (whilePowered (stopBit moment) s)

/-- DRAIN_END (R111). -/
def execDrainEnd (s : State) : Result := concluded (whilePowered drainEnd s)

/-- DRAIN_TIMEOUT (R111). -/
def execDrainTimeout (s : State) : Result := concluded (whilePowered drainTimeout s)

/-- LINE_HELD (R101). -/
def execLineHeld (s : State) : Result := concluded (whilePowered lineHeld s)

/-- LINE_HELD_RELEASE (R101). -/
def execLineHeldRelease (s : State) : Result := concluded (whilePowered heldRelease s)

/-- LINE_GOES_TO_SPACE (R98, R101). -/
def execLineGoesToSpace (moment : Nat) (s : State) : Result :=
  concluded (if s.powered then { s with yard := goesToSpace moment s.yard }
    else { s with yard := { s.yard with lineSpace := true } })

/-- LINE_RETURNS_TO_MARK (R98, R101). -/
def execLineReturnsToMark (moment : Nat) (s : State) : Result :=
  concluded (if s.powered then { s with yard := returnsToMark moment s.yard }
    else { s with yard := { s.yard with lineSpace := false } })

end Sys2Proof.Machine
end

