-- ==== Sys2Proof/Machine/Dispatch.lean ====
section
/-! DEFINITION. Which meaning a command has: one arm per row of spec/opcode_table.json, in the table's order. -/

namespace Sys2Proof.Machine

def exec (i : Instr) (s : State) : Host.Outcome State Fault Refusal :=
  match i with
  | .holder tag payload => Sys2Proof.Machine.execHolder tag payload s
  | .lift tag payload => Sys2Proof.Machine.execLift tag payload s
  | .vapourTable tag payload => Sys2Proof.Machine.execVapourTable tag payload s
  | .district tag payload => Sys2Proof.Machine.execDistrict tag payload s
  | .outstation tag payload => Sys2Proof.Machine.execOutstation tag payload s
  | .point tag payload => Sys2Proof.Machine.execPoint tag payload s
  | .bind tag payload => Sys2Proof.Machine.execBind tag payload s
  | .lineSettings tag payload => Sys2Proof.Machine.execLineSettings tag payload s
  | .commit tag payload => Sys2Proof.Machine.execCommit tag payload s
  | .recommission tag payload => Sys2Proof.Machine.execRecommission tag payload s
  | .setHolderLimits tag payload => Sys2Proof.Machine.execSetHolderLimits tag payload s
  | .setProfile tag payload => Sys2Proof.Machine.execSetProfile tag payload s
  | .setPeak tag payload => Sys2Proof.Machine.execSetPeak tag payload s
  | .setTrim tag payload => Sys2Proof.Machine.execSetTrim tag payload s
  | .setFeed tag payload => Sys2Proof.Machine.execSetFeed tag payload s
  | .setLag tag payload => Sys2Proof.Machine.execSetLag tag payload s
  | .setDayPattern tag payload => Sys2Proof.Machine.execSetDayPattern tag payload s
  | .setPeriodMark tag payload => Sys2Proof.Machine.execSetPeriodMark tag payload s
  | .setCv tag payload => Sys2Proof.Machine.execSetCv tag payload s
  | .setBalanceLimit tag payload => Sys2Proof.Machine.execSetBalanceLimit tag payload s
  | .setScan tag payload => Sys2Proof.Machine.execSetScan tag payload s
  | .setSubstitute tag payload => Sys2Proof.Machine.execSetSubstitute tag payload s
  | .setValveLimit tag payload => Sys2Proof.Machine.execSetValveLimit tag payload s
  | .setTime tag payload => Sys2Proof.Machine.execSetTime tag payload s
  | .stopClock tag payload => Sys2Proof.Machine.execStopClock tag payload s
  | .forceDay tag payload => Sys2Proof.Machine.execForceDay tag payload s
  | .whenReq tag payload => Sys2Proof.Machine.execWhen tag payload s
  | .untilReq tag payload => Sys2Proof.Machine.execUntil tag payload s
  | .fill tag payload => Sys2Proof.Machine.execFill tag payload s
  | .draw tag payload => Sys2Proof.Machine.execDraw tag payload s
  | .floatReq tag payload => Sys2Proof.Machine.execFloat tag payload s
  | .cancel tag payload => Sys2Proof.Machine.execCancel tag payload s
  | .couple tag payload => Sys2Proof.Machine.execCouple tag payload s
  | .uncouple tag payload => Sys2Proof.Machine.execUncouple tag payload s
  | .shutHolder tag payload => Sys2Proof.Machine.execShutHolder tag payload s
  | .trip tag payload => Sys2Proof.Machine.execTrip tag payload s
  | .clearTrip tag payload => Sys2Proof.Machine.execClearTrip tag payload s
  | .lineReset tag payload => Sys2Proof.Machine.execLineReset tag payload s
  | .loadOutstation tag payload => Sys2Proof.Machine.execLoadOutstation tag payload s
  | .readStatus tag payload => Sys2Proof.Machine.execReadStatus tag payload s
  | .readHolder tag payload => Sys2Proof.Machine.execReadHolder tag payload s
  | .readOrders tag payload => Sys2Proof.Machine.execReadOrders tag payload s
  | .readDistrict tag payload => Sys2Proof.Machine.execReadDistrict tag payload s
  | .readOutstation tag payload => Sys2Proof.Machine.execReadOutstation tag payload s
  | .readQuantity tag payload => Sys2Proof.Machine.execReadQuantity tag payload s
  | .readPeriod tag payload => Sys2Proof.Machine.execReadPeriod tag payload s
  | .readDay tag payload => Sys2Proof.Machine.execReadDay tag payload s
  | .readDayBook tag payload => Sys2Proof.Machine.execReadDayBook tag payload s
  | .takeNotice tag payload => Sys2Proof.Machine.execTakeNotice tag payload s
  | .restart tag payload => Sys2Proof.Machine.execRestart tag payload s
  | .coldStart tag payload => Sys2Proof.Machine.execColdStart tag payload s
  | .unknownKind kind tag payload => Sys2Proof.Machine.execUnknownKind kind tag payload s
  | .requestFrame bytes => Sys2Proof.Machine.execRequestFrame bytes s
  | .frameGap => Sys2Proof.Machine.execFrameGap s
  | .answerSent => Sys2Proof.Machine.execAnswerSent s
  | .powerUp batteryHeld => Sys2Proof.Machine.execPowerUp batteryHeld s
  | .powerFail storeTorn => Sys2Proof.Machine.execPowerFail storeTorn s
  | .yardTripAsserted moment => Sys2Proof.Machine.execYardTripAsserted moment s
  | .yardTripReleased => Sys2Proof.Machine.execYardTripReleased s
  | .yardTripWatchExpiry => Sys2Proof.Machine.execYardTripWatchExpiry s
  | .clockSecond => Sys2Proof.Machine.execClockSecond s
  | .periodEnd => Sys2Proof.Machine.execPeriodEnd s
  | .stockComputationResult h => Sys2Proof.Machine.execStockComputationResult h s
  | .closingStockResult h => Sys2Proof.Machine.execClosingStockResult h s
  | .meterVolumeResult m period => Sys2Proof.Machine.execMeterVolumeResult m period s
  | .remainderResult m => Sys2Proof.Machine.execRemainderResult m s
  | .valveTimerExpiry h side => Sys2Proof.Machine.execValveTimerExpiry h side s
  | .boosterRunUpExpiry d => Sys2Proof.Machine.execBoosterRunUpExpiry d s
  | .adoptionWaitExpiry d => Sys2Proof.Machine.execAdoptionWaitExpiry d s
  | .scanCycleStart => Sys2Proof.Machine.execScanCycleStart s
  | .sleeperPollWaitExpiry => Sys2Proof.Machine.execSleeperPollWaitExpiry s
  | .unsetHoldTick => Sys2Proof.Machine.execUnsetHoldTick s
  | .guardExpiry => Sys2Proof.Machine.execGuardExpiry s
  | .frameSent => Sys2Proof.Machine.execFrameSent s
  | .breakSent => Sys2Proof.Machine.execBreakSent s
  | .replyWindowExpiry => Sys2Proof.Machine.execReplyWindowExpiry s
  | .replyStart moment => Sys2Proof.Machine.execReplyStart moment s
  | .replyHeaderReceived moment b1 b2 check => Sys2Proof.Machine.execReplyHeaderReceived moment b1 b2 check s
  | .replyComplete moment bytes => Sys2Proof.Machine.execReplyComplete moment bytes s
  | .replyDeadlineExpiry => Sys2Proof.Machine.execReplyDeadlineExpiry s
  | .stopBitAtSpace moment => Sys2Proof.Machine.execStopBitAtSpace moment s
  | .drainEnd => Sys2Proof.Machine.execDrainEnd s
  | .drainTimeout => Sys2Proof.Machine.execDrainTimeout s
  | .lineHeld => Sys2Proof.Machine.execLineHeld s
  | .lineHeldRelease => Sys2Proof.Machine.execLineHeldRelease s
  | .hostLinkCharacter moment b => Sys2Proof.Machine.execHostLinkCharacter moment b s
  | .lineGoesToSpace moment => Sys2Proof.Machine.execLineGoesToSpace moment s
  | .lineReturnsToMark moment => Sys2Proof.Machine.execLineReturnsToMark moment s

end Sys2Proof.Machine
end

