-- ==== Sys2Proof/WellFormed.lean ====
section
/-! DEFINITION. Which commands are well formed: those the host link and the yard line can carry (10.1, 06 section 6.5). A
meaning answers for every command, the ill-formed too; this test says which ones the lines can bring. -/

namespace Sys2Proof

open Sys2Proof.Machine

/-- The payload of a request frame holds at most 24 bytes (10.1). -/
def payloadFits (payload : List Byte) : Bool := decide (payload.length ≤ 24)

/-- The characters of a request frame up to the one that completes it, or up to a length byte that discards it (R161). -/
def frameFits : List Byte → Bool
  | [a, n] => a == 0x01#8 && (decide (n.toNat < 2) || decide (26 < n.toNat))
  | a :: n :: rest => a == 0x01#8 && decide (2 ≤ n.toNat) && decide (n.toNat ≤ 26) && decide (rest.length = n.toNat + 2)
  | _ => false

/-- The kind, tag and payload of a command that is a host request, with the kind codes of the catalogue (R171). -/
def Instr.request : Instr → Option (Byte × Byte × List Byte)
  | .holder t p => some (0x10#8, t, p)
  | .lift t p => some (0x11#8, t, p)
  | .vapourTable t p => some (0x12#8, t, p)
  | .district t p => some (0x13#8, t, p)
  | .outstation t p => some (0x14#8, t, p)
  | .point t p => some (0x15#8, t, p)
  | .bind t p => some (0x16#8, t, p)
  | .lineSettings t p => some (0x17#8, t, p)
  | .commit t p => some (0x18#8, t, p)
  | .recommission t p => some (0x19#8, t, p)
  | .setHolderLimits t p => some (0x20#8, t, p)
  | .setProfile t p => some (0x21#8, t, p)
  | .setPeak t p => some (0x22#8, t, p)
  | .setTrim t p => some (0x23#8, t, p)
  | .setFeed t p => some (0x24#8, t, p)
  | .setLag t p => some (0x25#8, t, p)
  | .setDayPattern t p => some (0x26#8, t, p)
  | .setPeriodMark t p => some (0x27#8, t, p)
  | .setCv t p => some (0x28#8, t, p)
  | .setBalanceLimit t p => some (0x29#8, t, p)
  | .setScan t p => some (0x2A#8, t, p)
  | .setSubstitute t p => some (0x2B#8, t, p)
  | .setValveLimit t p => some (0x2C#8, t, p)
  | .setTime t p => some (0x30#8, t, p)
  | .stopClock t p => some (0x31#8, t, p)
  | .forceDay t p => some (0x32#8, t, p)
  | .whenReq t p => some (0x40#8, t, p)
  | .untilReq t p => some (0x41#8, t, p)
  | .fill t p => some (0x42#8, t, p)
  | .draw t p => some (0x43#8, t, p)
  | .floatReq t p => some (0x44#8, t, p)
  | .cancel t p => some (0x45#8, t, p)
  | .couple t p => some (0x46#8, t, p)
  | .uncouple t p => some (0x47#8, t, p)
  | .shutHolder t p => some (0x48#8, t, p)
  | .trip t p => some (0x49#8, t, p)
  | .clearTrip t p => some (0x4A#8, t, p)
  | .lineReset t p => some (0x50#8, t, p)
  | .loadOutstation t p => some (0x51#8, t, p)
  | .readStatus t p => some (0x60#8, t, p)
  | .readHolder t p => some (0x61#8, t, p)
  | .readOrders t p => some (0x62#8, t, p)
  | .readDistrict t p => some (0x63#8, t, p)
  | .readOutstation t p => some (0x64#8, t, p)
  | .readQuantity t p => some (0x65#8, t, p)
  | .readPeriod t p => some (0x66#8, t, p)
  | .readDay t p => some (0x67#8, t, p)
  | .readDayBook t p => some (0x68#8, t, p)
  | .takeNotice t p => some (0x70#8, t, p)
  | .restart t p => some (0x7E#8, t, p)
  | .coldStart t p => some (0x7F#8, t, p)
  | .unknownKind k t p => some (k, t, p)
  | .requestFrame _ => none
  | .frameGap => none
  | .answerSent => none
  | .powerUp _ => none
  | .powerFail _ => none
  | .yardTripAsserted _ => none
  | .yardTripReleased => none
  | .yardTripWatchExpiry => none
  | .clockSecond => none
  | .periodEnd => none
  | .stockComputationResult _ => none
  | .closingStockResult _ => none
  | .meterVolumeResult _ _ => none
  | .remainderResult _ => none
  | .valveTimerExpiry _ _ => none
  | .boosterRunUpExpiry _ => none
  | .adoptionWaitExpiry _ => none
  | .scanCycleStart => none
  | .sleeperPollWaitExpiry => none
  | .unsetHoldTick => none
  | .guardExpiry => none
  | .frameSent => none
  | .breakSent => none
  | .replyWindowExpiry => none
  | .replyStart _ => none
  | .replyHeaderReceived _ _ _ _ => none
  | .replyComplete _ _ => none
  | .replyDeadlineExpiry => none
  | .stopBitAtSpace _ => none
  | .drainEnd => none
  | .drainTimeout => none
  | .lineHeld => none
  | .lineHeldRelease => none
  | .hostLinkCharacter _ _ => none
  | .lineGoesToSpace _ => none
  | .lineReturnsToMark _ => none

/-- The test of an event's operands. -/
def Instr.eventFits : Instr → Bool
  | .requestFrame bytes => frameFits bytes
  | .meterVolumeResult _ period => decide (period ≤ 95)
  | .replyComplete _ bytes => decide (3 ≤ bytes.length) && decide (bytes.length ≤ 34)
  | .unknownKind kind _ _ => !catalogued kind
  | _ => true

/-- A well-formed command: a request whose payload fits its frame, an unknown kind that is unknown, an event whose
operands the lines can bring. -/
def Instr.wellFormed (i : Instr) : Bool :=
  i.eventFits &&
    match i.request with
    | some r => payloadFits r.2.2
    | none => true

end Sys2Proof
end

