-- ==== Sys2Proof/Safety.lean ====
section
/-! DEFINITION. The words the statements are written in: a request that stands at the front of the link, the answer it
gets, what a request frame is, and what a lawful state is (the bounds that the manual gives its lists and counters). -/

namespace Sys2Proof.Machine

/-! ### A request and its answer (R163, R164) -/

/-- A request stands next to be taken: the part is powered, and every request before it in the queue is taken. -/
structure Front (s : State) (r : Request) (before after : List Request) : Prop where
  on : s.powered = true
  queue : s.link.queue = before ++ r :: after
  untaken : r.taken = false
  earlier : ∀ b ∈ before, b.taken = true

/-- The state after a request that is no qualifier and no order is taken (R164, R166, R167): its owner has made the yard
y and decided d; the request holds its place in the queue, the staging slot is empty, and the answer waits to be sent, with
the dropped mark when qualifiers stood in the slot. -/
def State.answered (s : State) (r : Request) (before after : List Request) (y : Yard) (d : Decision) : State :=
  { s with
    yard := y
    link := { s.link with
      queue := before ++ { r with taken := true } :: after
      staging := []
      answers := s.link.answers ++ [⟨r.kind, r.tag, d, !s.link.staging.isEmpty, true, none⟩] } }

/-- The same for FILL, DRAW and FLOAT: the qualifiers go to MVS, so that no dropped mark is set (R167). -/
def State.ordered (s : State) (r : Request) (before after : List Request) (y : Yard) (d : Decision) : State :=
  { s with
    yard := y
    link := { s.link with
      queue := before ++ { r with taken := true } :: after
      staging := []
      answers := s.link.answers ++ [⟨r.kind, r.tag, d, false, true, none⟩] } }

/-- The same for WHEN and UNTIL: the staging slot becomes what is given (R166). -/
def State.staged (s : State) (r : Request) (before after : List Request) (q : List Qualifier) (d : Decision) : State :=
  { s with
    link := { s.link with
      queue := before ++ { r with taken := true } :: after
      staging := q
      answers := s.link.answers ++ [⟨r.kind, r.tag, d, false, true, none⟩] } }

/-- A request c of a kind, its payload read as the fields fs, is answered d over the yard y and leaves the yard y': so it is
in every state with that yard in which it stands at the front, whatever its tag. -/
def Gives (kind : Byte) (c : Byte → List Byte → Instr) (form : List Byte → Form) (fs : List Field) (y y' : Yard)
    (d : Decision) : Prop :=
  ∀ (s : State) (tag : Byte) (p : List Byte) (before after : List Request),
    s.yard = y → Front s ⟨kind, tag, p, false⟩ before after → form p = .ok fs →
      exec (c tag p) s = concluded (s.answered ⟨kind, tag, p, false⟩ before after y' d)


/-- A holder's accepted travel lies inside one of its cupping bands (R6). -/
def Yard.InBand (y : Yard) (h : Holder) : Prop :=
  ∃ t g, (y.hsu.holders.get h).travel.map (·.value) = some t ∧ y.yds.geometry.get h = some g ∧
    ∃ b ∈ g.bands, b.1 ≤ t ∧ t ≤ b.2

/-- The stock that an order of a holder looks at is q, of a status that is not UNKNOWN: the holder's own, or the sum of both of
its coupled pair (R28, R46, R57). -/
def Yard.StockKnown (y : Yard) (h : Holder) (q : Int) : Prop :=
  ∃ qs : List Int, ((y.mvs.worked h).map fun x => (y.hsu.holders.get x).stock) = qs.map some ∧
    (∀ x ∈ y.mvs.worked h, (y.hsu.holders.get x).status ≠ .unknown) ∧ q = qs.sum

/-- The present holders with no accepted travel, H1 to H6: no computation can be handed for one (R23, R24). -/
def Yard.travelless (y : Yard) : List Holder :=
  Holder.list.filter fun h => (y.yds.holders.get h).isSome && (y.hsu.holders.get h).travel.isNone

/-- No order that works a holder with no accepted travel is OPENING or RUNNING: a lost reading closes it (R45). -/
def Yard.TravellessAtRest (y : Yard) : Prop :=
  ∀ h ∈ y.travelless, ∀ o ∈ y.mvs.orders, h ∈ y.mvs.worked o.holder → o.state = .waiting ∨ o.state = .closing

/-- The yard with the standing assessment made for each such holder: its status is UNKNOWN, and the travel that MVS last read
none (R24, R29, R48). -/
def Yard.assessed (y : Yard) : Yard :=
  { y with
    hsu := { y.hsu with
      holders := y.travelless.foldl (fun t h => t.set h { t.get h with status := .unknown }) y.hsu.holders }
    mvs := { y.mvs with prevTravel := y.travelless.foldl (fun t h => t.set h none) y.mvs.prevTravel } }

/-- An OPENING or RUNNING order o, with the bound used valves of the holders it works and their points, can be shut without a
failure: its holder stands alone or leads the coupled pair whose holders it works (R57); each valve reports otherwise than SHUT,
has a point of its own for which no command waits, and the command list has room; for an order that draws no other order is
RUNNING, so that the drawing set is empty once it closes (R34, R49, R58). -/
structure Yard.CanShut (y : Yard) (before after : List Order) (o : Order) (vs : List (Valve × Point)) : Prop where
  committed : y.yds.desc = .committed
  listed : y.mvs.orders = before ++ o :: after
  numbers : ∀ x ∈ before ++ after, x.number ≠ o.number
  lead : y.mvs.isCoupled o.holder = true → o.holder.leads = true
  working : o.state = .opening ∨ o.state = .running
  used : vs.map (·.1) = (y.mvs.worked o.holder).flatMap fun h => o.kind.used.map fun side => ⟨h, side⟩
  bound : ∀ x ∈ vs, y.yds.bind.valve x.1 = some x.2
  reports : ∀ x ∈ vs, (y.mvs.valve x.1).reported ≠ .shut
  points : vs.Pairwise fun a b => a.2 ≠ b.2
  free : ∀ x ∈ vs, ∀ c ∈ y.scs.commands, ¬(c.outstation = x.2.outstation ∧ c.channel = x.2.channel)
  room : y.scs.commands.length + vs.length ≤ 32
  drawing : o.kind ≠ .fill → ∀ x ∈ before ++ after, x.state ≠ .running

/-- The command that puts a valve to a position (R34, R128). -/
def valveCommand (code : CmdCode) (x : Valve × Point) : Command :=
  ⟨x.2.outstation, x.2.channel, code, 0, .valve x.1, 0, false, false⟩

/-- The yard with that order in CLOSING for a reason, its used valves commanded SHUT and a command put for each (R49). -/
def Yard.toClosing (y : Yard) (before after : List Order) (o : Order) (vs : List (Valve × Point)) (reason : EndReason) :
    Yard :=
  { y with
    mvs := { vs.foldl (fun m x => m.setValve x.1 { m.valve x.1 with commanded := .shut, timer := .idle }) y.mvs with
      orders := before ++ { o with state := .closing, reason := some reason } :: after }
    scs := { y.scs with commands := y.scs.commands ++ vs.map (valveCommand .valveShut) } }

/-- A WAITING order o can activate without a failure, its used valves at the position p: its holder stands alone or leads the
coupled pair whose holders it works, it is the only order of its holder that is active or eligible, each holder worked has an
accepted travel short of the limits of its kind, the current period is not its UNTIL PERIOD, both valves of each report SHUT,
each bound used valve has a point of its own for which no command waits, the others are bound, and the command list has room
(R42, R43, R57). The position is CRACKED while a holder worked lies inside a cupping band and OPEN otherwise (R6, R43). -/
structure Yard.CanOpen (y : Yard) (before after : List Order) (o : Order) (p : Commanded) (vs : List (Valve × Point)) :
    Prop where
  committed : y.yds.desc = .committed
  listed : y.mvs.orders = before ++ o :: after
  numbers : ∀ x ∈ before ++ after, x.number ≠ o.number
  others : ∀ x ∈ before ++ after, x.holder = o.holder → x.state = .waiting ∧ x.eligible = false
  lead : y.mvs.isCoupled o.holder = true → o.holder.leads = true
  waiting : o.state = .waiting
  stands : ∀ h ∈ y.mvs.worked o.holder, ∃ t g, (y.hsu.holders.get h).travel.map (·.value) = some t ∧
    y.yds.geometry.get h = some g ∧ (o.kind.fills = true → t < g.topStop) ∧ (o.kind.draws = true → g.landing < t)
  position : (p = .cracked ∧ ∃ h ∈ y.mvs.worked o.holder, y.InBand h) ∨
    (p = .opened ∧ ∀ h ∈ y.mvs.worked o.holder, ¬y.InBand h)
  period : ∀ c, y.gdc.clock = some c → o.finish ≠ .untilPeriod c.period
  used : vs.map (·.1) = (y.mvs.worked o.holder).flatMap fun h => o.kind.used.map fun side => ⟨h, side⟩
  bound : ∀ x ∈ vs, y.yds.bind.valve x.1 = some x.2
  unused : ∀ h ∈ y.mvs.worked o.holder, ∀ side ∈ o.kind.unused, y.yds.bind.valve ⟨h, side⟩ ≠ none
  reports : ∀ h ∈ y.mvs.worked o.holder, ∀ side, (y.mvs.valve ⟨h, side⟩).reported = .shut
  points : vs.Pairwise fun a b => a.2 ≠ b.2
  free : ∀ x ∈ vs, ∀ c ∈ y.scs.commands, ¬(c.outstation = x.2.outstation ∧ c.channel = x.2.channel)
  room : y.scs.commands.length + vs.length ≤ 32

/-- A valve commanded a position, its timer IDLE (R34). -/
def Mvs.commandTo (p : Commanded) (m : Mvs) (v : Valve) : Mvs := m.setValve v { m.valve v with commanded := p, timer := .idle }

/-- A mark set or cleared for each of some holders. -/
def markAll (hs : List Holder) (b : Bool) (t : Holders Bool) : Holders Bool := hs.foldl (fun t h => t.set h b) t

/-- The yard with that order in OPENING: UNMANAGED and the shut pending mark of each holder worked cleared, its unused valves
commanded SHUT, its used valves commanded p and a command put for each (R43). -/
def Yard.toOpening (y : Yard) (before after : List Order) (o : Order) (p : Commanded) (vs : List (Valve × Point)) : Yard :=
  let hs := y.mvs.worked o.holder
  let shut := (hs.flatMap fun h => o.kind.unused.map fun side => (⟨h, side⟩ : Valve)).foldl (Mvs.commandTo .shut) y.mvs
  { y with
    mvs := { (vs.map (·.1)).foldl (Mvs.commandTo p) shut with
      unmanaged := markAll hs false y.mvs.unmanaged
      shutPending := markAll hs false y.mvs.shutPending
      orders := before ++ { o with state := .opening, eligible := false } :: after }
    scs := { y.scs with commands := y.scs.commands ++ vs.map (valveCommand p.cmdCode) } }

/-- Whether an entry is due for polling (R122, R125): a sleeper while UNKNOWN, LIVE, SUSPECT or WAKING, and while FAILED with
its woken mark set; another while UNKNOWN, LIVE or SUSPECT, and while FAILED with a failed wait of 0. -/
def Entry.isDue (e : Entry) : Prop :=
  match e.dyn.state with
  | .unknown | .live | .suspect => True
  | .waking => e.sleeper = true
  | .asleep => False
  | .failed => if e.sleeper = true then e.dyn.woken ≠ none else e.dyn.failedWait = 0

/-- The moment from which a due entry may be read: 1 s after the wake time of a WAKING or woken sleeper (R122). -/
def Entry.readFrom (e : Entry) : Nat :=
  if e.sleeper = true then
    match e.dyn.state with
    | .waking => e.dyn.wakeTime + 24000
    | .failed => e.dyn.woken.getD 0 + 24000
    | _ => 0
  else 0

/-- What the period mark test does after the period start of a step, the yard before the step being y and after it y', the clock
being RUNNING at c then: PERIOD MARK is raised, as the last deed of the step, when the period is the mark period of the day and
the mark has not been raised for that day; the mark raised for day is that day then, and else stands as it did (R77). -/
def Yard.MarkTested (y y' : Yard) (c : ClockTime) : Prop :=
  let marked := ∃ m, y.yds.periodMark = some m ∧ c.period = (if c.dayType = .rest then m + y.yds.lag else m) ∧
    c.period ≤ 95 ∧ y.gdc.markDay ≠ some c.day
  let before (q : Notices) := ∀ n ∈ q.queue, n.kind = .periodMark → n ∈ y.notices.queue
  (¬marked → y'.gdc.markDay = y.gdc.markDay ∧ before y'.notices) ∧
  (marked → y'.gdc.markDay = some c.day ∧ ∃ q : Notices, before q ∧
    y'.notices = q.raise .periodMark 0 ((c.period + 256 * c.dayType.code : Nat) : Int) (some c.day) (some c.period))

/-- An exchange waits for the line, behind those that wait already (R98). -/
def Yard.asking (y : Yard) (e : Exchange) : Yard :=
  { y with ylc := { y.ylc with waiting := y.ylc.waiting ++ [e] } }

/-- The same for FILL, DRAW and FLOAT with the qualifiers that stand in the staging slot. -/
def GivesOrder (kind : Byte) (c : Byte → List Byte → Instr) (fs : List Field) (staged : List Qualifier) (y y' : Yard)
    (d : Decision) : Prop :=
  ∀ (s : State) (tag : Byte) (p : List Byte) (before after : List Request),
    s.yard = y → s.link.staging = staged → Front s ⟨kind, tag, p, false⟩ before after → formOf layOrder p = .ok fs →
      exec (c tag p) s = concluded (s.ordered ⟨kind, tag, p, false⟩ before after y' d)

/-- The gauge pressure that corrects a meter: MAKE PRESS or the district's OUTLET PRESS (R148). -/
def pressSlot : Meter → Slot
  | .make => .makePress
  | .district d => .outletOf d

/-- The request codes and commands of the three order kinds (R171). -/
def orderRow : OrderKind → Byte × (Byte → List Byte → Instr)
  | .fill => (0x42#8, .fill)
  | .draw => (0x43#8, .draw)
  | .float => (0x44#8, .floatReq)

/-- The characters of a request frame: the start byte, the length, the kind, the tag, the payload, the check (R161). -/
def requestFrameOf (kind tag : Byte) (payload : List Byte) : List Byte :=
  let body := BitVec.ofNat 8 (payload.length + 2) :: kind :: tag :: payload
  0x01#8 :: body ++ crcBytes body

/-- What a reset that keeps the store leaves, the yard before it being y: of every item but the time base, the clock, the notices,
the accounts, the open record, the marker-awaited mark and the DAY marker owed, in which the two classes differ. The pins stand;
the description stands, the geometry formed again where it is COMMITTED (R5, R13); every HSU item is fresh (R31, log 49); MVS
keeps coupling and trip alone, and the YARD TRIP watch begins afresh with the input as it stands (R64); DGU keeps profile and
trim (R96); the line starts with the long break, and the line-held detector begins afresh with the line as it stands (R116, log
19); SCS keeps the fixed items of the roster (R132); QPR keeps the ring (R144); the cursor stands on the oldest entry (R160). The
count of free values stands (log 2); the working items to which the manual gives no value are the model's (log 11). -/
structure Yard.Restarted (y y' : Yard) : Prop where
  pins : y'.tripPin = y.tripPin ∧ y'.lineSpace = y.lineSpace
  draws : y'.freeDraws = y.freeDraws
  yds : y'.yds = { y.yds with geometry := y'.yds.geometry }
  geometry : ∀ h, y'.yds.geometry.get h = if y.yds.desc = .committed then (y.yds.holders.get h).map geometryOf else none
  holders : ∀ h, y'.hsu.holders.get h = ⟨none, none, none, 0, 0, none, .unknown, false, none, false, 0, 0⟩
  hand : y'.hsu.baro = none ∧ y'.hsu.stockJobs = [] ∧ y'.hsu.closingJobs = []
  valves : ∀ h, y'.mvs.inlets.get h = ⟨.none, .unknown, .idle⟩ ∧ y'.mvs.outlets.get h = ⟨.none, .unknown, .idle⟩ ∧
    y'.mvs.unmanaged.get h = false ∧ y'.mvs.shutPending.get h = false ∧ y'.mvs.prevTravel.get h = none
  movement : y'.mvs.orders = [] ∧ y'.mvs.coupled = y.mvs.coupled ∧ y'.mvs.tripped = y.mvs.tripped ∧
    y'.mvs.tripCause = y.mvs.tripCause
  watch : y'.mvs.watch = if y.tripPin = true then .running y'.now else .idle
  districts : ∀ d, y'.dgu.districts.get d = ⟨(y.dgu.districts.get d).profile, (y.dgu.districts.get d).trim, none, none, none,
    false, .none, none, .direct, .none, .unknown, .idle, false, 0, (y.yds.districts.get d).any (·.booster), .idle⟩
  available : y'.dgu.available = none
  line : y'.ylc = {
    line := .breaking, flight := none, waiting := [], timer := none
    detector := if y.lineSpace = true then some y'.now else none
    held := false, driving := !y.lineSpace, brk := some .long, began := y'.now, why := ⟨true, false, false⟩, again := false
    busy := y'.now, charTime := y.yds.line.rate.charTime }
  scan : y'.scs = {
    roster := y.scs.roster.map fun e =>
      { e with dyn := ⟨.unknown, 0, 0, none, 0, .unchecked, none, ⟨0, 0, 0, 0, 0, 0⟩, none, .none⟩ }
    commands := [], loads := [], cycle := 0, phase := .none, interval := 15, cycleStart := 0, pollStart := 0
    rotating := y.scs.roster.head?.map (·.address)
    toPoll := [], polling := none, retrying := false, sleepWait := none, probed := 0, shortCount := 0
    dayOwed := y'.scs.dayOwed, wakeDue := true, lastWake := none }
  quantities : ∀ q, y'.qpr.recs.get q = ⟨none, .none, none, 0, none, false, 0, none, 0, false⟩
  records : y'.qpr.ring = y.qpr.ring ∧ y'.qpr.polled = [] ∧ y'.qpr.holdFrom = y'.now
  cursor : y'.soa.cursor = 0

/-- The bytes of a point entry of VALUES: the channel in bits 0 and 1 of the first with the status in bits 2 and 3, then the value,
low byte first (10.6.3). -/
def PointEntry.bytes (x : PointEntry) : List Byte :=
  let status := match x.status with | .good => 0 | .suspect => 4 | .fault => 8
  BitVec.ofNat 8 (x.channel + status) :: leBytes 3 x.raw.toNat

/-- What a VALUES reply of an outstation, RESTARTED or not, makes of one point entry that is kept: the yard
before and after it being y and y'. The valve, booster or governor bound to the point has the report; the quantity whose primary
point it is, or whose standby point in want of a primary, takes a GOOD value, and lets another be; a register above 999,999 is
refused and counted; of a restarted outstation a register is the new base, with no delta and the entry flagged (R120, R136,
R140). -/
structure Yard.Takes (y y' : Yard) (e : Entry) (restarted : Bool) (x : PointEntry) : Prop where
  valve : e.points.get x.channel = some .valve → ∀ v, y.yds.bind.valve v = some ⟨e.address, x.channel⟩ →
    (x.status = .fault → (y'.mvs.valve v).reported = .fault) ∧
    (x.status ≠ .fault →
      [Reported.shut, .cracked, .opened, .moving, .fault][x.raw.toNat]? = some (y'.mvs.valve v).reported)
  booster : e.points.get x.channel = some .booster → ∀ d, y.yds.bind.booster.get d = some ⟨e.address, x.channel⟩ →
    (x.status = .fault → (y'.dgu.districts.get d).boosterRep = .fault) ∧
    (x.status ≠ .fault →
      [BoosterRep.stopped, .running, .fault][x.raw.toNat]? = some (y'.dgu.districts.get d).boosterRep)
  governor : e.points.get x.channel = some .governor → ∀ d, y.yds.bind.governor.get d = some ⟨e.address, x.channel⟩ →
    (y'.dgu.districts.get d).reported = some ((x.raw.toNat : Int), x.status)
  measure : e.points.get x.channel = some .measure → x.status = .good → ∀ q src, q.isMeter = false →
    y.yds.slotPresent q = true →
    (src = .live ∧ (y.yds.bind.slots.get q).primary = some ⟨e.address, x.channel⟩) ∨
      (src = .standby ∧ y.yds.bind.slots.get q = ⟨none, some ⟨e.address, x.channel⟩⟩) →
    (y'.qpr.recs.get q).value = some (clampSample y q x.raw.toInt) ∧ (y'.qpr.recs.get q).source = src ∧
      (y'.qpr.recs.get q).since = 0
  meter : e.points.get x.channel = some .meter → x.status = .good → x.raw.toNat ≤ 999999 → ∀ m,
    y.yds.slotPresent (meterSlot m) = true →
    (y.yds.bind.slots.get (meterSlot m)).primary = some ⟨e.address, x.channel⟩ →
    let r := y'.qpr.recs.get (meterSlot m)
    r.value = some (x.raw.toNat : Int) ∧ r.source = .live ∧ r.since = 0 ∧
    (y.qpr.current ≠ none ∨ restarted = true → r.base = some x.raw.toNat) ∧
    (restarted = true → ∀ rec, y.qpr.current = some rec → ∃ rec', y'.qpr.current = some rec' ∧
      (rec'.entries.get (meterSlot m)).restart = true ∧ (rec'.entries.get (meterSlot m)).estimated = true ∧
      (rec'.entries.get (meterSlot m)).deltas = (rec.entries.get (meterSlot m)).deltas)
  refused : e.points.get x.channel = some .meter → x.status = .good → 999999 < x.raw.toNat → ∀ m,
    y.yds.slotPresent (meterSlot m) = true →
    y.yds.bind.slots.get (meterSlot m) = ⟨some ⟨e.address, x.channel⟩, none⟩ →
    let r := y.qpr.recs.get (meterSlot m)
    r.candidate = none →
    (y'.qpr.recs.get (meterSlot m)).lastGood = r.lastGood ∧ (y'.qpr.recs.get (meterSlot m)).base = r.base ∧
      (y'.qpr.recs.get (meterSlot m)).clamps = if r.clamps < 65535 then r.clamps + 1 else r.clamps
  unread : x.status ≠ .good → ∀ q, y.yds.slotPresent q = true →
    y.yds.bind.slots.get q = ⟨some ⟨e.address, x.channel⟩, none⟩ → (y.qpr.recs.get q).candidate = none →
    (y'.qpr.recs.get q).lastGood = (y.qpr.recs.get q).lastGood ∧ (y'.qpr.recs.get q).base = (y.qpr.recs.get q).base ∧
      (y'.qpr.recs.get q).clamps = (y.qpr.recs.get q).clamps

/-- An entry of a reply is kept: its channel has a point described in the roster, and while the identity is MISMATCHED the last
IDENT did not report another point kind for the channel (R120). -/
def Entry.Keeps (e : Entry) (x : PointEntry) : Prop :=
  e.points.get x.channel ≠ none ∧
    (e.dyn.identity = .mismatched → ∀ f, e.dyn.fitted = some f → f.points.get x.channel = e.points.get x.channel)

/-- What an entry of a reply that is discarded leaves as it was: the reports of the valve, the booster and the governor bound to
its point, and the last good time, the base and the clamps of a quantity with no other point (R120). -/
structure Yard.Passes (y y' : Yard) (e : Entry) (x : PointEntry) : Prop where
  valve : ∀ v, y.yds.bind.valve v = some ⟨e.address, x.channel⟩ → (y'.mvs.valve v).reported = (y.mvs.valve v).reported
  booster : ∀ d, y.yds.bind.booster.get d = some ⟨e.address, x.channel⟩ →
    (y'.dgu.districts.get d).boosterRep = (y.dgu.districts.get d).boosterRep
  governor : ∀ d, y.yds.bind.governor.get d = some ⟨e.address, x.channel⟩ →
    (y'.dgu.districts.get d).reported = (y.dgu.districts.get d).reported
  quantity : ∀ q, y.yds.slotPresent q = true → y.yds.bind.slots.get q = ⟨some ⟨e.address, x.channel⟩, none⟩ →
    (y.qpr.recs.get q).candidate = none →
    (y'.qpr.recs.get q).lastGood = (y.qpr.recs.get q).lastGood ∧ (y'.qpr.recs.get q).base = (y.qpr.recs.get q).base ∧
      (y'.qpr.recs.get q).clamps = (y.qpr.recs.get q).clamps

/-- The code of a point kind as IDENT sends it, 0 for NONE (10.6.3). -/
def fittedCode : Option PointKind → Nat
  | none => 0
  | some .measure => 1
  | some .meter => 2
  | some .valve => 3
  | some .booster => 4
  | some .governor => 5

end Sys2Proof.Machine

namespace Sys2Proof

open Sys2Proof.Machine

/-- The form test of a command that is a request; the kinds that are not in the catalogue have none (R162, R173). -/
def Instr.form : Instr → Form
  | .holder _ p => formOf layHolder p
  | .lift _ p => formOf layLift p
  | .vapourTable _ p => formOf layVapour p
  | .district _ p => formOf layDistrict p
  | .outstation _ p => formOf layOutstation p
  | .point _ p => formOf layPoint p
  | .bind _ p => formOf layBind p
  | .lineSettings _ p => formOf layLine p
  | .commit _ p => formOf [] p
  | .recommission _ p => formOf [] p
  | .setHolderLimits _ p => formOf layLimits p
  | .setProfile _ p => formOf layProfile p
  | .setPeak _ p => formPeak p
  | .setTrim _ p => formOf layTrim p
  | .setFeed _ p => formFeed p
  | .setLag _ p => formOf layObject p
  | .setDayPattern _ p => formOf layPattern p
  | .setPeriodMark _ p => formOf layMark p
  | .setCv _ p => formOf layCv p
  | .setBalanceLimit _ p => formOf layFigure p
  | .setScan _ p => formOf layFigure p
  | .setSubstitute _ p => formOf laySubstitute p
  | .setValveLimit _ p => formOf layFigure p
  | .setTime _ p => formOf layTime p
  | .stopClock _ p => formOf [] p
  | .forceDay _ p => formOf layForce p
  | .whenReq _ p => formOf layWhen p
  | .untilReq _ p => formUntil p
  | .fill _ p => formOf layOrder p
  | .draw _ p => formOf layOrder p
  | .floatReq _ p => formOf layOrder p
  | .cancel _ p => formOf layNumber p
  | .couple _ p => formOf layObject p
  | .uncouple _ p => formOf layObject p
  | .shutHolder _ p => formOf layObject p
  | .trip _ p => formOf [] p
  | .clearTrip _ p => formOf [] p
  | .lineReset _ p => formOf [] p
  | .loadOutstation _ p => formOf layLoad p
  | .readStatus _ p => formOf [] p
  | .readHolder _ p => formOf layObject p
  | .readOrders _ p => formOf [] p
  | .readDistrict _ p => formOf layObject p
  | .readOutstation _ p => formOf layObject p
  | .readQuantity _ p => formOf layObject p
  | .readPeriod _ p => formOf layPeriod p
  | .readDay _ p => formOf layDay p
  | .readDayBook _ p => formOf layBook p
  | .takeNotice _ p => formOf [] p
  | .restart _ p => formOf [] p
  | .coldStart _ p => formOf [] p
  | _ => .ok []

/-- The movement requests that stage a qualifier (R166). -/
def Instr.qualifies : Instr → Bool
  | .whenReq _ _ => true
  | .untilReq _ _ => true
  | _ => false

/-- The fields of a WHEN or UNTIL payload spell this qualifier: a holder, a direction (0 above, 1 below) and a travel; or a
travel, a stock or a period under the kinds 0, 1 and 2 (R39; the codes are the model's, log 7). -/
def Instr.carries (i : Instr) (fs : List Field) (q : Qualifier) : Prop :=
  match i with
  | .whenReq _ _ =>
    ∃ (n : Nat) (above : Bool) (x : Int), fs = [some (n : Int), some (if above then 0 else 1), some x] ∧
      q = .whenTravel n above x
  | .untilReq _ _ =>
    (∃ x, fs = [some 0, some x] ∧ q = .untilTravel x) ∨ (∃ v, fs = [some 1, some v] ∧ q = .untilStock v) ∨
      (∃ n : Nat, fs = [some 2, some (n : Int)] ∧ q = .untilPeriod n)
  | _ => False

/-- The order requests, which take the staged qualifiers with them (R167). -/
def Instr.orders : Instr → Bool
  | .fill _ _ => true
  | .draw _ _ => true
  | .floatReq _ _ => true
  | _ => false

/-- The operational requests of R12. -/
def Instr.operational : Instr → Bool
  | .whenReq _ _ => true
  | .untilReq _ _ => true
  | .fill _ _ => true
  | .draw _ _ => true
  | .floatReq _ _ => true
  | .cancel _ _ => true
  | .couple _ _ => true
  | .uncouple _ _ => true
  | .shutHolder _ _ => true
  | .trip _ _ => true
  | .clearTrip _ _ => true
  | .loadOutstation _ _ => true
  | .lineReset _ _ => true
  | .forceDay _ _ => true
  | _ => false

/-- The structural description requests and COMMIT, which a COMMITTED description refuses (R1). -/
def Instr.structural : Instr → Bool
  | .holder _ _ => true
  | .lift _ _ => true
  | .district _ _ => true
  | .outstation _ _ => true
  | .point _ _ => true
  | .bind _ _ => true
  | .lineSettings _ _ => true
  | .commit _ _ => true
  | _ => false

end Sys2Proof

namespace Sys2Proof.Machine

/-! ### Lawful states -/

/-- The length byte and the characters of a frame in hand: none yet, or a length from 2 to 26 with fewer characters than
complete the frame (R161). -/
def Receiver.lawful : Receiver → Bool
  | .hunting => true
  | .inFrame [] _ => true
  | .inFrame (n :: rest) _ => decide (2 ≤ n.toNat) && decide (n.toNat ≤ 26) && decide (rest.length + 1 < n.toNat + 3)

/-- The host link within its bounds: at most four requests, at most two qualifiers, at most eight QUEUE FULL refusals, the
counts at most 65,535, the requests taken standing first in the queue, one answer for each of them, and every other answer a
QUEUE FULL refusal (R161, R163, R164, R166). -/
structure Link.Lawful (l : Link) : Prop where
  recv : l.recv.lawful = true
  counts : l.counts.length ≤ 65535 ∧ l.counts.gap ≤ 65535 ∧ l.counts.check ≤ 65535 ∧ l.counts.overrun ≤ 65535
  queue : l.queue.length ≤ 4
  staging : l.staging.length ≤ 2
  refusals : l.refusalsWaiting ≤ 8
  first : l.queue = l.queue.filter (·.taken) ++ l.queue.filter (fun r => !r.taken)
  places : ((l.answers.filter (·.place)).map fun a => (a.kind, a.tag))
    = (l.queue.filter (·.taken)).map fun r => (r.kind, r.tag)
  full : ∀ a ∈ l.answers, a.place = false → a.decision = .refuse .queueFull [.u8 0] ∧ a.asks = none

/-- The notice queue within its bounds: at most 32 notices, no two of one kind and object, each repeat count from 1 to 255,
the lost count at most 65,535 (R168). -/
structure Notices.Lawful (q : Notices) : Prop where
  length : q.queue.length ≤ 32
  distinct : q.queue.Pairwise fun a b => ¬(a.kind = b.kind ∧ a.object = b.object)
  repeats : ∀ n ∈ q.queue, 1 ≤ n.repeats ∧ n.repeats ≤ 255
  lost : q.lost ≤ 65535

/-- The order list within its bounds: at most 16 orders, no two of one number, at most one active for a holder, and none
of the follower of a coupled pair (R39, R42, R55, R57). -/
structure Mvs.Lawful (m : Mvs) : Prop where
  length : m.orders.length ≤ 16
  numbers : m.orders.Pairwise fun a b => a.number ≠ b.number
  single : m.orders.Pairwise fun a b => ¬(a.state.active = true ∧ b.state.active = true ∧ a.holder = b.holder)
  follower : ∀ o ∈ m.orders, ¬(m.role o.holder = .follower)

/-- The laws of the valves and of the trip, in the form that every step keeps: while the description is OPEN there is no order;
a valve commanded CRACKED or OPEN is bound, and an OPENING or RUNNING order that works its holder uses it; while the yard is
TRIPPED a FILL or FLOAT order is CLOSING (R34, R62). -/
structure Yard.ValvesLawful (y : Yard) : Prop where
  opened : y.yds.desc = .opened → y.mvs.orders = []
  worked : ∀ v, (y.mvs.valve v).commanded = .cracked ∨ (y.mvs.valve v).commanded = .opened →
    y.yds.bind.valve v ≠ none ∧ ∃ o ∈ y.mvs.orders, (o.state = .opening ∨ o.state = .running) ∧
      o.holder = y.mvs.orderHolder v.holder ∧ v.side ∈ o.kind.used
  tripped : y.mvs.tripped = true → ∀ o ∈ y.mvs.orders, o.kind.fills = true → o.state = .closing

/-- The law of R136, with the bounds of R135: every range lies within the outer range of its slot, a meter's being that range,
and a quantity that is LIVE, STANDBY or HELD has a value within its range. -/
structure Yard.QuantitiesLawful (y : Yard) : Prop where
  ranges : ∀ q, q.outer.1 ≤ (y.yds.subs.get q).low ∧ (y.yds.subs.get q).low ≤ (y.yds.subs.get q).high ∧
    (y.yds.subs.get q).high ≤ q.outer.2
  meters : ∀ q, q.isMeter = true → (y.yds.subs.get q).low = q.outer.1 ∧ (y.yds.subs.get q).high = q.outer.2
  values : ∀ q, let r := y.qpr.recs.get q
    r.source = .live ∨ r.source = .standby ∨ r.source = .held →
      ∃ v, r.value = some v ∧ (y.yds.subs.get q).low ≤ v ∧ v ≤ (y.yds.subs.get q).high

/-- The lists of the scan sequencer within their bounds: at most 24 entries by strictly ascending address, at most 32
commands, no two for one point, and at most four loads (R117, R128, R130). -/
structure Scs.Lawful (u : Scs) : Prop where
  roster : u.roster.length ≤ 24
  ascending : u.roster.Pairwise fun a b => a.address < b.address
  commands : u.commands.length ≤ 32
  points : u.commands.Pairwise fun a b => ¬(a.outstation = b.outstation ∧ a.channel = b.channel)
  loads : u.loads.length ≤ 4

/-- The law of R153 in a day or an entry: the volume is the sum of the period volumes and the day-end remainder. -/
def MeterDay.adds (m : MeterDay) : Prop := m.volume = m.periodVols.sum + m.remVol

def BookDistrict.adds (b : BookDistrict) : Prop := b.volume = b.periodVols.sum + b.remVol

/-- The closed records within their bounds: at most eight period records in the ring, at most 14 entries in the day book by
strictly ascending day, the cursor on an entry or next past the newest, and the balance of every entry exact (R143, R155,
R156, R157). The law of R153 holds in the current day, which has no remainder yet, in the pending day and in every entry; a
remainder is in hand only for a meter of a pending day that has none yet, and for no meter twice. -/
structure Yard.BooksLawful (y : Yard) : Prop where
  ring : y.qpr.ring.length ≤ 8
  book : y.soa.book.length ≤ 14
  ascending : y.soa.book.Pairwise fun a b => a.day < b.day
  cursor : y.soa.cursor ≤ y.soa.book.length
  balance : ∀ e ∈ y.soa.book, e.make - e.sendOut - (e.closing - e.opening) = e.unaccounted
  current : ∀ d, y.soa.current = some d → ∀ m, (d.meters.get m).adds ∧ (d.meters.get m).remVol = 0
  pending : ∀ p, y.soa.pending = some p → ∀ m, (p.day.meters.get m).adds ∧
    (p.started = false → (p.day.meters.get m).remVol = 0)
  entries : ∀ e ∈ y.soa.book, ∀ d b, e.districts.get d = some b → b.adds
  waiting : y.soa.remainders ≠ [] → ∃ p, y.soa.pending = some p ∧ p.started = true ∧
    ∀ r ∈ y.soa.remainders, (p.day.meters.get r.meter).remVol = 0
  once : y.soa.remainders.Pairwise fun a b => a.meter ≠ b.meter

/-- A holder is counted in the available pressure: it is present and its outlet reports OPEN or CRACKED (R88). -/
def Yard.counts (y : Yard) (h : Holder) : Prop :=
  y.yds.holders.get h ≠ none ∧
    ((y.mvs.outlets.get h).reported = .opened ∨ (y.mvs.outlets.get h).reported = .cracked)

/-- The districts within their bounds (R80, R83, R88, R90, R94): a loss allowance not below 0; for each district
present the commanded set-point within floor and ceiling and the trim within the max trim; while the description is OPEN no
commanded set-point, and no booster commanded RUN; a booster commanded RUN only in BOOSTING or BOOSTED, and never while its
district waits for adoption. -/
structure Yard.FeedLawful (y : Yard) : Prop where
  bounds : ∀ d x, y.yds.districts.get d = some x → x.floor ≤ x.ceiling ∧
    ∀ c, (y.dgu.districts.get d).commanded = some c → x.floor ≤ c ∧ c ≤ x.ceiling
  loss : 0 ≤ y.yds.yardLoss
  slew : ∀ d, 0 ≤ (y.yds.feedSet.get d).slew
  limit : ∀ d, 0 ≤ (y.yds.trimSet.get d).maxTrim
  trim : ∀ d, y.yds.districts.get d ≠ none → -(y.yds.trimSet.get d).maxTrim ≤ (y.dgu.districts.get d).trim ∧
    (y.dgu.districts.get d).trim ≤ (y.yds.trimSet.get d).maxTrim
  opened : y.yds.desc = .opened → ∀ d, y.yds.districts.get d ≠ none →
    (y.dgu.districts.get d).commanded = none ∧ (y.dgu.districts.get d).boosterCmd ≠ .run
  run : ∀ d x, y.yds.districts.get d = some x → (y.dgu.districts.get d).boosterCmd = .run →
    x.booster = true ∧ ((y.dgu.districts.get d).feed = .boosting ∨ (y.dgu.districts.get d).feed = .boosted)
  adopting : ∀ d, y.yds.districts.get d ≠ none → (y.dgu.districts.get d).adoption = true →
    (y.dgu.districts.get d).boosterCmd ≠ .run
  waits : ∀ d, y.yds.districts.get d ≠ none → (y.dgu.districts.get d).adoptWait ≠ .idle →
    (y.dgu.districts.get d).adoption = true

end Sys2Proof.Machine
end

