-- ==== Sys2Proof/Certificates/Slice0/Obligations.lean ====
section
/-! DEFINITION. The statements about the HY640 for the provers. A request's effect is stated with Gives (Sys2Proof/Safety.lean):
for every state in which the request stands at the front of the link, exec answers the next state that is written out, so
that everything not named in it is unchanged. -/

open Sys2Proof Sys2Proof.Machine

/-! ### The machine as a whole -/

/-- One step works the command at the front of the queue on the state with the queue's rest; with no command waiting the
block idles (the idling is the model's choice, log 1). Every command answers with a next state: the controller stops for
none, and no command touches those that wait (R165, R176). Every command worked under power leaves the check word that
matches the retained store as it then stands, and without power nothing is written (R175; the bytes of the store, and so the
value of the word, are the model's, log 4). -/
def Obligations.StepRunsFrontCommand : Prop :=
  (∀ s : State,
    (∀ (c : Instr) (rest : List Instr), s.pending = c :: rest → step s = exec c { s with pending := rest }) ∧
    (s.pending = [] → step s = .next s)) ∧
  (∀ (i : Instr) (s : State), ∃ t, exec i s = .next t ∧ t.pending = s.pending ∧
    (t.powered = true → t.checkWord = t.yard.storeCheck) ∧
    (s.powered = false → t.powered = false → t.checkWord = s.checkWord))

/-- The retained and the working state after a cold start, the values the manual gives (R13, R31, R64, R78, R96, R116, R132,
R144, R160, R172, R177), and the check word of the store so left (R175; its value rests on log 4). The YARD TRIP watch, the
line-held detector and the break of line start begin afresh with the pins as they stand, and nothing else of the yard rests on
the pins (R64, R116). That the time base starts at 0 is the model's choice (log 3), and so are that State.reset has the input
released and the line at mark (log 5), the break of line start driven only with the line at mark (log 19), and the working items
to which the manual gives no value (log 11) and the count of free values (log 2). -/
def Obligations.ColdStartValues : Prop :=
  let y := State.reset.yard
  y.yds = Yds.cold ∧ y.yds.desc = .opened ∧ (∀ h, y.yds.holders.get h = none ∧ y.yds.geometry.get h = none) ∧
  (∀ d, y.yds.districts.get d = none) ∧ y.yds.vapour = ⟨421, 611, 872, 1228, 1705, 2339, 3169, 4246, 5628⟩ ∧
  y.yds.line = ⟨.b1200, 50⟩ ∧ (∀ h, y.yds.limits.get h = ⟨150, 150⟩) ∧ y.yds.valveLimit = 120 ∧
  (∀ d, y.yds.programme.get d = ⟨1000, .all none⟩ ∧ y.yds.trimSet.get d = ⟨500, 100, 25, 250⟩ ∧
    y.yds.feedSet.get d = ⟨20, 250, 100, 60⟩) ∧
  y.yds.lag = 4 ∧ y.yds.dayPattern = [false, false, false, false, false, false, true] ∧ y.yds.periodMark = none ∧
  y.yds.yardLoss = 100 ∧ y.yds.cv = 18600 ∧ y.yds.makeFactor = 1000 ∧ y.yds.balanceLimit = 30 ∧ y.yds.scan = 15 ∧
  (∀ q, y.yds.bind.slots.get q = ⟨none, none⟩ ∧ y.yds.subs.get q = ⟨q.outer.1, q.outer.2, 2, none, 5000⟩) ∧
  (∀ v, y.yds.bind.valve v = none) ∧ (∀ d, y.yds.bind.governor.get d = none ∧ y.yds.bind.booster.get d = none) ∧
  (∀ h, y.hsu.holders.get h = ⟨none, none, none, 0, 0, none, .unknown, false, none, false, 0, 0⟩) ∧ y.hsu.baro = none ∧
  y.hsu.stockJobs = [] ∧ y.hsu.closingJobs = [] ∧
  (∀ h, y.mvs.inlets.get h = ⟨.none, .unknown, .idle⟩ ∧ y.mvs.outlets.get h = ⟨.none, .unknown, .idle⟩ ∧
    y.mvs.unmanaged.get h = false ∧ y.mvs.shutPending.get h = false ∧ y.mvs.prevTravel.get h = none) ∧
  y.mvs.orders = [] ∧ y.mvs.coupled = .all false ∧ y.mvs.tripped = false ∧ y.mvs.tripCause = none ∧ y.mvs.watch = .idle ∧
  y.gdc = ⟨none, none, none, none, none⟩ ∧
  (∀ d, y.dgu.districts.get d =
    ⟨1000, 0, none, none, none, false, .none, none, .direct, .none, .unknown, .idle, false, 0, false, .idle⟩) ∧
  y.dgu.available = none ∧
  y.ylc.line = .breaking ∧ y.ylc.brk = some .long ∧ y.ylc.flight = none ∧ y.ylc.waiting = [] ∧ y.ylc.timer = none ∧
  y.ylc.held = false ∧ y.ylc.detector = none ∧ y.ylc.driving = true ∧ y.ylc.why = ⟨true, false, false⟩ ∧ y.ylc.again = false ∧
  y.ylc.charTime = 200 ∧
  y.scs.roster = [] ∧ y.scs.commands = [] ∧ y.scs.loads = [] ∧ y.scs.cycle = 0 ∧ y.scs.rotating = none ∧
  y.scs.shortCount = 0 ∧ y.scs.dayOwed = false ∧ y.scs.wakeDue = true ∧ y.scs.lastWake = none ∧ y.scs.phase = .none ∧
  (∀ q, y.qpr.recs.get q = ⟨none, .none, none, 0, none, false, 0, none, 0, false⟩) ∧ y.qpr.current = none ∧ y.qpr.ring = [] ∧
  y.qpr.markerAwaited = false ∧
  y.soa.current = none ∧ y.soa.pending = none ∧ y.soa.corrections = [] ∧ y.soa.remainders = [] ∧ y.soa.book = [] ∧
  y.soa.cursor = 0 ∧ y.soa.markerOut = false ∧ (∀ m, y.soa.seen.get m = ⟨none, none, none⟩) ∧
  y.notices = ⟨[⟨.coldStarted, 0, none, none, 0, 1⟩], 0⟩ ∧
  State.reset.link = ⟨.hunting, ⟨0, 0, 0, 0⟩, [], [], []⟩ ∧ State.reset.pending = [] ∧ State.reset.powered = true ∧
  State.reset.checkWord = y.storeCheck ∧
  ∀ tripPin lineSpace : Bool, Yard.cold tripPin lineSpace = { y with
    tripPin := tripPin
    lineSpace := lineSpace
    mvs := { y.mvs with watch := if tripPin then .running 0 else .idle }
    ylc := { y.ylc with detector := if lineSpace then some 0 else none, driving := !lineSpace } }

/-! ### The host link -/

/-- The fields of a payload are read as they were written, for every layout and all values the codings admit (R173): no
bit of a payload is dropped. The flag coding 0 and 1, the presence byte and the widths of the fields are the model's choice
where R173 leaves them open (log 7), and so are the two lengths of SET PEAK, SET FEED and UNTIL, for which the same
holds. -/
def Obligations.FieldsReadAsWritten : Prop :=
  (∀ (l : Layout) (fs : List Field), layoutAdmits l fs = true → formOf l (writeFields l fs) = .ok fs) ∧
  (∀ fs : List Field,
    (layoutAdmits layPeakUsed fs = true → fs.getD 2 none = some 1 → formPeak (writeFields layPeakUsed fs) = .ok fs) ∧
    (layoutAdmits layPeakFree fs = true → fs.getD 2 none = some 0 → formPeak (writeFields layPeakFree fs) = .ok fs) ∧
    (layoutAdmits layFeed fs = true → fs.getD 0 none ≠ none → formFeed (writeFields layFeed fs) = .ok fs) ∧
    (layoutAdmits layLoss fs = true → fs.getD 0 none = none → formFeed (writeFields layLoss fs) = .ok fs) ∧
    (layoutAdmits layUntilPeriod fs = true → fs.getD 0 none = some 2 →
      formUntil (writeFields layUntilPeriod fs) = .ok fs) ∧
    (layoutAdmits layUntilFigure fs = true → fs.getD 0 none ≠ some 2 →
      formUntil (writeFields layUntilFigure fs) = .ok fs))

/-- A whole good request frame that a HUNTING receiver hears (one that comes on a frame in hand is BadFrameDiscarded's): appended
while the queue has a place, refused QUEUE FULL at once while fewer than eight such refusals wait, else discarded with OVERRUN
counted (R161, R163). That the refusal being sent counts among the eight that wait, until its ANSWER_SENT, is the model's choice
(log 79). -/
def Obligations.GoodFrameReachesQueue : Prop :=
  ∀ (s : State) (kind tag : Byte) (payload : List Byte), s.powered = true → s.link.recv = .hunting → payload.length ≤ 24 →
    (s.link.queue.length < 4 →
      exec (.requestFrame (requestFrameOf kind tag payload)) s =
        concluded { s with link := { s.link with queue := s.link.queue ++ [⟨kind, tag, payload, false⟩] } }) ∧
    (4 ≤ s.link.queue.length → s.link.refusalsWaiting < 8 →
      exec (.requestFrame (requestFrameOf kind tag payload)) s =
        concluded { s with link := { s.link with
          answers := s.link.answers ++ [⟨kind, tag, .refuse .queueFull [.u8 0], false, false, none⟩] } }) ∧
    (4 ≤ s.link.queue.length → 8 ≤ s.link.refusalsWaiting → s.link.counts.overrun < 65535 →
      exec (.requestFrame (requestFrameOf kind tag payload)) s =
        concluded { s with link := { s.link with
          counts := { s.link.counts with overrun := s.link.counts.overrun + 1 } } })

/-- A frame whose check does not agree, or with a bad length byte, or broken by a gap, is discarded with its own count,
and the characters of a frame in hand are collected; a character, or a whole good frame, that comes more than 20 ms after the
last character of a frame in hand finds that one discarded, GAP counted, and begins anew (R161). How moments are carried, and
the lateness that a character shows by itself, are the model's choice (log 3, log 44). -/
def Obligations.BadFrameDiscarded : Prop :=
  (∀ (s : State) (kind tag c0 c1 : Byte) (payload : List Byte),
    s.powered = true → s.link.recv = .hunting → payload.length ≤ 24 → s.link.counts.check < 65535 →
    [c0, c1] ≠ crcBytes (BitVec.ofNat 8 (payload.length + 2) :: kind :: tag :: payload) →
      exec (.requestFrame (0x01#8 :: BitVec.ofNat 8 (payload.length + 2) :: kind :: tag :: payload ++ [c0, c1])) s =
        concluded { s with link := { s.link with counts := { s.link.counts with check := s.link.counts.check + 1 } } }) ∧
  (∀ (s : State) (b : Byte), s.powered = true → s.link.recv = .hunting → s.link.counts.length < 65535 →
    b.toNat < 2 ∨ 26 < b.toNat →
      exec (.requestFrame [0x01#8, b]) s =
        concluded { s with link := { s.link with counts := { s.link.counts with length := s.link.counts.length + 1 } } }) ∧
  (∀ (s : State) (got : List Byte) (last : Nat), s.powered = true → s.link.recv = .inFrame got last →
    s.link.counts.gap < 65535 →
      exec .frameGap s =
        concluded { s with
          link := { s.link with recv := .hunting, counts := { s.link.counts with gap := s.link.counts.gap + 1 } }
          yard := { s.yard with now := max s.yard.now (last + 480) } }) ∧
  (∀ (s : State) (moment : Nat) (b : Byte), s.powered = true → s.link.recv = .hunting →
    exec (.hostLinkCharacter moment b) s =
      concluded { s with
        link := if b = 0x01#8 then { s.link with recv := .inFrame [] (max s.yard.now moment) } else s.link
        yard := { s.yard with now := max s.yard.now moment } }) ∧
  (∀ (s : State) (moment last : Nat) (b : Byte), s.powered = true → s.link.recv = .inFrame [] last →
    max s.yard.now moment ≤ last + 505 → s.link.counts.length < 65535 →
    exec (.hostLinkCharacter moment b) s =
      concluded { s with
        link :=
          if 2 ≤ b.toNat ∧ b.toNat ≤ 26 then { s.link with recv := .inFrame [b] (max s.yard.now moment) }
          else { s.link with recv := .hunting, counts := { s.link.counts with length := s.link.counts.length + 1 } }
        yard := { s.yard with now := max s.yard.now moment } }) ∧
  (∀ (s : State) (moment last : Nat) (n b : Byte) (got : List Byte), s.powered = true →
    s.link.recv = .inFrame (n :: got) last → max s.yard.now moment ≤ last + 505 → got.length + 2 < n.toNat + 3 →
    exec (.hostLinkCharacter moment b) s =
      concluded { s with
        link := { s.link with recv := .inFrame (n :: got ++ [b]) (max s.yard.now moment) }
        yard := { s.yard with now := max s.yard.now moment } }) ∧
  (∀ (s : State) (moment last : Nat) (b : Byte) (got : List Byte), s.powered = true → s.link.recv = .inFrame got last →
    last + 505 < max s.yard.now moment → s.link.counts.gap < 65535 →
    exec (.hostLinkCharacter moment b) s =
      concluded { s with
        link := { s.link with
          recv := if b = 0x01#8 then .inFrame [] (max s.yard.now moment) else .hunting
          counts := { s.link.counts with gap := s.link.counts.gap + 1 } }
        yard := { s.yard with now := max s.yard.now moment } }) ∧
  (∀ (s : State) (last : Nat) (kind tag : Byte) (got payload : List Byte), s.powered = true →
    s.link.recv = .inFrame got last → last + 505 < s.yard.now → s.link.counts.gap < 65535 → payload.length ≤ 24 →
    s.link.queue.length < 4 →
    exec (.requestFrame (requestFrameOf kind tag payload)) s =
      concluded { s with link := { s.link with
        recv := .hunting
        counts := { s.link.counts with gap := s.link.counts.gap + 1 }
        queue := s.link.queue ++ [⟨kind, tag, payload, false⟩] } })

/-- An answer sent in full leaves, and with it its request, unless it was a QUEUE FULL refusal, which held no place
(R163). -/
def Obligations.AnswerSentFreesPlace : Prop :=
  ∀ (s : State) (a : Answer) (rest : List Answer), s.powered = true → s.link.answers = a :: rest → a.asks = none →
    exec .answerSent s =
      concluded { s with link := { s.link with
        answers := rest, queue := if a.place then s.link.queue.drop 1 else s.link.queue } }

/-- Every request at the front is taken whole and answered once, its kind and tag in the answer, and keeps its place in
the queue until the answer is sent; all but WHEN and UNTIL leave the staging slot empty, and the answer carries the
dropped mark when a request that is no order found qualifiers in the slot (R163, R164, R167). -/
def Obligations.EveryRequestAnswered : Prop :=
  ∀ (i : Instr) (kind tag : Byte) (p : List Byte) (s : State) (before after : List Request),
    i.request = some (kind, tag, p) → i.eventFits = true → Front s ⟨kind, tag, p, false⟩ before after →
    ∃ (t : State) (d : Decision) (asks : Option ResetAsk), exec i s = .next t ∧
      t.link.queue = before ++ ⟨kind, tag, p, true⟩ :: after ∧
      t.link.answers = s.link.answers ++
        [⟨kind, tag, d, !i.qualifies && !i.orders && !s.link.staging.isEmpty, true, asks⟩] ∧
      (i.qualifies = false → t.link.staging = []) ∧
      t.link.recv = s.link.recv ∧ t.link.counts = s.link.counts ∧ t.pending = s.pending ∧ t.powered = true ∧
      t.checkWord = t.yard.storeCheck

/-- A request whose form is bad is refused BAD FORM with the first field at fault (0 for its length), and a request of a
kind outside the catalogue UNKNOWN KIND; neither changes anything of the yard (R162, R165, R167). -/
def Obligations.BadFormRefused : Prop :=
  (∀ (i : Instr) (kind tag : Byte) (p : List Byte) (n : Nat) (s : State) (before after : List Request),
    i.request = some (kind, tag, p) → i.form = .bad n → Front s ⟨kind, tag, p, false⟩ before after →
    exec i s =
      concluded (if i.qualifies then
          s.staged ⟨kind, tag, p, false⟩ before after s.link.staging (.refuse .badForm [.u8 n])
        else if i.orders then s.ordered ⟨kind, tag, p, false⟩ before after s.yard (.refuse .badForm [.u8 n])
        else s.answered ⟨kind, tag, p, false⟩ before after s.yard (.refuse .badForm [.u8 n]))) ∧
  (∀ (kind tag : Byte) (p : List Byte) (s : State) (before after : List Request),
    catalogued kind = false → Front s ⟨kind, tag, p, false⟩ before after →
    exec (.unknownKind kind tag p) s =
      concluded (s.answered ⟨kind, tag, p, false⟩ before after s.yard (.refuse .unknownKind [.u8 0])))

/-- WHEN and UNTIL while COMMITTED: the qualifier is added after those held while the slot holds fewer than two, with the
indication STAGED, else it takes the place of the second, with REPLACED, so that the first and the latest stand; none of its
values is tested against its range. One refused BAD FORM, or NOT COMMITTED while the description is OPEN, leaves the slot as
it was (R12, R162, R166). How the fields of a payload spell a qualifier, Instr.carries, is the model's choice (log 7). -/
def Obligations.QualifiersStaged : Prop :=
  ∀ (i : Instr) (kind tag : Byte) (p : List Byte) (s : State) (before after : List Request), i.qualifies = true →
    i.request = some (kind, tag, p) → Front s ⟨kind, tag, p, false⟩ before after →
    (∀ n, i.form = .bad n →
      exec i s =
        concluded (s.staged ⟨kind, tag, p, false⟩ before after s.link.staging (.refuse .badForm [.u8 n]))) ∧
    (∀ fs, i.form = .ok fs → s.yard.yds.desc = .opened →
      exec i s =
        concluded (s.staged ⟨kind, tag, p, false⟩ before after s.link.staging (.refuse .notCommitted [.u8 0]))) ∧
    (∀ (fs : List Field) (q : Qualifier), i.form = .ok fs → i.carries fs q → s.yard.yds.desc = .committed →
      (s.link.staging.length < 2 →
        exec i s =
          concluded (s.staged ⟨kind, tag, p, false⟩ before after (s.link.staging ++ [q]) (.answer .staged []))) ∧
      (∀ a b rest, s.link.staging = a :: b :: rest →
        exec i s = concluded (s.staged ⟨kind, tag, p, false⟩ before after [a, q] (.answer .replaced []))))

/-- While the description is OPEN every operational request is refused NOT COMMITTED; a refused WHEN or UNTIL is not
staged. Every other request is taken in both states, and while COMMITTED every request is passed to its owner: none of them
is answered NOT COMMITTED (R12). -/
def Obligations.NotCommittedRefused : Prop :=
  (∀ (i : Instr) (kind tag : Byte) (p : List Byte) (fs : List Field) (s : State) (before after : List Request),
    i.operational = true → i.request = some (kind, tag, p) → i.form = .ok fs → s.yard.yds.desc = .opened →
    Front s ⟨kind, tag, p, false⟩ before after →
    exec i s =
      concluded (if i.qualifies then
          s.staged ⟨kind, tag, p, false⟩ before after s.link.staging (.refuse .notCommitted [.u8 0])
        else if i.orders then s.ordered ⟨kind, tag, p, false⟩ before after s.yard (.refuse .notCommitted [.u8 0])
        else s.answered ⟨kind, tag, p, false⟩ before after s.yard (.refuse .notCommitted [.u8 0]))) ∧
  (∀ (i : Instr) (kind tag : Byte) (p : List Byte) (s : State) (before after : List Request),
    i.request = some (kind, tag, p) → i.eventFits = true → i.operational = false ∨ s.yard.yds.desc = .committed →
    Front s ⟨kind, tag, p, false⟩ before after →
    ∃ (t : State) (a : Answer), exec i s = .next t ∧ t.link.answers = s.link.answers ++ [a] ∧
      ∀ data, a.decision ≠ .refuse .notCommitted data)

/-- While the description is COMMITTED every structural request and COMMIT is refused FIXED and changes nothing (R1,
R2). -/
def Obligations.FixedWhileCommitted : Prop :=
  ∀ (i : Instr) (kind tag : Byte) (p : List Byte) (fs : List Field) (s : State) (before after : List Request),
    i.structural = true → i.request = some (kind, tag, p) → i.form = .ok fs → s.yard.yds.desc = .committed →
    Front s ⟨kind, tag, p, false⟩ before after →
    exec i s = concluded (s.answered ⟨kind, tag, p, false⟩ before after s.yard (.refuse .fixed [.u8 0]))

/-! ### The description (01) -/

/-- HOLDER while OPEN: present, it sets the four values, keeps the lifts 1 to n described before and discards those above, the
margins 300 mm and 200 mm where absent; not present, it discards the record, releases the bindings and returns the settings to
their defaults; a lift count or half-width missing or out of range, or a margin out of range, is refused INVALID (R3, R30,
R135). That the records of its quantities and the travel last read go with a holder not present is the model's reading (log 37).
-/
def Obligations.HolderDescribed : Prop :=
  ∀ (y : Yard) (h : Holder), y.yds.desc = .opened →
    (∀ (n : Nat) (c : Int) (top land : Option Int), 1 ≤ n → n ≤ 4 → 50 ≤ c → c ≤ 500 →
      (∀ v ∈ top, 100 ≤ v ∧ v ≤ 1000) → (∀ v ∈ land, 50 ≤ v ∧ v ≤ 1000) →
      (∀ r, y.yds.holders.get h = some r →
        Gives 0x10#8 .holder (formOf layHolder) [some (h.number : Int), some 1, some (n : Int), some c, top, land] y
          { y with yds := { y.yds with
            holders := y.yds.holders.set h (some ⟨n, c, top.getD 300, land.getD 200,
              ⟨r.lifts.a0, if 2 ≤ n then r.lifts.a1 else none, if 3 ≤ n then r.lifts.a2 else none,
                if 4 ≤ n then r.lifts.a3 else none⟩⟩) } }
          (.answer .none [])) ∧
      (y.yds.holders.get h = none →
        Gives 0x10#8 .holder (formOf layHolder) [some (h.number : Int), some 1, some (n : Int), some c, top, land] y
          { y with
            yds := { y.yds with
              holders := y.yds.holders.set h (some ⟨n, c, top.getD 300, land.getD 200, .all none⟩) }
            hsu := { y.hsu with holders := y.hsu.holders.set h .fresh } }
          (.answer .none []))) ∧
    (∀ n c top land : Option Int,
      Gives 0x10#8 .holder (formOf layHolder) [some (h.number : Int), some 0, n, c, top, land] y
        { y with
          yds := { y.yds with
            holders := y.yds.holders.set h none
            limits := y.yds.limits.set h ⟨150, 150⟩
            bind := { y.yds.bind with
              slots := { y.yds.bind.slots with
                travel := y.yds.bind.slots.travel.set h ⟨none, none⟩
                gasTemp := y.yds.bind.slots.gasTemp.set h ⟨none, none⟩
                holderPress := y.yds.bind.slots.holderPress.set h ⟨none, none⟩ }
              inlet := y.yds.bind.inlet.set h none
              outlet := y.yds.bind.outlet.set h none }
            subs := { y.yds.subs with
              travel := y.yds.subs.travel.set h ⟨0, 60500, 2, none, 5000⟩
              gasTemp := y.yds.subs.gasTemp.set h ⟨-200, 500, 2, none, 5000⟩
              holderPress := y.yds.subs.holderPress.set h ⟨-50000, 50000, 2, none, 5000⟩ } }
          qpr := { y.qpr with recs := { y.qpr.recs with
            travel := y.qpr.recs.travel.set h .fresh
            gasTemp := y.qpr.recs.gasTemp.set h .fresh
            holderPress := y.qpr.recs.holderPress.set h .fresh } }
          hsu := { y.hsu with holders := y.hsu.holders.set h .fresh }
          mvs := { y.mvs with prevTravel := y.mvs.prevTravel.set h none } }
        (.answer .none [])) ∧
    (∀ n c top land : Option Int, (∀ v ∈ n, v < 1 ∨ 4 < v) ∨ (∀ v ∈ c, v < 50 ∨ 500 < v) ∨
        (∃ v ∈ top, v < 100 ∨ 1000 < v) ∨ (∃ v ∈ land, v < 50 ∨ 1000 < v) →
      ∃ f, Gives 0x10#8 .holder (formOf layHolder) [some (h.number : Int), some 1, n, c, top, land] y y
        (.refuse .invalid [.u8 f]))

/-- LIFT while OPEN: it replaces the whole entry of lift k of a present holder; a lift number above the lift count, or an area,
stroke or weight step out of range, is refused INVALID, a holder not present NO SUCH (R4). VAPOUR TABLE: nine entries, none
above 10,000 Pa and none below the one before it, replace the table; while COMMITTED the stock of every present holder that has
an accepted travel and its other inputs is handed to CU again, and one with no accepted travel, no order that works it being
OPENING or RUNNING, is assessed UNKNOWN; an entry out of range or below the one before refuses the request (R7, R14, R23). That
they are handed in the order H1 to H6 is the model's choice (log 52), and that the assessment is made there its reading (log
90). -/
def Obligations.LiftsAndVapourTable : Prop :=
  (∀ (y : Yard) (h : Holder), y.yds.desc = .opened →
    (∀ (r : HolderRec) (k : Nat) (a s w : Int), y.yds.holders.get h = some r → r.count ≤ 4 →
      (1 ≤ k ∧ k ≤ r.count ∧ 100 ≤ a ∧ a ≤ 400000 ∧ 500 ≤ s ∧ s ≤ 15000 ∧ 0 ≤ w ∧ w ≤ 2000 →
        Gives 0x11#8 .lift (formOf layLift) [some (h.number : Int), some (k : Int), some a, some s, some w] y
          { y with yds := { y.yds with
            holders := y.yds.holders.set h (some { r with lifts := r.lifts.set (k - 1) (some ⟨a, s, w⟩) }) } }
          (.answer .none [])) ∧
      (¬(1 ≤ k ∧ k ≤ r.count ∧ 100 ≤ a ∧ a ≤ 400000 ∧ 500 ≤ s ∧ s ≤ 15000 ∧ 0 ≤ w ∧ w ≤ 2000) →
        ∃ f, Gives 0x11#8 .lift (formOf layLift) [some (h.number : Int), some (k : Int), some a, some s, some w] y y
          (.refuse .invalid [.u8 f]))) ∧
    (y.yds.holders.get h = none → ∀ (k : Nat) (a s w : Int),
      Gives 0x11#8 .lift (formOf layLift) [some (h.number : Int), some (k : Int), some a, some s, some w] y y
        (.refuse .noSuch [.u8 1]))) ∧
  (∀ (y : Yard) (e : Vapour),
    let fs : List Field := [some (e.e0 : Int), some (e.e1 : Int), some (e.e2 : Int), some (e.e3 : Int), some (e.e4 : Int),
      some (e.e5 : Int), some (e.e6 : Int), some (e.e7 : Int), some (e.e8 : Int)]
    let rising := e.e0 ≤ e.e1 ∧ e.e1 ≤ e.e2 ∧ e.e2 ≤ e.e3 ∧ e.e3 ≤ e.e4 ∧ e.e4 ≤ e.e5 ∧ e.e5 ≤ e.e6 ∧ e.e6 ≤ e.e7 ∧
      e.e7 ≤ e.e8 ∧ e.e8 ≤ 10000
    (rising → y.yds.desc = .opened →
      Gives 0x12#8 .vapourTable (formOf layVapour) fs y { y with yds := { y.yds with vapour := e } } (.answer .none [])) ∧
    (rising → y.yds.desc = .committed → y.TravellessAtRest →
      (∀ h ∈ y.yds.presentHolders, (y.hsu.holders.get h).travel ≠ none → (liveJob y h).isSome = true) →
      Gives 0x12#8 .vapourTable (formOf layVapour) fs y
        { y.assessed with
          yds := { y.yds with vapour := e }
          hsu := { y.assessed.hsu with stockJobs := y.hsu.stockJobs ++ y.yds.presentHolders.filterMap (liveJob y) } }
        (.answer .none [])) ∧
    (¬rising → ∃ f, Gives 0x12#8 .vapourTable (formOf layVapour) fs y y (.refuse .invalid [.u8 f])))

/-- DISTRICT while OPEN: present, it sets booster, floor, ceiling and factor, a district that was absent starting from a fresh
record; a floor, ceiling or factor missing or out of range, or a ceiling below the floor, is refused INVALID; not present, it
discards the district, its bindings and its settings (R79, R96). That a present district redescribed with another booster item
takes the adoption mark of the new one is the model's reading (log 38), and so is that the records of its quantities go with a
district not present (log 37). -/
def Obligations.DistrictDescribed : Prop :=
  ∀ (y : Yard) (d : District) (b : Bool), y.yds.desc = .opened →
    (∀ floor ceiling factor : Int, 500 ≤ floor → floor ≤ 3000 → floor ≤ ceiling → ceiling ≤ 5000 → 1 ≤ factor →
      factor ≤ 10000000 →
      (y.yds.districts.get d = none →
        Gives 0x13#8 .district (formOf layDistrict)
          [some (d.number : Int), some 1, some (if b then 1 else 0), some floor, some ceiling, some factor] y
          { y with
            yds := { y.yds with districts := y.yds.districts.set d (some ⟨b, floor, ceiling, factor⟩) }
            dgu := { y.dgu with districts := y.dgu.districts.set d (.fresh (y.yds.programme.get d).base 0 b) } }
          (.answer .none [])) ∧
      (∀ o, y.yds.districts.get d = some o → o.booster = b →
        Gives 0x13#8 .district (formOf layDistrict)
          [some (d.number : Int), some 1, some (if b then 1 else 0), some floor, some ceiling, some factor] y
          { y with yds := { y.yds with districts := y.yds.districts.set d (some ⟨b, floor, ceiling, factor⟩) } }
          (.answer .none [])) ∧
      (∀ o, y.yds.districts.get d = some o → o.booster ≠ b →
        Gives 0x13#8 .district (formOf layDistrict)
          [some (d.number : Int), some 1, some (if b then 1 else 0), some floor, some ceiling, some factor] y
          { y with
            yds := { y.yds with districts := y.yds.districts.set d (some ⟨b, floor, ceiling, factor⟩) }
            dgu := { y.dgu with
              districts := y.dgu.districts.set d { y.dgu.districts.get d with adoption := b, adoptWait := .idle } } }
          (.answer .none []))) ∧
    (∀ (x floor ceiling factor : Option Int),
      (∀ v ∈ floor, v < 500 ∨ 3000 < v) ∨ (∀ v ∈ ceiling, v < floor.getD 0 ∨ 5000 < v) ∨
        (∀ v ∈ factor, v < 1 ∨ 10000000 < v) →
      ∃ f, Gives 0x13#8 .district (formOf layDistrict) [some (d.number : Int), some 1, x, floor, ceiling, factor] y y
        (.refuse .invalid [.u8 f])) ∧
    (∀ (x floor ceiling factor : Option Int),
      Gives 0x13#8 .district (formOf layDistrict) [some (d.number : Int), some 0, x, floor, ceiling, factor] y
        { y with
          yds := { y.yds with
            districts := y.yds.districts.set d none
            programme := y.yds.programme.set d .cold
            trimSet := y.yds.trimSet.set d .cold
            feedSet := y.yds.feedSet.set d .cold
            bind := { y.yds.bind with
              slots := { y.yds.bind.slots with
                outletOf := y.yds.bind.slots.outletOf.set d ⟨none, none⟩
                farPress := y.yds.bind.slots.farPress.set d ⟨none, none⟩
                meter := y.yds.bind.slots.meter.set d ⟨none, none⟩ }
              governor := y.yds.bind.governor.set d none
              booster := y.yds.bind.booster.set d none }
            subs := { y.yds.subs with
              outletOf := y.yds.subs.outletOf.set d ⟨-50000, 50000, 2, none, 5000⟩
              farPress := y.yds.subs.farPress.set d ⟨-50000, 50000, 2, none, 5000⟩
              meter := y.yds.subs.meter.set d ⟨0, 999999, 2, none, 5000⟩ } }
          qpr := { y.qpr with recs := { y.qpr.recs with
            outletOf := y.qpr.recs.outletOf.set d .fresh
            farPress := y.qpr.recs.farPress.set d .fresh
            meter := y.qpr.recs.meter.set d .fresh } }
          dgu := { y.dgu with districts := y.dgu.districts.set d (.fresh 1000 0 false) } }
        (.answer .none []))

/-- OUTSTATION and POINT while OPEN: an outstation enters the roster in its place by address, or keeps its points where it stood
there; the 25th is refused LIST FULL; a point is set or removed on an outstation of the roster; an outstation removed takes its
points and loads with it, and the rotating start moves on; each command in the list for its address is removed and told to its
owner as undelivered, in the order of the list: a governor records it without a notice while OPEN, a valve that belongs to no
active order, its holder having none or itself not bound, fails, its timer IDLE, its holder UNMANAGED and VALVE STUCK raised,
and a booster's feed state does not change while OPEN (R37, R85, R95, R117). That order is the model's choice (log 95). That an
OUTSTATION not present that names no entry of the roster, and a POINT not present at a channel with no point, are answered NONE
and change nothing is the model's choice (log 84). -/
def Obligations.RosterDescribed : Prop :=
  ∀ (y : Yard) (a : Nat), y.yds.desc = .opened → 1 ≤ a → a ≤ 30 →
    (∀ (k : OutstationKind) (sleeper : Bool), y.scs.roster.Pairwise (fun x z => x.address < z.address) →
      let fs : List Field := [some (a : Int), some 1, some (k.code : Int), some (if sleeper then 1 else 0)]
      (y.scs.roster.length < 24 → (∀ e ∈ y.scs.roster, e.address ≠ a) →
        Gives 0x14#8 .outstation (formOf layOutstation) fs y
          { y with scs := { y.scs with
            roster := y.scs.roster.filter (fun e => decide (e.address < a)) ++
              (⟨a, k, sleeper, .all none, .fresh⟩ : Entry) :: y.scs.roster.filter (fun e => decide (a < e.address)) } }
          (.answer .none [])) ∧
      (∀ e ∈ y.scs.roster, e.address = a →
        Gives 0x14#8 .outstation (formOf layOutstation) fs y
          { y with scs := { y.scs with
            roster := y.scs.roster.filter (fun x => decide (x.address < a)) ++
              (⟨a, k, sleeper, e.points, .fresh⟩ : Entry) :: y.scs.roster.filter (fun x => decide (a < x.address)) } }
          (.answer .none [])) ∧
      (24 ≤ y.scs.roster.length → (∀ e ∈ y.scs.roster, e.address ≠ a) →
        Gives 0x14#8 .outstation (formOf layOutstation) fs y y (.refuse .listFull [.u8 0]))) ∧
    (∀ (ch : Nat) (k : PointKind), ch ≤ 3 → (∃ e ∈ y.scs.roster, e.address = a) →
      Gives 0x15#8 .point (formOf layPoint)
        [some (a : Int), some (ch : Int), some 1, some (pointKindCode (some k) : Int)] y
        { y with scs := { y.scs with roster := y.scs.roster.map fun e =>
          if e.address = a then { e with points := e.points.set ch (some k) } else e } }
        (.answer .none []) ∧
      (∀ x : Option Int, Gives 0x15#8 .point (formOf layPoint) [some (a : Int), some (ch : Int), some 0, x] y
        { y with scs := { y.scs with roster := y.scs.roster.map fun e =>
          if e.address = a then { e with points := e.points.set ch none } else e } }
        (.answer .none []))) ∧
    ((∀ e ∈ y.scs.roster, e.address ≠ a) → ∀ (ch : Nat) (x z : Option Int),
      Gives 0x15#8 .point (formOf layPoint) [some (a : Int), some (ch : Int), x, z] y y (.refuse .noSuch [.u8 1])) ∧
    ∀ (x z : Option Int),
      let told (m : Yard) (c : Command) : Yard :=
        match c.owner with
        | .governor d =>
          let r : DistrictDyn := { m.dgu.districts.get d with govPending := false, govOutcome := .undelivered }
          { m with dgu := { m.dgu with districts := m.dgu.districts.set d r } }
        | .valve v =>
          { m with
            mvs := { m.mvs.setValve v { m.mvs.valve v with timer := .idle } with
              unmanaged := m.mvs.unmanaged.set v.holder true
              shutPending := m.mvs.shutPending.set v.holder false }
            notices := m.notices.raise .valveStuck v.holder.number
              ((sideCode v.side + 256 * (m.mvs.valve v).commanded.code : Nat) : Int) (y.gdc.clock.map (·.day))
              (y.gdc.clock.map (·.period)) }
        | .booster _ => m
      let left : Yard := (y.scs.commands.filter fun c => decide (c.outstation = a)).foldl told y
      (∀ c ∈ y.scs.commands, c.outstation = a → ∀ v, c.owner = .valve v →
        y.mvs.activeOrder v.holder = none ∨ y.yds.bind.valve v = none) →
      Gives 0x14#8 .outstation (formOf layOutstation) [some (a : Int), some 0, x, z] y
        { left with scs := { y.scs with
          roster := y.scs.roster.filter (fun e => decide (e.address ≠ a))
          commands := y.scs.commands.filter fun c => decide (c.outstation ≠ a)
          loads := y.scs.loads.filter (fun l => decide (l.address ≠ a))
          rotating :=
            if y.scs.rotating = some a then
              nextAbove (y.scs.roster.filter (fun e => decide (e.address ≠ a))) a
            else y.scs.rotating } }
        (.answer .none [])

/-- BIND while OPEN: an actuator binding is replaced or released; a slot's primary or standby point is set or released, a
meter's changed primary point leaving its base none; a role, a point or a standby that the rule forbids is refused INVALID, a
binding of an absent holder or district NO SUCH (R133, R139). A slot that keeps a point keeps its record; one left with no
point becomes DECLARED with its declared value, or NONE where it has none, and HSU is handed the change (R24, R138). That its
candidate goes, and the remembered run-out with it, is the model's reading (log 40, log 72). That a meter's changed primary
point makes its register seen none (R147) is too (log 26). LINE SETTINGS while OPEN: one of the three rates with a
window from 10 to 250 ms replaces both fields; any other rate or window is refused INVALID (R97). -/
def Obligations.BindingsAndLineSettings : Prop :=
  (∀ (y : Yard) (code : Nat), y.yds.desc = .opened →
    (∀ (v : Valve) (p : Option Point), bindingOf code = some (.valve v) → y.yds.holderPresent v.holder = true →
      (∀ q ∈ p, 1 ≤ q.outstation ∧ q.outstation ≤ 30 ∧ q.channel ≤ 3) →
      Gives 0x16#8 .bind (formOf layBind)
        [some (code : Int), some 0, p.map fun q => ((q.outstation + 256 * q.channel : Nat) : Int)] y
        { y with yds := { y.yds with bind :=
          if v.side = .inlet then { y.yds.bind with inlet := y.yds.bind.inlet.set v.holder p }
          else { y.yds.bind with outlet := y.yds.bind.outlet.set v.holder p } } }
        (.answer .none [])) ∧
    (∀ (d : District) (p : Option Point), y.yds.districtPresent d = true →
      (∀ q ∈ p, 1 ≤ q.outstation ∧ q.outstation ≤ 30 ∧ q.channel ≤ 3) →
      let fs : List Field := [some (code : Int), some 0, p.map fun q => ((q.outstation + 256 * q.channel : Nat) : Int)]
      (bindingOf code = some (.governor d) →
        Gives 0x16#8 .bind (formOf layBind) fs y
          { y with yds := { y.yds with bind :=
            { y.yds.bind with governor := y.yds.bind.governor.set d p } } } (.answer .none [])) ∧
      (bindingOf code = some (.booster d) →
        Gives 0x16#8 .bind (formOf layBind) fs y
          { y with yds := { y.yds with bind :=
            { y.yds.bind with booster := y.yds.bind.booster.set d p } } } (.answer .none []))) ∧
    (∀ (q : Slot) (p : Point) (standby : Bool), bindingOf code = some (.slot q) → y.yds.slotPresent q = true →
      let old := y.yds.bind.slots.get q
      let fs : List Field :=
        [some (code : Int), some (if standby then 1 else 0), some ((p.outstation + 256 * p.channel : Nat) : Int)]
      let bound (b : SlotBind) : Yds := { y.yds with bind := { y.yds.bind with slots := y.yds.bind.slots.set q b } }
      (1 ≤ p.outstation → p.outstation ≤ 30 → p.channel ≤ 3 → q.isMeter = false → old.primary ≠ some p →
        old.standby ≠ some p →
        Gives 0x16#8 .bind (formOf layBind) fs y
          { y with yds := bound (if standby then ⟨old.primary, some p⟩ else ⟨some p, old.standby⟩) } (.answer .none [])) ∧
      (∀ m, 1 ≤ p.outstation → p.outstation ≤ 30 → p.channel ≤ 3 → q = meterSlot m → standby = false →
        old.primary ≠ some p → old.standby ≠ some p →
        Gives 0x16#8 .bind (formOf layBind) fs y
          { y with
            yds := bound ⟨some p, old.standby⟩
            qpr := { y.qpr with recs := y.qpr.recs.set q { y.qpr.recs.get q with base := none, scans := 0 } }
            soa := { y.soa with seen := y.soa.seen.set m ⟨none, none, none⟩ } }
          (.answer .none [])) ∧
      (∀ other r', q.isMeter = false → old = (if standby then ⟨other, r'⟩ else ⟨r', other⟩) →
        let freed : Yds := bound (if standby then ⟨other, none⟩ else ⟨none, other⟩)
        let r := y.qpr.recs.get q
        let declared := (y.yds.subs.get q).declared
        let source : Source := if declared = none then .none else .declared
        let unbound : Yard := { y with
          yds := freed
          qpr := { y.qpr with
            recs := y.qpr.recs.set q { r with value := declared, source := source, ranOut := false, candidate := none } } }
        let handed (h : Holder) (k : HolderDyn) : Yard :=
          { unbound with hsu := { y.hsu with holders := y.hsu.holders.set h k } }
        let releases (y' : Yard) : Prop :=
          Gives 0x16#8 .bind (formOf layBind) [some (code : Int), some (if standby then 1 else 0), none] y y' (.answer .none [])
        (other ≠ none → releases { y with yds := freed }) ∧
        (other = none → ∃ y', releases y' ∧ y'.yds = unbound.yds ∧ y'.qpr = unbound.qpr) ∧
        (other = none → (q = .yardTemp ∨ q = .outletPress ∨ q = .makePress ∨ ∃ d, q = .outletOf d ∨ q = .farPress d) →
          releases unbound) ∧
        (∀ h, other = none → q = .travel h → r.source ≠ source ∨ r.value ≠ declared →
          releases (handed h { y.hsu.holders.get h with travel := declared.map (⟨·, .declared⟩) })) ∧
        (∀ h, other = none → q = .gasTemp h → r.source ≠ source ∨ r.value ≠ declared →
          releases (handed h { y.hsu.holders.get h with temp := declared.map (⟨·, .declared⟩) })) ∧
        (other = none → q = .baro → r.source ≠ source ∨ r.value ≠ declared →
          releases { unbound with hsu := { y.hsu with baro := declared.map (⟨·, .declared⟩) } })) ∧
      (∀ m p₀, q = meterSlot m → old = ⟨some p₀, none⟩ →
        let declared := (y.yds.subs.get q).declared
        Gives 0x16#8 .bind (formOf layBind) [some (code : Int), some 0, none] y
          { y with
            yds := bound ⟨none, none⟩
            qpr := { y.qpr with
              recs := y.qpr.recs.set q { y.qpr.recs.get q with
                value := declared, source := if declared = none then .none else .declared, base := none, scans := 0,
                ranOut := false, candidate := none } }
            soa := { y.soa with seen := y.soa.seen.set m ⟨none, none, none⟩ } } (.answer .none [])) ∧
      (¬(1 ≤ p.outstation ∧ p.outstation ≤ 30 ∧ p.channel ≤ 3) ∨ (standby = true ∧ q.isMeter = true) ∨
          (standby = true ∧ old.primary = some p) ∨ (standby = false ∧ old.standby = some p) →
        p.outstation < 256 →
        ∃ f, Gives 0x16#8 .bind (formOf layBind) fs y y (.refuse .invalid [.u8 f])) ∧
      (1 ≤ p.outstation → p.outstation ≤ 30 → p.channel ≤ 3 → standby = false ∨ q.isMeter = false →
        (if standby then old.standby = some p ∧ old.primary ≠ some p else old.primary = some p ∧ old.standby ≠ some p) →
        Gives 0x16#8 .bind (formOf layBind) fs y y (.answer .none []))) ∧
    (∀ (b : Binding) (role : Bool) (p : Option Point), bindingOf code = some b → y.yds.bindingPresent b = true →
      (∀ q, b ≠ .slot q) → (∀ x ∈ p, x.outstation < 256) →
      role = true ∨ (∃ x ∈ p, ¬(1 ≤ x.outstation ∧ x.outstation ≤ 30 ∧ x.channel ≤ 3)) →
      ∃ f, Gives 0x16#8 .bind (formOf layBind)
        [some (code : Int), some (if role then 1 else 0), p.map fun q => ((q.outstation + 256 * q.channel : Nat) : Int)] y y
        (.refuse .invalid [.u8 f])) ∧
    (∀ (b : Binding) (x z : Option Int), bindingOf code = some b → y.yds.bindingPresent b = false →
      Gives 0x16#8 .bind (formOf layBind) [some (code : Int), x, z] y y (.refuse .noSuch [.u8 1]))) ∧
  (∀ (y : Yard) (rate window : Int), y.yds.desc = .opened →
    (∀ r, (rate = 600 ∧ r = .b600) ∨ (rate = 1200 ∧ r = .b1200) ∨ (rate = 2400 ∧ r = .b2400) → 10 ≤ window → window ≤ 250 →
      Gives 0x17#8 .lineSettings (formOf layLine) [some rate, some window] y
        { y with yds := { y.yds with line := ⟨r, window.toNat⟩ } } (.answer .none [])) ∧
    ((rate ≠ 600 ∧ rate ≠ 1200 ∧ rate ≠ 2400) ∨ window < 10 ∨ 250 < window →
      ∃ f, Gives 0x17#8 .lineSettings (formOf layLine) [some rate, some window] y y (.refuse .invalid [.u8 f])))

/-- The derived geometry of a record whose lifts are described: zone limits from 0 as running sums of the strokes, the full
stroke their last, top stop, landing point, and a cupping band about every zone limit but the last (R5). What the checks
of COMMIT come to: a COMMIT finds no fault exactly when every lift of a present holder is described, every present
holder's travel has a primary point, every stroke exceeds four half-widths, the margins and bands keep clear of one
another, coupled pairs are whole, boosters are bound, and every point bound is described with the kind that suits its
binding and bound once (R9). -/
def Obligations.GeometryAndCommitChecks : Prop :=
  (∀ (r : HolderRec) (ls : List Lift), r.lifts.toList.take r.count = ls.map some → ls.length = r.count → 1 ≤ r.count →
    (geometryOf r).zone0 = 0 ∧ (geometryOf r).zones.length = r.count ∧
    (∀ k, k < r.count → (geometryOf r).zones.getD k 0 = ((ls.take (k + 1)).map (·.stroke)).sum) ∧
    (geometryOf r).full = (ls.map (·.stroke)).sum ∧
    (geometryOf r).topStop = (ls.map (·.stroke)).sum - r.topMargin ∧ (geometryOf r).landing = r.landMargin ∧
    (geometryOf r).bands = (geometryOf r).zones.dropLast.map fun z => (z - r.cup, z + r.cup)) ∧
  (∀ y : Yard,
    let named := Binding.list.flatMap y.yds.bind.points
    commitFault y = none ↔
      (∀ h r, y.yds.holders.get h = some r →
        none ∉ r.lifts.toList.take r.count ∧ (y.yds.bind.slots.travel.get h).primary ≠ none ∧
        (∀ l, some l ∈ r.lifts.toList.take r.count → 4 * r.cup < l.stroke) ∧
        (geometryOf r).landing < (geometryOf r).topStop ∧
        (∀ b ∈ (geometryOf r).bands, (geometryOf r).landing < b.1 ∧ b.2 < (geometryOf r).topStop)) ∧
      (∀ h : Holder, h.leads = true → y.mvs.coupled.get h.pair = true →
        y.yds.holders.get h ≠ none ∧ y.yds.holders.get h.partner ≠ none) ∧
      (∀ d x, y.yds.districts.get d = some x → x.booster = true → y.yds.bind.booster.get d ≠ none) ∧
      (∀ b ∈ Binding.list, ∀ p ∈ y.yds.bind.points b,
        p.channel ≤ 3 ∧ ∃ e, y.scs.entryAt p.outstation = some e ∧ e.points.get p.channel = some b.kind) ∧
      named.Nodup)

/-- COMMIT while OPEN: with no fault the description is COMMITTED, every present holder's geometry is formed, a computation
handed for each that has a travel, a temperature and a barometer, the others being assessed UNKNOWN; no commanded set-point
stands, a district that waits for adoption is adopted from the state its booster reports, FAULT raising BOOSTER FAILED; with the
clock RUNNING the current day, whatever its number (the model's reading, log 45), is flagged PARTIAL, or a fresh day opened over
the stocks; nothing else of the description, the clock, the roster, the coupling or the closed records changes; with a fault it
is refused INVALID with the item class, the object and the check, and changes nothing (R5, R9, R10, R23, R30, R94, R146, R159).
A quantity with no point bound goes to its declared value by then, which may hand a computation or trip the yard of itself
(R138; that it does so at COMMIT, before HSU, is the model's, log 14); the computations are said where each stands there
already; the order H1 to H6 of the holders is the model's choice (log 52). RECOMMISSION: while COMMITTED it is refused ACTIVE
with the clock RUNNING or an order in the list, else the description is OPEN, every geometry withdrawn, the stocks and the
computations in hand dropped, the accepted samples and everything else of the description and of MVS kept; each present district
has no commanded set-point, no governor command pending, no run-up, no hysteresis count and the feed state DIRECT, and one with
a booster waits for adoption, its booster commanded NONE and its failed mark clear, while profile, trim, and what the governor
and the booster delivered and reported are kept; while OPEN it is answered and changes nothing (R11, R30, R94, R95). That a
RECOMMISSION clears the CLAMPED marks and sets the adoption waits IDLE is the model's reading (log 86). The codes of class,
object and check, and the field of a refusal that rests on none, are the model's choice (log 9, log 10). -/
def Obligations.CommitAndRecommission : Prop :=
  (∀ y : Yard, y.yds.desc = .opened →
    (commitFault y = none →
      ∃ y' : Yard, Gives 0x18#8 .commit (formOf []) [] y y' (.answer .none []) ∧
        y'.yds = { y.yds with
          desc := .committed
          geometry := ⟨y.yds.holders.h1.map geometryOf, y.yds.holders.h2.map geometryOf, y.yds.holders.h3.map geometryOf,
            y.yds.holders.h4.map geometryOf, y.yds.holders.h5.map geometryOf, y.yds.holders.h6.map geometryOf⟩ } ∧
        y'.gdc = y.gdc ∧ y'.ylc = y.ylc ∧ y'.mvs.coupled = y.mvs.coupled ∧ y'.scs.roster = y.scs.roster ∧
        y'.scs.loads = y.scs.loads ∧ y'.qpr.ring = y.qpr.ring ∧ y'.qpr.current = y.qpr.current ∧
        y'.soa.book = y.soa.book ∧ y'.soa.pending = y.soa.pending ∧
        y'.dgu.available = y.dgu.available ∧
        (let hsu (h : Holder) := y.hsu.holders.get h
        let present (h : Holder) : Bool := (y.yds.holders.get h).isSome
        let temp (h : Holder) : Option (Int × Option Source) :=
          match (hsu h).temp, y.qpr.recs.yardTemp.value with
          | some w, _ => some (w.value, some w.source)
          | none, some w => some (w, none)
          | none, none => none
        let job (h : Holder) : Option StockJob :=
          match y.yds.holders.get h, (hsu h).travel, temp h, y.hsu.baro with
          | some g, some t, some w, some b =>
            some ⟨h, y.yds.liftsOf h, (geometryOf g).zones, t.value, t.source, w.1, w.2, b.value⟩
          | _, _, _, _ => none
        let unbound (q : Slot) : Prop := y.yds.slotPresent q = true ∧ y.yds.bind.slots.get q = ⟨none, none⟩
        let declared (q : Slot) (r : QRec) : Prop := r.value = (y.yds.subs.get q).declared ∧
          r.source = if (y.yds.subs.get q).declared = none then .none else .declared
        (∀ q, unbound q → declared q (y'.qpr.recs.get q)) ∧
        ((∀ q, unbound q → declared q (y.qpr.recs.get q)) →
          (∀ q, ¬unbound q → y'.qpr.recs.get q = y.qpr.recs.get q) ∧
          y'.hsu.stockJobs = y.hsu.stockJobs ++ (Holder.list.filter present).filterMap job ∧
          y'.hsu.closingJobs = y.hsu.closingJobs ∧ y'.hsu.baro = y.hsu.baro ∧
          (∀ h, y'.hsu.holders.get h =
            if present h = true ∧ job h = none then { hsu h with status := .unknown } else hsu h) ∧
          (y.mvs.orders = [] → y'.scs = y.scs ∧
            ((∀ h g t, y.yds.holders.get h = some g → (hsu h).travel = some t → job h = none →
                t.value < (geometryOf g).full) →
              y'.mvs = { y.mvs with prevTravel := y'.mvs.prevTravel } ∧
              ∀ h, y'.mvs.prevTravel.get h =
                if present h = true ∧ job h = none then (hsu h).travel.map (·.value) else y.mvs.prevTravel.get h)))) ∧
        (y.gdc.clock = none → y'.soa = y.soa) ∧
        (∀ c, y.gdc.clock = some c →
          (y.soa.current = none →
            let counted := Holder.list.filter fun h => decide (y.yds.holders.get h ≠ none)
            let fresh : Day := ⟨c.day, c.weekday, c.dayType, ⟨true, false, false, false⟩, none,
              some ((counted.map fun h => (y'.hsu.holders.get h).stock.getD 0).sum,
                counted.any fun h => decide ((y'.hsu.holders.get h).status ≠ .good)),
              .all none, .all ⟨0, 0, 0, none, 0, 0, 0, false, 0, []⟩, none⟩
            y'.soa = { y.soa with current := some fresh }) ∧
          (∀ day, y.soa.current = some day →
            y'.soa = { y.soa with current := some { day with flags := { day.flags with part := true } } })) ∧
        (∀ d, y.yds.districts.get d = none → y'.dgu.districts.get d = y.dgu.districts.get d) ∧
        (∀ d, y.yds.districts.get d ≠ none →
          let r := y.dgu.districts.get d
          let r' := y'.dgu.districts.get d
          let adopted := { r with commanded := none, adoption := false, adoptWait := .idle }
          (r.adoption = false ∨ r.boosterRep = .unknown → r' = { r with commanded := none }) ∧
          (r.adoption = true → r.boosterRep = .running → r' = { adopted with feed := .boosted, hyst := 0 }) ∧
          (r.adoption = true → r.boosterRep = .stopped → r' = { adopted with feed := .direct }) ∧
          (r.adoption = true → r.boosterRep = .fault → r' = { adopted with feed := .direct, failed := true } ∧
            (y.mvs.orders = [] → y.notices.queue.length ≤ 16 →
              ∃ n ∈ y'.notices.queue, n.kind = .boosterFailed ∧ n.object = d.number ∧ n.datum = 4)))) ∧
    (∀ f, commitFault y = some f →
      Gives 0x18#8 .commit (formOf []) [] y y
        (.refuse .invalid [.u8 0, .u8 f.cls.code, .u8 f.object, .u8 f.check]))) ∧
  (∀ y : Yard,
    (y.yds.desc = .committed → y.gdc.clock ≠ none ∨ y.mvs.orders ≠ [] →
      Gives 0x19#8 .recommission (formOf []) [] y y (.refuse .active [.u8 0])) ∧
    (y.yds.desc = .committed → y.gdc.clock = none → y.mvs.orders = [] →
      ∃ y' : Yard, Gives 0x19#8 .recommission (formOf []) [] y y' (.answer .none []) ∧
        y'.yds = { y.yds with desc := .opened, geometry := .all none } ∧ y'.mvs = y.mvs ∧ y'.gdc = y.gdc ∧
        y'.ylc = y.ylc ∧ y'.scs = y.scs ∧ y'.qpr = y.qpr ∧ y'.soa = y.soa ∧ y'.notices = y.notices ∧
        y'.hsu.stockJobs = [] ∧ y'.hsu.closingJobs = [] ∧ y'.hsu.baro = y.hsu.baro ∧
        (∀ h, y'.hsu.holders.get h = ⟨(y.hsu.holders.get h).travel, (y.hsu.holders.get h).temp,
          (y.hsu.holders.get h).press, 0, 0, none, .unknown, false, none, false, 0, 0⟩) ∧
        y'.dgu.available = y.dgu.available ∧
        (∀ d, y.yds.districts.get d = none → y'.dgu.districts.get d = y.dgu.districts.get d) ∧
        (∀ d x, y.yds.districts.get d = some x →
          let r := y.dgu.districts.get d
          y'.dgu.districts.get d = { r with
            commanded := none, govPending := false, runUp := .idle, hyst := 0, feed := .direct,
            boosterCmd := if x.booster = true then .none else r.boosterCmd
            failed := if x.booster = true then false else r.failed
            adoption := x.booster, adoptWait := .idle })) ∧
    (y.yds.desc = .opened → Gives 0x19#8 .recommission (formOf []) [] y y (.answer .none [])))

/-! ### The adjustable settings (R8): a value outside its range becomes the nearer end, and the answer says CLAMPED -/

/-- SET HOLDER LIMITS, SET PROFILE and SET PEAK: the setting of a present holder or district is stored clamped, a peak
value below the base then standing becoming the base, or the slot is put out of use; a holder or district not present
refuses NO SUCH, a slot outside 1 to 3 INVALID, in use or not (R8, R74); that in use is sent as 1 and out of use as 0 is the
model's choice (log 7). A changed lag threshold makes the lag test, which
changes nothing while no order is RUNNING. The lag test: with two or more holders drawn, both of a coupled pair counting, each
whose contribution lies below the highest among them by more than its own threshold raises LAGGING HOLDER with the shortfall and
has its mark set, unless it stands already (R57, R58). That the notices come in the order H1 to H6 is the model's choice (log
60). -/
def Obligations.LimitsAndProgrammeSet : Prop :=
  ∀ y : Yard,
    (∀ (h : Holder) (tol lag : Int), y.yds.holders.get h ≠ none → (∀ o ∈ y.mvs.orders, o.state ≠ .running) →
      Gives 0x20#8 .setHolderLimits (formOf layLimits) [some (h.number : Int), some tol, some lag] y
        { y with yds := { y.yds with
          limits := y.yds.limits.set h ⟨min 1000 (max 50 tol), min 1000 (max 50 lag)⟩ } }
        (.answer (if 50 ≤ tol ∧ tol ≤ 1000 ∧ 50 ≤ lag ∧ lag ≤ 1000 then .none else .clamped) [])) ∧
    (∀ (h : Holder) (tol lag : Int), y.yds.holders.get h ≠ none →
      let stored : Yard := { y with yds := { y.yds with
        limits := y.yds.limits.set h ⟨min 1000 (max 50 tol), min 1000 (max 50 lag)⟩ } }
      Gives 0x20#8 .setHolderLimits (formOf layLimits) [some (h.number : Int), some tol, some lag] y
        (if (y.yds.limits.get h).lagThreshold = min 1000 (max 50 lag) then stored else lagTest stored)
        (.answer (if 50 ≤ tol ∧ tol ≤ 1000 ∧ 50 ≤ lag ∧ lag ≤ 1000 then .none else .clamped) [])) ∧
    (y.mvs.Lawful →
      let drawn := Holder.list.filter fun h =>
        y.mvs.orders.any fun o => decide (h ∈ y.mvs.worked o.holder ∧ o.state = .running ∧ o.kind ≠ .fill)
      let behind (h : Holder) : Int := (drawn.map (contribution y)).foldl max (contribution y h) - contribution y h
      (drawn.length < 2 → lagTest y = y) ∧
      (2 ≤ drawn.length →
        lagTest y = { y with
          mvs := { y.mvs with
            orders := y.mvs.orders.map fun o =>
              if o.state = .running ∧ o.kind ≠ .fill then
                { o with
                  lagOwn := o.lagOwn || decide ((y.yds.limits.get o.holder).lagThreshold < behind o.holder)
                  lagOther := o.lagOther || (y.mvs.isCoupled o.holder &&
                    decide ((y.yds.limits.get o.holder.partner).lagThreshold < behind o.holder.partner)) }
              else o }
          notices := (drawn.filter fun h =>
              y.mvs.orders.any fun o => decide (h ∈ y.mvs.worked o.holder ∧ o.state = .running ∧ o.kind ≠ .fill ∧
                (if o.holder = h then o.lagOwn else o.lagOther) = false ∧
                (y.yds.limits.get h).lagThreshold < behind h)).foldl
            (fun q h => q.raise .laggingHolder h.number (behind h) (y.gdc.clock.map (·.day)) (y.gdc.clock.map (·.period)))
            y.notices })) ∧
    (∀ (h : Holder) (tol lag : Int), y.yds.holders.get h = none →
      Gives 0x20#8 .setHolderLimits (formOf layLimits) [some (h.number : Int), some tol, some lag] y y
        (.refuse .noSuch [.u8 1])) ∧
    (∀ (d : District) (base : Int), y.yds.districts.get d ≠ none →
      Gives 0x21#8 .setProfile (formOf layProfile) [some (d.number : Int), some base] y
        { y with yds := { y.yds with
          programme := y.yds.programme.set d { y.yds.programme.get d with base := min 5000 (max 500 base) } } }
        (.answer (if 500 ≤ base ∧ base ≤ 5000 then .none else .clamped) [])) ∧
    (∀ (d : District) (base : Int), y.yds.districts.get d = none →
      Gives 0x21#8 .setProfile (formOf layProfile) [some (d.number : Int), some base] y y (.refuse .noSuch [.u8 1])) ∧
    (∀ (d : District) (k : Nat) (s l h t v : Int), y.yds.districts.get d ≠ none → 1 ≤ k → k ≤ 3 →
      Gives 0x22#8 .setPeak formPeak
        [some (d.number : Int), some (k : Int), some 1, some s, some l, some h, some t, some v] y
        { y with yds := { y.yds with
          programme := y.yds.programme.set d { y.yds.programme.get d with
            peaks := (y.yds.programme.get d).peaks.set k (some
              ⟨(min 95 (max 0 s)).toNat, (min 8 (max 0 l)).toNat, (min 32 (max 1 h)).toNat, (min 8 (max 0 t)).toNat,
                max (min 5000 (max 500 v)) (y.yds.programme.get d).base⟩) } } }
        (.answer (if 0 ≤ s ∧ s ≤ 95 ∧ 0 ≤ l ∧ l ≤ 8 ∧ 1 ≤ h ∧ h ≤ 32 ∧ 0 ≤ t ∧ t ≤ 8 ∧
          max (min 5000 (max 500 v)) (y.yds.programme.get d).base = v then .none else .clamped) [])) ∧
    (∀ (d : District) (k : Nat), y.yds.districts.get d ≠ none → 1 ≤ k → k ≤ 3 →
      Gives 0x22#8 .setPeak formPeak [some (d.number : Int), some (k : Int), some 0] y
        { y with yds := { y.yds with
          programme := y.yds.programme.set d { y.yds.programme.get d with
            peaks := (y.yds.programme.get d).peaks.set k none } } }
        (.answer .none [])) ∧
    (∀ (d : District) (k : Nat) (s l h t v : Int),
      let used : List Field := [some (d.number : Int), some (k : Int), some 1, some s, some l, some h, some t, some v]
      let free : List Field := [some (d.number : Int), some (k : Int), some 0]
      (y.yds.districts.get d ≠ none → k = 0 ∨ 3 < k →
        Gives 0x22#8 .setPeak formPeak used y y (.refuse .invalid [.u8 2]) ∧
        Gives 0x22#8 .setPeak formPeak free y y (.refuse .invalid [.u8 2])) ∧
      (y.yds.districts.get d = none →
        Gives 0x22#8 .setPeak formPeak used y y (.refuse .noSuch [.u8 1]) ∧
        Gives 0x22#8 .setPeak formPeak free y y (.refuse .noSuch [.u8 1])))

/-- SET TRIM and SET FEED: the four settings of a present district are stored clamped, and a present trim beyond the new
max trim is clamped at once, which also answers CLAMPED; a SET FEED that names no district stores the yard loss
allowance; a district not present refuses NO SUCH (R80). -/
def Obligations.GoverningSettingsStored : Prop :=
  ∀ y : Yard,
    (∀ (d : District) (target band step limit : Int), y.yds.districts.get d ≠ none →
      let m := min 500 (max 0 limit)
      let trim := (y.dgu.districts.get d).trim
      Gives 0x23#8 .setTrim (formOf layTrim) [some (d.number : Int), some target, some band, some step, some limit] y
        { y with
          yds := { y.yds with
            trimSet := y.yds.trimSet.set d
              (.mk (min 3000 (max 200 target)) (min 1000 (max 0 band)) (min 200 (max 5 step)) m) }
          dgu := { y.dgu with
            districts := y.dgu.districts.set d { y.dgu.districts.get d with trim := min m (max (-m) trim) } } }
        (.answer (if 200 ≤ target ∧ target ≤ 3000 ∧ 0 ≤ band ∧ band ≤ 1000 ∧ 5 ≤ step ∧ step ≤ 200 ∧ 0 ≤ limit ∧
          limit ≤ 500 ∧ -m ≤ trim ∧ trim ≤ m then .none else .clamped) [])) ∧
    (∀ (d : District) (slew drop hyst runUp : Int), y.yds.districts.get d ≠ none →
      Gives 0x24#8 .setFeed formFeed [some (d.number : Int), some slew, some drop, some hyst, some runUp] y
        { y with yds := { y.yds with
          feedSet := y.yds.feedSet.set d
            (.mk (min 200 (max 5 slew)) (min 2000 (max 0 drop)) (min 1000 (max 0 hyst)) (min 300 (max 10 runUp)).toNat) } }
        (.answer (if 5 ≤ slew ∧ slew ≤ 200 ∧ 0 ≤ drop ∧ drop ≤ 2000 ∧ 0 ≤ hyst ∧ hyst ≤ 1000 ∧ 10 ≤ runUp ∧
          runUp ≤ 300 then .none else .clamped) [])) ∧
    (∀ allowance : Int,
      Gives 0x24#8 .setFeed formFeed [none, some allowance] y
        { y with yds := { y.yds with yardLoss := min 2000 (max 0 allowance) } }
        (.answer (if 0 ≤ allowance ∧ allowance ≤ 2000 then .none else .clamped) [])) ∧
    (∀ (d : District) (a b c e : Int), y.yds.districts.get d = none →
      Gives 0x23#8 .setTrim (formOf layTrim) [some (d.number : Int), some a, some b, some c, some e] y y
        (.refuse .noSuch [.u8 1]) ∧
      Gives 0x24#8 .setFeed formFeed [some (d.number : Int), some a, some b, some c, some e] y y
        (.refuse .noSuch [.u8 1]))

/-- The yard-wide settings, each stored clamped: SET LAG 0 to 8, SET DAY PATTERN its seven marks, SET PERIOD MARK 0 to
95 or OFF, SET CV 10,000 to 30,000 with the make factor 1 to 10,000,000, SET BALANCE LIMIT 0 to 200, SET SCAN 5 to 60 s,
SET VALVE LIMIT 20 to 600 s (R33, R72, R74, R77, R123, R145). -/
def Obligations.YardSettingsStored : Prop :=
  ∀ (y : Yard) (v w : Int),
    Gives 0x25#8 .setLag (formOf layObject) [some v] y
      { y with yds := { y.yds with lag := (min 8 (max 0 v)).toNat } }
      (.answer (if 0 ≤ v ∧ v ≤ 8 then .none else .clamped) []) ∧
    (∀ a b c d e f g : Bool,
      let mark (x : Bool) : Field := some (if x then 1 else 0)
      Gives 0x26#8 .setDayPattern (formOf layPattern) [mark a, mark b, mark c, mark d, mark e, mark f, mark g] y
        { y with yds := { y.yds with dayPattern := [a, b, c, d, e, f, g] } } (.answer .none [])) ∧
    Gives 0x27#8 .setPeriodMark (formOf layMark) [some v] y
      { y with yds := { y.yds with periodMark := some (min 95 (max 0 v)).toNat } }
      (.answer (if 0 ≤ v ∧ v ≤ 95 then .none else .clamped) []) ∧
    Gives 0x27#8 .setPeriodMark (formOf layMark) [none] y
      { y with yds := { y.yds with periodMark := none } } (.answer .none []) ∧
    Gives 0x28#8 .setCv (formOf layCv) [some v, some w] y
      { y with yds := { y.yds with
        cv := min 30000 (max 10000 v)
        makeFactor := min 10000000 (max 1 w) } }
      (.answer (if 10000 ≤ v ∧ v ≤ 30000 ∧ 1 ≤ w ∧ w ≤ 10000000 then .none else .clamped) []) ∧
    Gives 0x29#8 .setBalanceLimit (formOf layFigure) [some v] y
      { y with yds := { y.yds with balanceLimit := min 200 (max 0 v) } }
      (.answer (if 0 ≤ v ∧ v ≤ 200 then .none else .clamped) []) ∧
    Gives 0x2A#8 .setScan (formOf layFigure) [some v] y
      { y with yds := { y.yds with scan := (min 60 (max 5 v)).toNat } }
      (.answer (if 5 ≤ v ∧ v ≤ 60 then .none else .clamped) []) ∧
    Gives 0x2C#8 .setValveLimit (formOf layFigure) [some v] y
      { y with yds := { y.yds with valveLimit := (min 600 (max 20 v)).toNat } }
      (.answer (if 20 ≤ v ∧ v ≤ 600 then .none else .clamped) [])

/-- SET SUBSTITUTE for a present slot that is no meter, whose source is LIVE or STANDBY with its value in the new range: the
range, the hold limit and the declared value are stored, each clamped to its own range, and nothing else changes; for a meter
the hold and jump limits are stored and the range stands; a declared value for a meter is refused INVALID, the slot of an absent
object NO SUCH (R135). A value outside the new range, LIVE, STANDBY or HELD, is brought into it; a DECLARED quantity takes the
new declared value, or becomes NONE where it is none; a NONE one becomes DECLARED where it has no point bound or its hold has
run out; a HELD one at or above the new hold limit becomes DECLARED or NONE; what changes is handed to HSU (R135, R138). The
remembered run-out is the model's reading (log 40). That the range fields carried for a meter are not looked at, so that they
never make the answer CLAMPED, is the model's choice (log 76). The place of a field in the payload is the model's choice where
R173 leaves it open (log 7). -/
def Obligations.SubstituteStored : Prop :=
  ∀ (y : Yard) (q : Slot) (low high hold : Int),
    let r := y.qpr.recs.get q
    let old := y.yds.subs.get q
    (y.yds.slotPresent q = true → q.isMeter = false → ∀ declared : Option Int,
      let l := min q.outer.2 (max q.outer.1 low)
      let u := min q.outer.2 (max l high)
      let d := declared.map fun v => min u (max l v)
      (r.source = .live ∨ r.source = .standby) → (∀ v ∈ r.value, l ≤ v ∧ v ≤ u) →
      Gives 0x2B#8 .setSubstitute (formOf laySubstitute)
        [some (q.code : Int), some low, some high, some hold, declared, none] y
        { y with yds := { y.yds with
          subs := y.yds.subs.set q ⟨l, u, (min 8 (max 0 hold)).toNat, d, old.jump⟩ } }
        (.answer (if l = low ∧ u = high ∧ 0 ≤ hold ∧ hold ≤ 8 ∧ d = declared then .none else .clamped) [])) ∧
    (y.yds.slotPresent q = true → q.isMeter = false → ∀ declared : Option Int,
      let l := min q.outer.2 (max q.outer.1 low)
      let u := min q.outer.2 (max l high)
      let n := (min 8 (max 0 hold)).toNat
      let d := declared.map fun v => min u (max l v)
      let stored : Yds := { y.yds with subs := y.yds.subs.set q ⟨l, u, n, d, old.jump⟩ }
      let brought : QRec := { r with value := r.value.map fun v => min u (max l v) }
      let put (ranOut : Bool) : QRec :=
        { r with value := d, source := if d = none then .none else .declared, ranOut := ranOut }
      let r' : QRec := match r.source with
        | .live => brought
        | .standby => brought
        | .held => if n ≤ r.since then put true else brought
        | .declared => put r.ranOut
        | .none => if d ≠ none ∧ (r.ranOut = true ∨ y.yds.bind.slots.get q = ⟨none, none⟩) then put r.ranOut else r
      let gives (y' : Yard) : Prop :=
        Gives 0x2B#8 .setSubstitute (formOf laySubstitute)
          [some (q.code : Int), some low, some high, some hold, declared, none] y y'
          (.answer (if l = low ∧ u = high ∧ 0 ≤ hold ∧ hold ≤ 8 ∧ d = declared then .none else .clamped) [])
      let sampled : Option Sampled := if r'.source = .none then none else r'.value.map (⟨·, r'.source⟩)
      (∃ y', gives y' ∧ y'.yds = stored ∧ y'.qpr = { y.qpr with recs := y.qpr.recs.set q r' } ∧
        (r' ≠ r →
          (∀ h, q = .travel h → (y'.hsu.holders.get h).travel = sampled) ∧
          (∀ h, q = .gasTemp h → (y'.hsu.holders.get h).temp = sampled) ∧
          (∀ h, q = .holderPress h → (y'.hsu.holders.get h).press = sampled) ∧
          (q = .baro → y'.hsu.baro = sampled))) ∧
      ((q = .outletPress ∨ q = .makePress ∨ ∃ x, q = .outletOf x ∨ q = .farPress x) →
        gives { y with yds := stored, qpr := { y.qpr with recs := y.qpr.recs.set q r' } })) ∧
    (y.yds.slotPresent q = true → q.isMeter = true → ∀ jump : Int,
      let n := (min 8 (max 0 hold)).toNat
      let emptied (ranOut : Bool) : QRec := { r with value := none, source := .none, ranOut := ranOut }
      let r' : QRec := match r.source with
        | .held => if n ≤ r.since then emptied true else r
        | .declared => emptied r.ranOut
        | _ => r
      Gives 0x2B#8 .setSubstitute (formOf laySubstitute)
        [some (q.code : Int), some low, some high, some hold, none, some jump] y
        { y with
          yds := { y.yds with subs := y.yds.subs.set q ⟨old.low, old.high, n, none, min 999999 (max 1 jump)⟩ }
          qpr := { y.qpr with recs := y.qpr.recs.set q r' } }
        (.answer (if 0 ≤ hold ∧ hold ≤ 8 ∧ 1 ≤ jump ∧ jump ≤ 999999 then .none else .clamped) [])) ∧
    (y.yds.slotPresent q = true → q.isMeter = true → ∀ (v : Int) (jump : Option Int),
      Gives 0x2B#8 .setSubstitute (formOf laySubstitute)
        [some (q.code : Int), some low, some high, some hold, some v, jump] y y (.refuse .invalid [.u8 5])) ∧
    (y.yds.slotPresent q = false → ∀ declared jump : Option Int,
      Gives 0x2B#8 .setSubstitute (formOf laySubstitute)
        [some (q.code : Int), some low, some high, some hold, declared, jump] y y (.refuse .noSuch [.u8 1]))

/-! ### The gas-day clock (04) -/

/-- SET TIME: a field out of its range is refused INVALID; a running clock takes the second alone when day, weekday and period
agree, else refuses RUNNING; with the clock UNSET and no resume point it is set RUNNING, the day type fixed by the forced type
or the rest-day pattern, the resume point written, the profile values formed, a record opened that is PARTIAL when the second is
not 0, and while COMMITTED a fresh day opened in the accounts, flagged PARTIAL; last the period mark test is made (R68, R69,
R72, R75, R77, R141, R146). That the weekday index is one byte of the payload is the model's choice (log 7). -/
def Obligations.ClockSet : Prop :=
  ∀ (y : Yard) (day wd p sec : Nat),
    let fs : List Field := [some (day : Int), some (wd : Int), some (p : Int), some (sec : Int)]
    let good := 1 ≤ day ∧ day ≤ 65535 ∧ wd ≤ 6 ∧ p ≤ 95 ∧ sec ≤ 899
    (¬good → ∃ f, Gives 0x30#8 .setTime (formOf layTime) fs y y (.refuse .invalid [.u8 f])) ∧
    (∀ c, good → y.gdc.clock = some c → c.day = day → c.weekday = wd → c.period = p →
      Gives 0x30#8 .setTime (formOf layTime) fs y
        { y with gdc := { y.gdc with clock := some { c with second := sec } } } (.answer .none [])) ∧
    (∀ c, good → y.gdc.clock = some c → ¬(c.day = day ∧ c.weekday = wd ∧ c.period = p) →
      ∃ f, Gives 0x30#8 .setTime (formOf layTime) fs y y (.refuse .running [.u8 f])) ∧
    (good → y.gdc.clock = none → y.gdc.resume = none →
      let t := y.gdc.forcedNow.getD (if y.yds.dayPattern.getD wd false then .rest else .working)
      ∃ y' : Yard, Gives 0x30#8 .setTime (formOf layTime) fs y y' (.answer .none []) ∧
        y' = { y with
          gdc := y'.gdc, mvs := y'.mvs, scs := { y.scs with commands := y'.scs.commands }, dgu := y'.dgu, qpr := y'.qpr,
          soa := y'.soa, notices := y'.notices } ∧
        y'.gdc = { y.gdc with
          clock := some ⟨day, wd, p, sec, t, decide (sec ≠ 0)⟩, forcedNext := none, resume := some ⟨day, wd, t, none⟩,
          markDay := y'.gdc.markDay } ∧
        y.MarkTested y' ⟨day, wd, p, sec, t, decide (sec ≠ 0)⟩ ∧
        y'.qpr = { y.qpr with
          current := some ⟨day, p, decide (sec ≠ 0), false, false, 0, .make fun _ => .empty⟩ } ∧
        (∀ d, y.yds.districts.get d ≠ none →
          y'.dgu.districts.get d = { y.dgu.districts.get d with
            profile := profileValue (y.yds.programme.get d) y.yds.lag t p, failed := false }) ∧
        (y.yds.desc = .opened → y'.soa = y.soa) ∧
        (y.yds.desc = .committed →
          y'.soa = { y.soa with
            current := some (.opened day wd t ⟨true, false, false, false⟩ (some (freshOpening y))) }))

/-- SET TIME with the clock UNSET and a resume point, days compared round the ring of 65,535: an earlier day, or the same day at
or before the last closed period, is refused BACKWARD; the same day after it resumes the day; a later day begins a new one, the
old day, if one stands in the accounts, being closed PARTIAL as the last entry of the day book. The answer gives the case and
the number of periods skipped, and the record opened is flagged GAP when there are any; last the period mark test is made (R70,
R77, R154). In the accounts, while COMMITTED: the current day of the day resumed is flagged PARTIAL; a new day opens with the
closing stock of the day closed, with its estimated mark, as opening stock, flagged PARTIAL; where no day is current a fresh day
opens over the stocks, flagged PARTIAL; each is flagged GAP when periods were skipped (R146, R154, R180). While OPEN the
accounts open no day (R159). A holder counts in that closing stock with the closing stock held for the day's last closed period,
and 0 with the mark where it has none, which is the model's reading (log 16). How the payload, the data and the case are coded
is the model's choice (log 7, log 8, log 67). -/
def Obligations.ClockResumed : Prop :=
  ∀ (y : Yard) (day wd p sec : Nat) (r : Resume), 1 ≤ day → day ≤ 65535 → wd ≤ 6 → p ≤ 95 → sec ≤ 899 →
    y.gdc.clock = none → y.gdc.resume = some r →
    let fs : List Field := [some (day : Int), some (wd : Int), some (p : Int), some (sec : Int)]
    let distance := ((day : Int) - (r.day : Int)) % 65535
    let t := y.gdc.forcedNow.getD (if y.yds.dayPattern.getD wd false then .rest else .working)
    (32767 < distance → ∃ f, Gives 0x30#8 .setTime (formOf layTime) fs y y (.refuse .backward [.u8 f])) ∧
    (∀ l, distance = 0 → r.lastClosed = some l → p ≤ l →
      ∃ f, Gives 0x30#8 .setTime (formOf layTime) fs y y (.refuse .backward [.u8 f])) ∧
    (∀ first, distance = 0 → (r.lastClosed = none ∧ first = 0) ∨ (∃ l, r.lastClosed = some l ∧ first = l + 1) → first ≤ p →
      ∃ y' : Yard, Gives 0x30#8 .setTime (formOf layTime) fs y y' (.answer .none [.u8 0, .u8 (p - first)]) ∧
        y'.gdc = { y.gdc with
          clock := some ⟨day, wd, p, sec, t, decide (sec ≠ 0)⟩, forcedNext := none,
          resume := some ⟨day, wd, t, r.lastClosed⟩, markDay := y'.gdc.markDay } ∧
        y'.qpr = { y.qpr with
          current := some ⟨day, p, decide (sec ≠ 0), decide (first < p), false, 0, .make fun _ => .empty⟩ } ∧
        y.MarkTested y' ⟨day, wd, p, sec, t, decide (sec ≠ 0)⟩ ∧
        (y.yds.desc = .opened → y'.soa = y.soa) ∧
        (∀ d, y.yds.desc = .committed → y.soa.current = some d → y'.soa = { y.soa with
          current := some { d with flags := { d.flags with part := true, gap := d.flags.gap || decide (first < p) } } }) ∧
        (y.yds.desc = .committed → y.soa.current = none → y'.soa = { y.soa with
          current := some (.opened day wd t ⟨true, false, false, decide (first < p)⟩ (some (freshOpening y))) }) ∧
        y'.soa.book = y.soa.book ∧ y'.yds = y.yds ∧ y'.hsu = y.hsu ∧ y'.ylc = y.ylc ∧ y'.mvs.coupled = y.mvs.coupled) ∧
    (1 ≤ distance → distance ≤ 32767 →
      ∃ y' : Yard, Gives 0x30#8 .setTime (formOf layTime) fs y y' (.answer .none [.u8 1, .u8 p]) ∧
        y'.gdc = { y.gdc with
          clock := some ⟨day, wd, p, sec, t, decide (sec ≠ 0)⟩, forcedNext := none, resume := some ⟨day, wd, t, none⟩,
          markDay := y'.gdc.markDay } ∧
        y'.qpr.current = some ⟨day, p, decide (sec ≠ 0), decide (0 < p), false, 0, .make fun _ => .empty⟩ ∧
        y'.qpr.markerAwaited = true ∧ y.MarkTested y' ⟨day, wd, p, sec, t, decide (sec ≠ 0)⟩ ∧
        (let opened (o : Int × Bool) : Day := .opened day wd t ⟨true, false, false, decide (0 < p)⟩ (some o)
        (∀ d, y.soa.current = some d →
          let present := Holder.list.filter fun h => (y.yds.holders.get h).isSome
          let stock (h : Holder) : Option DayClosing := (d.closings.get h).filter fun c => d.lastClosed = some c.period
          let est := present.any fun h => !((stock h).any fun c => c.stock.isSome && c.status == .good)
          ∃ e, y'.soa.book.getLast? = some e ∧ e.day = d.day ∧ e.flags.part = true ∧
            e.closing = (present.map fun h => ((stock h).bind (·.stock)).getD 0).sum ∧
            y'.soa.current = if y.yds.desc = .committed then some (opened (e.closing, est)) else none) ∧
        (y.soa.current = none → y.soa.pending = none →
          y'.soa = if y.yds.desc = .committed then { y.soa with current := some (opened (freshOpening y)) } else y.soa)) ∧
        y'.yds = y.yds ∧ y'.hsu = y.hsu ∧ y'.ylc = y.ylc ∧ y'.mvs.coupled = y.mvs.coupled)

/-- STOP CLOCK: the open record is closed PARTIAL, the resume point keeps the period as the last closed, the clock is
UNSET and the forced types absent; with the clock UNSET it changes nothing (R71, R142). FORCE DAY while COMMITTED: CLOCK
UNSET without a running clock; for the next day it sets the forced type alone; for the current day the forced type, the
current day type and the type of the resume point, the data giving the type held before; then the period mark test:
PERIOD MARK is raised exactly when the current period is the mark period of the day and the mark has not been raised for
that day (R73, R77). How the data are coded is the model's choice (log 8). -/
def Obligations.ClockStoppedDayForced : Prop :=
  (∀ y : Yard,
    (y.gdc.clock = none → Gives 0x31#8 .stopClock (formOf []) [] y y (.answer .none [])) ∧
    (∀ c, y.gdc.clock = some c →
      ∃ y' : Yard, Gives 0x31#8 .stopClock (formOf []) [] y y' (.answer .none []) ∧
        y'.gdc = { y.gdc with
          clock := none, forcedNow := none, forcedNext := none,
          resume := y.gdc.resume.map fun r => { r with lastClosed := some c.period } } ∧
        y'.qpr.current = none ∧ y'.qpr.holdFrom = y.now ∧
        (∀ rec, y.qpr.current = some rec →
          ∃ r, y'.qpr.ring.getLast? = some r ∧ r.day = rec.day ∧ r.period = rec.period ∧ r.partialFlag = true) ∧
        y'.yds = y.yds ∧ y'.ylc = y.ylc ∧ y'.scs.roster = y.scs.roster ∧ y'.mvs.coupled = y.mvs.coupled ∧
        y'.now = y.now)) ∧
  (∀ (y : Yard) (t : DayType), y.yds.desc = .committed →
    (y.gdc.clock = none → ∀ next : Bool,
      Gives 0x32#8 .forceDay (formOf layForce) [some (if next then 1 else 0), some (if t = .rest then 1 else 0)] y y
        (.refuse .clockUnset [.u8 0])) ∧
    (∀ c, y.gdc.clock = some c →
      Gives 0x32#8 .forceDay (formOf layForce) [some 1, some (if t = .rest then 1 else 0)] y
        { y with gdc := { y.gdc with forcedNext := some t } } (.answer .none [.u8 (typeCode y.gdc.forcedNext)])) ∧
    (∀ c, y.gdc.clock = some c →
      let marked := ∃ m, y.yds.periodMark = some m ∧ c.period = (if t = .rest then m + y.yds.lag else m) ∧ c.period ≤ 95 ∧
        y.gdc.markDay ≠ some c.day
      let g : Gdc := { y.gdc with
        forcedNow := some t, clock := some { c with dayType := t },
        resume := y.gdc.resume.map fun r => { r with dayType := t } }
      (¬marked →
        Gives 0x32#8 .forceDay (formOf layForce) [some 0, some (if t = .rest then 1 else 0)] y { y with gdc := g }
          (.answer .none [.u8 c.dayType.code])) ∧
      (marked →
        Gives 0x32#8 .forceDay (formOf layForce) [some 0, some (if t = .rest then 1 else 0)] y
          { y with
            gdc := { g with markDay := some c.day }
            notices := y.notices.raise .periodMark 0 ((c.period + 256 * t.code : Nat) : Int) (some c.day)
              (some c.period) }
          (.answer .none [.u8 c.dayType.code]))))

/-- CLOCK_SECOND: a second of the time base passes; a running clock's second rises by 1 (the second that reaches 900 is
PERIOD_END's), and nothing else changes (R66). UNSET_HOLD_TICK with the clock UNSET: the periods since good of every
present quantity rise by 1, at most to 255, and a quantity that is HELD at or above its hold limit becomes DECLARED with
its declared value, or NONE (R138). That its hold having run out is remembered is the model's reading (log 40), and the unit
of the time base, 24,000 to the second, its choice (log 3). -/
def Obligations.SecondsPass : Prop :=
  (∀ s : State, s.powered = true →
    (∀ c, s.yard.gdc.clock = some c → c.second < 899 →
      exec .clockSecond s =
        concluded { s with yard := { s.yard with
          secondMark := s.yard.secondMark + 24000
          now := max s.yard.now (s.yard.secondMark + 24000)
          gdc := { s.yard.gdc with clock := some { c with second := c.second + 1 } } } }) ∧
    (s.yard.gdc.clock = none →
      exec .clockSecond s =
        concluded { s with yard := { s.yard with
          secondMark := s.yard.secondMark + 24000
          now := max s.yard.now (s.yard.secondMark + 24000) } })) ∧
  (∀ s : State, s.powered = true → s.yard.gdc.clock = none →
    ∃ y' : Yard, exec .unsetHoldTick s = concluded { s with yard := y' } ∧
      y'.qpr.holdFrom = s.yard.qpr.holdFrom + 900 * 24000 ∧
      (∀ q, s.yard.yds.slotPresent q = true →
        let r := s.yard.qpr.recs.get q
        let n := if r.since < 255 then r.since + 1 else r.since
        y'.qpr.recs.get q =
          if r.source = .held ∧ (s.yard.yds.subs.get q).hold ≤ n then
            { r with
              since := n, ranOut := true, value := (s.yard.yds.subs.get q).declared,
              source := if (s.yard.yds.subs.get q).declared = none then .none else .declared }
          else { r with since := n }) ∧
      (∀ q, s.yard.yds.slotPresent q = false → y'.qpr.recs.get q = s.yard.qpr.recs.get q) ∧
      y'.qpr.ring = s.yard.qpr.ring ∧ y'.qpr.current = s.yard.qpr.current ∧ y'.yds = s.yard.yds ∧
      y'.gdc = s.yard.gdc ∧ y'.dgu = s.yard.dgu ∧ y'.ylc = s.yard.ylc ∧ y'.soa = s.yard.soa)

/-- PERIOD_END while the clock is RUNNING: the period closes and the next is opened; after period 95 the day number and the
weekday advance round their rings, the forced type for the next day becomes that of the current day, the day type is fixed and
the DAY marker asked for. The record of the old period ends the ring, the profile values are formed for the new period, and the
description stands (R66, R67, R72, R75, R141, R142). The record holds of every present quantity the source at the close, and its
value where no sample came; it is INCOMPLETE with the number of bound quantities without a sample, and then PERIOD INCOMPLETE is
raised (R142). While COMMITTED, HSU hands CU the closing computation of each present holder that the record gives a travel, a
temperature and a barometer, and records the standing stock with UNKNOWN for the others (R25); and SOA takes its open day on:
last closed period and flags PARTIAL, GAP and ESTIMATED, and for each bound meter, the make first, its accumulator handed as a
correction where the record gives all three conditions, else taken as the volume, ESTIMATED (R148, R149). After period 95 that
day is the pending one, its latches not reported, and a new day is open, with no opening stock (R151). Last the period mark test
is made: PERIOD MARK is raised exactly when the new period is the mark period of its day and the mark has not been raised for
that day (R77). A closed record moves the trim of a present district whose FAR PRESS is bound and has samples in it: up by the
step where the minimum lies below the band about the far target, down where it lies above, held within the max trim; no other
trim, and none while OPEN (R87). That the boundary may be worked from any second, and that the closing computations are handed
in the order H1 to H6, is the model's choice (log 39, log 52). -/
def Obligations.PeriodAdvances : Prop :=
  (∀ (y : Yard) (rec : PeriodRec) (d : District),
    let e := rec.entries.farPress.get d
    let bound := y.yds.bind.slots.farPress.get d ≠ ⟨none, none⟩
    let set := y.yds.trimSet.get d
    let r := y.dgu.districts.get d
    (∀ m, y.yds.desc = .committed → y.yds.districts.get d ≠ none → bound → 0 < e.count → e.low = some m →
      0 ≤ set.maxTrim →
      (dguRecord rec y).dgu.districts.get d =
        { r with trim := min set.maxTrim (max (-set.maxTrim)
          (if m < set.farTarget - set.farBand then r.trim + set.step
            else if set.farTarget + set.farBand < m then r.trim - set.step else r.trim)) }) ∧
    (y.yds.desc = .opened ∨ y.yds.districts.get d = none ∨ ¬bound ∨ e.count = 0 →
      (dguRecord rec y).dgu.districts.get d = r) ∧
    dguRecord rec y = { y with dgu := (dguRecord rec y).dgu } ∧
    (dguRecord rec y).dgu.available = y.dgu.available) ∧
  ∀ (s : State) (c : ClockTime), s.powered = true → s.yard.gdc.clock = some c → c.period ≤ 95 →
    let y := s.yard
    ∃ y' : Yard, exec .periodEnd s = concluded { s with yard := y' } ∧
      (c.period < 95 →
        y'.gdc = { y.gdc with
          clock := some { c with period := c.period + 1, second := 0, partialMark := false }
          resume := y.gdc.resume.map fun r => { r with lastClosed := some c.period }
          markDay := y'.gdc.markDay } ∧
        y'.scs.dayOwed = y.scs.dayOwed ∧ y'.qpr.markerAwaited = y.qpr.markerAwaited ∧
        y'.qpr.current = some ⟨c.day, c.period + 1, false, false, false, 0, .make fun _ => .empty⟩ ∧
        (∀ d, y.yds.districts.get d ≠ none → (y'.dgu.districts.get d).profile =
          profileValue (y.yds.programme.get d) y.yds.lag c.dayType (c.period + 1))) ∧
      (c.period = 95 →
        let day := if c.day < 65535 then c.day + 1 else 1
        let wd := if c.weekday < 6 then c.weekday + 1 else 0
        let t := y.gdc.forcedNext.getD (if y.yds.dayPattern.getD wd false then .rest else .working)
        y'.gdc = ⟨some ⟨day, wd, 0, 0, t, false⟩, y.gdc.forcedNext, none, some ⟨day, wd, t, none⟩, y'.gdc.markDay⟩ ∧
        y'.scs.dayOwed = true ∧ y'.qpr.markerAwaited = true ∧
        y'.qpr.current = some ⟨day, 0, false, false, false, 0, .make fun _ => .empty⟩ ∧
        (∀ d, y.yds.districts.get d ≠ none → (y'.dgu.districts.get d).profile =
          profileValue (y.yds.programme.get d) y.yds.lag t 0)) ∧
      (∀ rec, y.qpr.current = some rec →
        ∃ r, y'.qpr.ring.getLast? = some r ∧ r.day = rec.day ∧ r.period = rec.period ∧
          r.partialFlag = (rec.partialFlag || c.partialMark) ∧ r.gap = rec.gap ∧
          r.nIncomplete = (Slot.list.filter fun q =>
            y.yds.slotPresent q && y.yds.slotBound q && decide ((rec.entries.get q).count = 0)).length ∧
          r.incomplete = decide (0 < r.nIncomplete) ∧
          (r.nIncomplete = 0 → ∀ n ∈ y'.notices.queue, n.kind = .periodIncomplete → n ∈ y.notices.queue) ∧
          (0 < r.nIncomplete → y.notices.queue = [] →
            ∃ n ∈ y'.notices.queue, n.kind = .periodIncomplete ∧ n.datum = r.nIncomplete) ∧
          (∀ q, y.yds.slotPresent q = true →
            let e := rec.entries.get q
            let e' := r.entries.get q
            e'.source = (y.qpr.recs.get q).source ∧
            e'.last = (if e.count = 0 then (y.qpr.recs.get q).value else e.last) ∧
            e'.low = e.low ∧ e'.high = e.high ∧ e'.count = e.count ∧ e'.deltas = e.deltas ∧
            (e.estimated = true ∨ (q.isMeter = true ∧ e.count = 0) → e'.estimated = true)) ∧
          (y.yds.desc = .committed →
            let given (q : Slot) : Option Sampled :=
              if (r.entries.get q).source = .none then none else (r.entries.get q).last.map (⟨·, (r.entries.get q).source⟩)
            ∃ jobs : List ClosingJob, y'.hsu.closingJobs = y.hsu.closingJobs ++ jobs ∧
              jobs.map (·.job.holder) = (Holder.list.filter fun h =>
                (y.yds.holders.get h).isSome && (y.yds.geometry.get h).isSome && (given (.travel h)).isSome &&
                  ((given (.gasTemp h)).isSome || (given .yardTemp).isSome) && (given .baro).isSome) ∧
              (∀ j ∈ jobs, j.day = rec.day ∧ j.period = rec.period ∧
                given (.travel j.job.holder) = some ⟨j.job.travel, j.job.travelSource⟩ ∧
                (∀ a, given (.gasTemp j.job.holder) = some a → j.job.temp = a.value ∧ j.job.tempSource = some a.source) ∧
                (given (.gasTemp j.job.holder) = none →
                  (given .yardTemp).map (·.value) = some j.job.temp ∧ j.job.tempSource = none) ∧
                (given .baro).map (·.value) = some j.job.baro ∧
                (y.yds.geometry.get j.job.holder).map (·.zones) = some j.job.zones) ∧
              (∀ h, y.yds.holders.get h ≠ none → (∀ j ∈ jobs, j.job.holder ≠ h) →
                (y'.hsu.holders.get h).closing = some ⟨(y.hsu.holders.get h).stock, .unknown, rec.day, rec.period⟩)) ∧
          (∀ d, y.yds.desc = .committed → y.soa.current = some d → d.day = rec.day → (c.period = 95 → y.soa.pending = none) →
            let given (m : Meter) : Option (Int × Int × Int) :=
              match (r.entries.get (pressSlot m)).last, r.entries.yardTemp.last, r.entries.baro.last with
              | some p, some t, some b => some (p, t, b)
              | _, _, _ => none
            y'.soa.corrections = y.soa.corrections ++ (Meter.list.filter y.yds.meterBound).filterMap (fun m =>
              (given m).map fun g => ⟨m, rec.day, rec.period, (d.meters.get m).openAcc, g.1, g.2.1, g.2.2,
                (r.entries.get (meterSlot m)).estimated⟩) ∧
            ∃ d', (c.period < 95 → y'.soa.current = some d') ∧
              (c.period = 95 → y'.soa.pending = some ⟨d', false, false⟩ ∧ y'.soa.markerOut = false ∧
                (∀ m, (d'.meters.get m).latched = false) ∧ ∃ e, y'.soa.current = some e ∧
                  e = ⟨e.day, e.weekday, e.dayType, ⟨false, false, false, false⟩, none, none, .all none,
                    .all ⟨0, 0, 0, none, 0, 0, 0, false, 0, []⟩, none⟩ ∧
                  some (e.day, e.weekday, e.dayType) = y'.gdc.clock.map fun n => (n.day, n.weekday, n.dayType)) ∧
              d'.day = d.day ∧ d'.lastClosed = some rec.period ∧
              d'.flags = ⟨d.flags.part || r.partialFlag, d.flags.carried, d.flags.estimated || r.incomplete,
                d.flags.gap || r.gap⟩ ∧
              ∀ m, y.yds.meterBound m = true →
                let k := d.meters.get m
                let k' := d'.meters.get m
                let v := min ((2 * k.openAcc + 1000) / 2000) 1000000000
                k'.openAcc = 0 ∧ (given m ≠ none → k'.volume = k.volume ∧ k'.heat = k.heat) ∧
                (given m = none → k'.volume = k.volume + v ∧ k'.heat = k.heat + v * y.yds.cv ∧
                  (r.entries.get (meterSlot m)).vstd = some v ∧ (r.entries.get (meterSlot m)).estimated = true ∧
                  (m ≠ .make → k'.estimated = k.estimated + 1 ∧ k'.peakVolume = max k.peakVolume v)))) ∧
      (∀ n, y'.gdc.clock = some n → y.MarkTested y' n) ∧
      (∀ d, (y'.dgu.districts.get d).target = (y.dgu.districts.get d).target) ∧
      y'.yds = y.yds ∧ y'.ylc = y.ylc ∧ y'.scs.roster = y.scs.roster ∧ y'.mvs.coupled = y.mvs.coupled

/-- The profile value of a district: never below the base; the base where no slot is in use; the greatest of the base and
of what each slot would give alone; for one slot in use, with V the greater of its peak value and the base and s its start
(moved by the lag on a REST day), the i-th of its L lead periods has base + round((V - base) i / (L + 1)), its hold periods
V, the i-th of its T trail periods V - round((V - base) i / (T + 1)), and any other period the base. At a period start signal
DGU records that value, with the day type of the signal and the lag then standing, for every present district and for no
other; as a retained item it outlasts a power restore and a warm restart (R75). -/
def Obligations.ProfileFollowsPeak : Prop :=
  (∀ (g : Programme) (lag : Nat) (t : DayType) (n : Nat),
    g.base ≤ profileValue g lag t n ∧
    (g.peaks = .all none → profileValue g lag t n = g.base) ∧
    profileValue g lag t n =
      (g.peaks.toList.map fun p => profileValue ⟨g.base, ⟨p, none, none⟩⟩ lag t n).foldl max g.base ∧
    (∀ k p, g.peaks = Three.set (.all none) k (some p) →
      let v := max p.value g.base
      let s := if t = .rest then p.start + lag else p.start
      (∀ i, 1 ≤ i → i ≤ p.lead → n + p.lead + 1 = s + i →
        profileValue g lag t n = g.base + (2 * ((v - g.base) * i) + (p.lead + 1)) / (2 * (p.lead + 1))) ∧
      (s ≤ n → n < s + p.hold → profileValue g lag t n = v) ∧
      (∀ i, 1 ≤ i → i ≤ p.trail → n + 1 = s + p.hold + i →
        profileValue g lag t n = v - (2 * ((v - g.base) * i) + (p.trail + 1)) / (2 * (p.trail + 1))) ∧
      (n + p.lead < s ∨ s + p.hold + p.trail ≤ n → profileValue g lag t n = g.base))) ∧
  (∀ (y : Yard) (sig : PeriodStart) (d : District),
    (y.yds.districts.get d ≠ none →
      ((dguPeriodStart sig y).dgu.districts.get d).profile =
        profileValue (y.yds.programme.get d) y.yds.lag sig.dayType sig.period) ∧
    (y.yds.districts.get d = none → (dguPeriodStart sig y).dgu.districts.get d = y.dgu.districts.get d)) ∧
  (∀ (y : Yard) (c : KeepClass) (d : District),
    ((restartYard c y).dgu.districts.get d).profile = (y.dgu.districts.get d).profile)

/-! ### Filling and emptying (03) -/

/-- FILL, DRAW and FLOAT that pass the tests are appended as WAITING with the eligible mark clear and change nothing else:
with a staged WHEN and no end condition, or with UNTIL STOCK, UNTIL PERIOD, or (no FLOAT) UNTIL TRAVEL, whose target beyond
the top stop of a FILL or the landing point of a DRAW is replaced by that limit and answered CLAMPED; or with AT PERIOD for a
period that is not the current one, with any standing count to 31 (R39, R40, R41). -/
def Obligations.OrderAccepted : Prop :=
  ∀ (y : Yard) (k : OrderKind) (n : Nat) (h g : Holder) (above : Bool) (x : Int),
    y.yds.desc = .committed → y.yds.holders.get h ≠ none → y.yds.holders.get g ≠ none →
    (y.mvs.isCoupled h = true → h.leads = true) → 1 ≤ n → n ≤ 999 → (∀ o ∈ y.mvs.orders, o.number ≠ n) →
    0 ≤ x → x ≤ 60500 → (k.fills = true → y.mvs.tripped = false) → y.mvs.orders.length < 16 →
    (∀ u ∈ y.mvs.worked h, (k.fills = true → y.yds.bind.inlet.get u ≠ none) ∧
      (k.draws = true → y.yds.bind.outlet.get u ≠ none)) →
    let waits (period : Option Nat) (standing : Nat) (staged : List Qualifier) (start : StartCond) (e : EndCond)
        (i : Indication) : Prop :=
      GivesOrder (orderRow k).1 (orderRow k).2
        [some (n : Int), some (h.number : Int), period.map fun p => (p : Int), some (standing : Int)] staged y
        { y with mvs := { y.mvs with
          orders := y.mvs.orders ++ [(.mk n h k start e .unset standing false false false .waiting none)] } }
        (.answer i [])
    let when_ : StartCond := if above then .whenAbove g x else .whenBelow g x
    waits none 0 [.whenTravel g.number above x] when_ .absent .none ∧
    (∀ v, 0 ≤ v → v ≤ 1000000000 →
      waits none 0 [.whenTravel g.number above x, .untilStock v] when_ (.untilStock v) .none ∧
      waits none 0 [.untilStock v, .whenTravel g.number above x] when_ (.untilStock v) .none) ∧
    (∀ p, p ≤ 95 → y.gdc.clock ≠ none →
      waits none 0 [.whenTravel g.number above x, .untilPeriod p] when_ (.untilPeriod p) .none) ∧
    (∀ t geo, 0 ≤ t → t ≤ 60500 → y.yds.geometry.get h = some geo →
      (k = .fill →
        waits none 0 [.whenTravel g.number above x, .untilTravel t] when_ (.untilTravel (min t geo.topStop))
          (if geo.topStop < t then .clamped else .none)) ∧
      (k = .draw →
        waits none 0 [.whenTravel g.number above x, .untilTravel t] when_ (.untilTravel (max t geo.landing))
          (if t < geo.landing then .clamped else .none))) ∧
    (∀ p standing c, p ≤ 95 → standing ≤ 31 → y.gdc.clock = some c → c.period ≠ p →
      waits (some p) standing [] (.atPeriod p) .absent .none)

/-- What refuses an order, in the order of the tests: a holder, or the holder of a staged WHEN, not present; the follower
of a coupled pair; a number that an order bears or that lies outside 1 to 999, a staged qualifier out of its range, two WHENs
or two UNTILs staged, a standing count above 31, UNTIL TRAVEL with FLOAT, a standing count without AT PERIOD, WHEN together
with AT PERIOD, UNTIL PERIOD for the period of AT PERIOD; AT PERIOD or UNTIL PERIOD while the clock is UNSET; a FILL or FLOAT
while TRIPPED; a list of 16 orders; a refused order changes nothing of the yard (R39, R40, R167). The fields named are the
model's choice (log 9), but for the field 0 of two WHENs or two UNTILs (R167), and so is the WHEN that counts where two are
staged (log 55). -/
def Obligations.OrderRefused : Prop :=
  ∀ (y : Yard) (k : OrderKind) (n : Nat) (h : Holder) (p : Option Nat), y.yds.desc = .committed →
    let fs : List Field := [some (n : Int), some (h.number : Int), p.map fun v => (v : Int), some 0]
    let row := orderRow k
    let bound := ∀ u ∈ y.mvs.worked h, (k.fills = true → y.yds.bind.inlet.get u ≠ none) ∧
      (k.draws = true → y.yds.bind.outlet.get u ≠ none)
    (y.yds.holders.get h = none → GivesOrder row.1 row.2 fs [] y y (.refuse .noSuch [.u8 2])) ∧
    (∀ g above x, y.yds.holders.get h ≠ none → (∀ g' : Holder, g'.number = g → y.yds.holders.get g' = none) →
      GivesOrder row.1 row.2 fs [.whenTravel g above x] y y (.refuse .noSuch [.u8 0])) ∧
    (y.yds.holders.get h ≠ none → (y.mvs.isCoupled h = true → h.leads = true) →
      (∀ t, k = .float → ∃ f, GivesOrder row.1 row.2 fs [.untilTravel t] y y (.refuse .invalid [.u8 f])) ∧
      (∀ standing : Nat, 1 ≤ standing →
        ∃ f, GivesOrder row.1 row.2 [some (n : Int), some (h.number : Int), none, some (standing : Int)] [] y y
          (.refuse .invalid [.u8 f])) ∧
      (∀ standing : Nat, 31 < standing →
        ∃ f, GivesOrder row.1 row.2 [some (n : Int), some (h.number : Int), p.map fun v => (v : Int), some (standing : Int)]
          [] y y (.refuse .invalid [.u8 f])) ∧
      (∀ staged : List Qualifier, 1 ≤ n → n ≤ 999 → (∀ v ∈ p, v ≤ 95) →
        (∀ g above x, .whenTravel g above x ∈ staged → ∃ u : Holder, u.number = g ∧ y.yds.holders.get u ≠ none) →
        let beyond (x high : Int) : Prop := x < 0 ∨ high < x
        (∃ g above x, .whenTravel g above x ∈ staged ∧ beyond x 60500) ∨ (∃ x, .untilTravel x ∈ staged ∧ beyond x 60500) ∨
            (∃ v, .untilStock v ∈ staged ∧ beyond v 1000000000) ∨ (∃ q, .untilPeriod q ∈ staged ∧ 95 < q) ∨
            (∃ a b : Qualifier, staged = [a, b] ∧ a.isWhen = b.isWhen) →
        GivesOrder row.1 row.2 fs staged y y (.refuse .invalid [.u8 0])) ∧
      (∀ (g : Holder) above x, p ≠ none → y.yds.holders.get g ≠ none →
        ∃ f, GivesOrder row.1 row.2 fs [.whenTravel g.number above x] y y (.refuse .invalid [.u8 f])) ∧
      (∀ q, p = some q → ∃ f, GivesOrder row.1 row.2 fs [.untilPeriod q] y y (.refuse .invalid [.u8 f]))) ∧
    (y.yds.holders.get h ≠ none → y.mvs.isCoupled h = true → h.leads = false →
      GivesOrder row.1 row.2 fs [] y y (.refuse .coupled [.u8 2])) ∧
    (y.yds.holders.get h ≠ none → (y.mvs.isCoupled h = true → h.leads = true) →
      (n < 1 ∨ 999 < n ∨ (∃ o ∈ y.mvs.orders, o.number = n) ∨ (∃ v ∈ p, 95 < v) ∨ ¬bound →
        ∃ f, GivesOrder row.1 row.2 fs [] y y (.refuse .invalid [.u8 f])) ∧
      (1 ≤ n → n ≤ 999 → (∀ o ∈ y.mvs.orders, o.number ≠ n) → (∀ v ∈ p, v ≤ 95) → bound →
        (p ≠ none → y.gdc.clock = none → GivesOrder row.1 row.2 fs [] y y (.refuse .clockUnset [.u8 3])) ∧
        (∀ q, p = none → q ≤ 95 → y.gdc.clock = none →
          GivesOrder row.1 row.2 fs [.untilPeriod q] y y (.refuse .clockUnset [.u8 0])) ∧
        (p = none ∨ y.gdc.clock ≠ none → k.fills = true → y.mvs.tripped = true →
          GivesOrder row.1 row.2 fs [] y y (.refuse .tripped [.u8 0])) ∧
        (p = none ∨ y.gdc.clock ≠ none → (k.fills = true → y.mvs.tripped = false) → 16 ≤ y.mvs.orders.length →
          GivesOrder row.1 row.2 fs [] y y (.refuse .listFull [.u8 0]))))

/-- A FILL without qualifiers of a holder that stands alone, free and below its top stop activates at once: UNMANAGED and
the shut pending mark are cleared, the outlet (which reports SHUT) is commanded SHUT without a command sent, the inlet is
commanded OPEN, or CRACKED where the travel lies in a cupping band, with a command put into the list, and the order is
OPENING; UNTIL TRAVEL above the top stop becomes the top stop with CLAMPED (R34, R40 to R43). A FILL, DRAW or FLOAT without a
condition, or AT PERIOD for the current period, activates so on acceptance; AT PERIOD makes a WAITING order eligible at the
start of its period, and WHEN at the first reading beyond its travel, and it activates then; without an accepted travel it
stays WAITING, eligible (R41, R42, R43). The order of a coupled leader activates for both holders: the travel of both is needed,
the valves of both are commanded, CRACKED while either lies in a band (R57). An order that activates with its holder, or either
of its pair, at the top stop or at the landing point, or in its UNTIL PERIOD, ends at once with TOP STOP, LANDING or END MET, no
valve commanded (R43, R46, R50, R57). The report that leaves every bound used valve, of both holders of a pair, at the position
commanded makes an OPENING order RUNNING, and its valve's timer IDLE (R36, R44); for a DRAW or FLOAT it is stated where no other
order is RUNNING: the lag test has then the two holders of a pair, and the one short of the other by more than its threshold
raises LAGGING HOLDER and has its mark set (R58). That the leader's valves are commanded before the follower's, and an inlet
before its outlet, is the model's choice (log 61), and the order of the tests of one reading too (log 22). -/
def Obligations.FillOpensInlet : Prop :=
  (∀ (y : Yard) (k : OrderKind) (n : Nat) (h : Holder) (period : Option Nat) (standing : Nat) (p : Commanded)
    (vs : List (Valve × Point)),
    let o : Order := .mk n h k (match period with
      | some q => .atPeriod q
      | none => .absent) .absent .unset standing true false false .waiting none
    let z : Yard := { y with mvs := { y.mvs with orders := y.mvs.orders ++ [o] } }
    z.CanOpen y.mvs.orders [] o p vs → y.yds.holders.get h ≠ none → 1 ≤ n → n ≤ 999 → y.mvs.orders.length < 16 →
    (k.fills = true → y.mvs.tripped = false) → standing ≤ 31 → (period = none → standing = 0) →
    (∀ q ∈ period, q ≤ 95 ∧ y.gdc.clock.map (·.period) = some q) →
    GivesOrder (orderRow k).1 (orderRow k).2
      [some (n : Int), some (h.number : Int), period.map fun q => (q : Int), some (standing : Int)] [] y
      (z.toOpening y.mvs.orders [] o p vs) (.answer .none [])) ∧
  (∀ (y : Yard) (before after : List Order) (o : Order) (q : Nat), y.mvs.orders = before ++ o :: after →
    o.state = .waiting → o.start = .atPeriod q →
    (∀ x ∈ before ++ after, ¬(x.state = .waiting ∧ x.start = .atPeriod q) ∧
      ¬((x.state = .opening ∨ x.state = .running) ∧ x.finish = .untilPeriod q)) →
    (∀ p vs, y.CanOpen before after o p vs → mvsPeriodStart q y = y.toOpening before after o p vs) ∧
    ((y.mvs.isCoupled o.holder = true → o.holder.leads = true) →
      (∃ h ∈ y.mvs.worked o.holder, (y.hsu.holders.get h).travel = none) →
      mvsPeriodStart q y = { y with mvs := { y.mvs with orders := before ++ { o with eligible := true } :: after } })) ∧
  (∀ (y : Yard) (before after : List Order) (o : Order) (p : Commanded) (vs : List (Valve × Point)) (g : Holder)
    (x : Int) (a : Sampled), y.CanOpen before after o p vs → o.eligible = false →
    (y.hsu.holders.get g).travel = some a → (∀ geo, y.yds.geometry.get g = some geo → a.value < geo.full) →
    (o.start = .whenAbove g x ∧ x < a.value) ∨ (o.start = .whenBelow g x ∧ a.value < x) →
    (∀ z ∈ before ++ after, z.state = .waiting ∧ z.eligible = false ∧
      ∀ w, z.start ≠ .whenAbove g w ∧ z.start ≠ .whenBelow g w) →
    let opened := y.toOpening before after o p vs
    mvsReading g y = { opened with mvs := { opened.mvs with prevTravel := y.mvs.prevTravel.set g (some a.value) } }) ∧
  (∀ (y : Yard) (k : OrderKind) (n : Nat) (h : Holder), y.yds.desc = .committed →
    y.yds.holders.get h ≠ none → (y.mvs.isCoupled h = true → h.leads = true) → 1 ≤ n → n ≤ 999 →
    (∀ o ∈ y.mvs.orders, o.number ≠ n ∧ o.holder ≠ h) → y.mvs.orders.length < 16 →
    (k.fills = true → y.mvs.tripped = false) →
    (∀ x ∈ y.mvs.worked h, (y.hsu.holders.get x).travel ≠ none ∧ ∀ side ∈ k.used, y.yds.bind.valve ⟨x, side⟩ ≠ none) →
    let at_ (test : Geometry → Int → Prop) := ∃ x ∈ y.mvs.worked h, ∃ a g, (y.hsu.holders.get x).travel = some a ∧
      y.yds.geometry.get x = some g ∧ test g a.value
    let top := k.fills = true ∧ at_ fun g t => g.topStop ≤ t
    let low := k.draws = true ∧ at_ fun g t => t ≤ g.landing
    let ends (staged : List Qualifier) (reason : EndReason) : Prop :=
      GivesOrder (orderRow k).1 (orderRow k).2 [some (n : Int), some (h.number : Int), none, some 0] staged y
        { y with notices :=
          y.notices.raise .orderEnded n (reason.code : Int) (y.gdc.clock.map (·.day)) (y.gdc.clock.map (·.period)) }
        (.answer .none [])
    (top → ends [] .topStop) ∧ (¬top → low → ends [] .landing) ∧
    (∀ c, ¬top → ¬low → y.gdc.clock = some c → c.period ≤ 95 → ends [.untilPeriod c.period] .endMet)) ∧
  (∀ (y : Yard) (o : Order) (before after : List Order) (v : Valve) (p : Commanded) (rep rep' : Reported) (tm : Timer),
    y.mvs.orders = before ++ o :: after → (∀ x ∈ before ++ after, x.number ≠ o.number ∧ x.holder ≠ o.holder) →
    (y.mvs.isCoupled o.holder = true → o.holder.leads = true) → o.state = .opening → v.holder ∈ y.mvs.worked o.holder →
    v.side ∈ o.kind.used → (o.kind.draws = true → ∀ x ∈ before ++ after, x.state ≠ .running) →
    (p = .opened ∧ rep = .opened) ∨ (p = .cracked ∧ rep = .cracked) →
    y.mvs.valve v = ⟨p, rep', tm⟩ → y.mvs.shutPending.get v.holder = false →
    (∀ w : Valve, w.holder ∈ y.mvs.worked o.holder → w.side ∈ o.kind.used → w ≠ v → y.yds.bind.valve w ≠ none →
      (y.mvs.valve w).commanded.asReport = some (y.mvs.valve w).reported) →
    let best := max (contribution y o.holder) (contribution y o.holder.partner)
    let lags (x : Holder) (mark : Bool) : Bool := o.kind.draws && y.mvs.isCoupled o.holder && !mark &&
      decide ((y.yds.limits.get x).lagThreshold < best - contribution y x)
    let own := lags o.holder o.lagOwn
    let other := lags o.holder.partner o.lagOther
    let told (x : Holder) (b : Bool) (q : Notices) : Notices :=
      if b then q.raise .laggingHolder x.number (best - contribution y x) (y.gdc.clock.map (·.day))
        (y.gdc.clock.map (·.period)) else q
    valveReport v rep y =
      { y with
        mvs := { y.mvs.setValve v ⟨p, rep, .idle⟩ with
          orders := before ++ { o with
            state := .running, lagOwn := o.lagOwn || own, lagOther := o.lagOther || other } :: after }
        notices := told o.holder.partner other (told o.holder own y.notices) }) ∧
  ∀ (y : Yard) (n : Nat) (h : Holder) (t : Int) (src : Source) (g : Geometry) (pi po : Point) (ti tq : Timer)
    (ci co : Commanded) (target : Option Int),
    y.yds.desc = .committed → y.yds.holders.get h ≠ none → y.mvs.isCoupled h = false → 1 ≤ n → n ≤ 999 →
    (∀ o ∈ y.mvs.orders, o.number ≠ n ∧ o.holder ≠ h) → y.mvs.orders.length < 16 → y.mvs.tripped = false →
    (y.hsu.holders.get h).travel = some ⟨t, src⟩ → y.yds.geometry.get h = some g → t < g.topStop →
    y.yds.bind.inlet.get h = some pi → y.yds.bind.outlet.get h = some po →
    y.mvs.inlets.get h = ⟨ci, .shut, ti⟩ → y.mvs.outlets.get h = ⟨co, .shut, tq⟩ →
    (∀ c ∈ y.scs.commands, ¬(c.outstation = pi.outstation ∧ c.channel = pi.channel)) → y.scs.commands.length < 32 →
    (∀ x ∈ target, 0 ≤ x ∧ x ≤ 60500) →
    let cracked := ∃ b ∈ g.bands, b.1 ≤ t ∧ t ≤ b.2
    ∃ (p : Commanded) (code : CmdCode),
      (cracked → p = .cracked ∧ code = .valveCrack) ∧ (¬cracked → p = .opened ∧ code = .valveOpen) ∧
      GivesOrder 0x42#8 .fill [some (n : Int), some (h.number : Int), none, some 0]
        (target.toList.map .untilTravel) y
        { y with
          mvs := { y.mvs with
            unmanaged := y.mvs.unmanaged.set h false
            shutPending := y.mvs.shutPending.set h false
            inlets := y.mvs.inlets.set h ⟨p, .shut, .idle⟩
            outlets := y.mvs.outlets.set h ⟨.shut, .shut, .idle⟩
            orders := y.mvs.orders ++ [(.mk n h .fill .absent
              (match target with
                | some x => .untilTravel (min x g.topStop)
                | none => .absent) .unset 0 false false false .opening none)] }
          scs := { y.scs with
            commands := y.scs.commands ++
              [⟨pi.outstation, pi.channel, code, 0, .valve ⟨h, .inlet⟩, 0, false, false⟩] } }
        (.answer (if ∃ x ∈ target, g.topStop < x then .clamped else .none) [])

/-- CANCEL: a number that no order bears is refused NO SUCH; a WAITING order is removed without a notice, the data
saying so; a CLOSING order stays, ALREADY CLOSING; an OPENING or RUNNING FILL, DRAW or FLOAT of a holder that stands alone
or leads a coupled pair goes to CLOSING with CANCELLED, its used valves, those of both holders of the pair, commanded SHUT with
a command put for each (R34, R49, R53, R57). A CLOSING order is complete at the report of SHUT that leaves every bound valve of
its holder, or of both holders of its pair, SHUT: ORDER ENDED is raised with its reason, and it
is removed, or, with a standing count and the reason END MET, TOP STOP or LANDING, and for a FILL or FLOAT only in a yard that
is not TRIPPED, kept WAITING with the count one less (R49, R50). The data of a WAITING order removed, the order of the
commands put, the count in the datum and the end reason of the order kept are the model's choice or reading (log 66, log 61,
log 21, log 53). -/
def Obligations.OrderCancelled : Prop :=
  (∀ (y : Yard) (o : Order) (before after : List Order) (v : Valve) (reason : EndReason) (rep : Reported) (tm : Timer),
    y.mvs.orders = before ++ o :: after → (∀ x ∈ before ++ after, x.number ≠ o.number ∧ x.holder ≠ o.holder) →
    (y.mvs.isCoupled o.holder = true → o.holder.leads = true) → o.state = .closing → o.reason = some reason →
    v.holder ∈ y.mvs.worked o.holder → y.mvs.valve v = ⟨.shut, rep, tm⟩ → y.mvs.shutPending.get v.holder = false →
    (∀ w : Valve, w.holder ∈ y.mvs.worked o.holder → w ≠ v → y.yds.bind.valve w ≠ none → (y.mvs.valve w).reported = .shut) →
    let kept := 0 < o.standing ∧ (reason = .endMet ∨ reason = .topStop ∨ reason = .landing) ∧
      ¬(y.mvs.tripped = true ∧ o.kind.fills = true)
    let ended (rest : List Order) : Yard := { y with
      mvs := { y.mvs.setValve v ⟨.shut, .shut, .idle⟩ with orders := before ++ rest ++ after }
      notices := y.notices.raise .orderEnded o.number ((reason.code + 256 * o.standing : Nat) : Int)
        (y.gdc.clock.map (·.day)) (y.gdc.clock.map (·.period)) }
    (kept → valveReport v .shut y =
      ended [{ o with
        state := .waiting, standing := o.standing - 1, lagOwn := false, lagOther := false, stockDir := .unset,
        eligible := false, reason := none }]) ∧
    (¬kept → valveReport v .shut y = ended [])) ∧
  ∀ (y : Yard) (n : Nat), y.yds.desc = .committed →
    ((∀ o ∈ y.mvs.orders, o.number ≠ n) →
      Gives 0x45#8 .cancel (formOf layNumber) [some (n : Int)] y y (.refuse .noSuch [.u8 1])) ∧
    (∀ o before after, y.mvs.orders = before ++ o :: after → (∀ x ∈ before ++ after, x.number ≠ n) → o.number = n →
      (o.state = .waiting → (∀ x ∈ before ++ after, x.state = .waiting → x.eligible = false) →
        Gives 0x45#8 .cancel (formOf layNumber) [some (n : Int)] y
          { y with mvs := { y.mvs with orders := before ++ after } } (.answer .none [.u8 1])) ∧
      (o.state = .closing →
        Gives 0x45#8 .cancel (formOf layNumber) [some (n : Int)] y y (.answer .alreadyClosing [])) ∧
      (∀ vs : List (Valve × Point), y.CanShut before after o vs →
        Gives 0x45#8 .cancel (formOf layNumber) [some (n : Int)] y (y.toClosing before after o vs .cancelled)
          (.answer .none [])))

/-- COUPLE and UNCOUPLE: a holder that leads no pair is refused INVALID, a pair not whole NO SUCH, an active order
ACTIVE; else the coupling state is set, and a pair already in the state asked for changes nothing. COUPLE ends the
follower's WAITING orders with COUPLING, ORDER ENDED raised for each, and keeps all others; UNCOUPLE keeps every order; both
are stated where no order that they may let activate is eligible (R55, R56). SHUT HOLDER of a holder without an active order,
alone or leading a coupled pair: each bound valve, and of a pair each of both holders, is commanded SHUT with a command put for
each that does not report SHUT, and the shut pending mark is set; where a holder's bound valves all report SHUT already, its
mark and UNMANAGED flag are cleared at once; nothing else of MVS changes; a holder not present is refused NO SUCH, a coupled
follower COUPLED, a holder with an active order ACTIVE (R34, R54). The fields named by ACTIVE are the model's choice (log 9),
and so are the list order of the orders that COUPLE ends (log 62), with the standing count as it stood in the datum (log 21),
and the order of the commands put (log 61). -/
def Obligations.PairsAndShutHolder : Prop :=
  (∀ (y : Yard) (h : Holder), y.yds.desc = .committed →
    (h.leads = false →
      Gives 0x46#8 .couple (formOf layObject) [some (h.number : Int)] y y (.refuse .invalid [.u8 1]) ∧
      Gives 0x47#8 .uncouple (formOf layObject) [some (h.number : Int)] y y (.refuse .invalid [.u8 1])) ∧
    (h.leads = true → (y.yds.holders.get h = none ∨ y.yds.holders.get h.partner = none) →
      Gives 0x46#8 .couple (formOf layObject) [some (h.number : Int)] y y (.refuse .noSuch [.u8 1])) ∧
    (h.leads = true → y.yds.holders.get h ≠ none → y.yds.holders.get h.partner ≠ none →
      (∃ o ∈ y.mvs.orders, o.state ≠ .waiting ∧
        (o.holder = h ∨ (o.holder = h.partner ∧ y.mvs.isCoupled h = false))) →
      Gives 0x46#8 .couple (formOf layObject) [some (h.number : Int)] y y (.refuse .active [.u8 1])) ∧
    (h.leads = true → (∃ o ∈ y.mvs.orders, o.holder = h ∧ o.state ≠ .waiting) →
      Gives 0x47#8 .uncouple (formOf layObject) [some (h.number : Int)] y y (.refuse .active [.u8 1])) ∧
    (h.leads = true → (∀ o ∈ y.mvs.orders, o.holder = h → o.state = .waiting) →
      (y.mvs.isCoupled h = false →
        Gives 0x47#8 .uncouple (formOf layObject) [some (h.number : Int)] y y (.answer .none [])) ∧
      (y.mvs.isCoupled h = true → (∀ o ∈ y.mvs.orders, o.holder = h ∨ o.holder = h.partner → o.eligible = false) →
        Gives 0x47#8 .uncouple (formOf layObject) [some (h.number : Int)] y
          { y with mvs := { y.mvs with coupled := y.mvs.coupled.set h.pair false } } (.answer .none []))) ∧
    (h.leads = true → y.mvs.isCoupled h = true → y.yds.holders.get h ≠ none → y.yds.holders.get h.partner ≠ none →
      (∀ o ∈ y.mvs.orders, o.holder = h ∨ o.holder = h.partner → o.state = .waiting) →
      Gives 0x46#8 .couple (formOf layObject) [some (h.number : Int)] y y (.answer .none [])) ∧
    (h.leads = true → y.mvs.isCoupled h = false → y.yds.holders.get h ≠ none → y.yds.holders.get h.partner ≠ none →
      y.mvs.orders.length ≤ 16 → y.mvs.orders.Pairwise (fun a b => a.number ≠ b.number) →
      (∀ o ∈ y.mvs.orders, o.holder = h ∨ o.holder = h.partner → o.state = .waiting) →
      (∀ o ∈ y.mvs.orders, o.holder = h → o.eligible = false) →
      Gives 0x46#8 .couple (formOf layObject) [some (h.number : Int)] y
        { y with
          mvs := { y.mvs with
            coupled := y.mvs.coupled.set h.pair true
            orders := y.mvs.orders.filter fun o => decide (o.holder ≠ h.partner) }
          notices := (y.mvs.orders.filter fun o => decide (o.holder = h.partner)).foldl
            (fun q o => q.raise .orderEnded o.number ((8 + 256 * o.standing : Nat) : Int) (y.gdc.clock.map (·.day))
              (y.gdc.clock.map (·.period))) y.notices }
        (.answer .none [])) ∧
    (h.leads = true → y.mvs.orders = [] →
      (y.yds.holders.get h ≠ none → y.yds.holders.get h.partner ≠ none →
        Gives 0x46#8 .couple (formOf layObject) [some (h.number : Int)] y
          { y with mvs := { y.mvs with coupled := y.mvs.coupled.set h.pair true } } (.answer .none [])) ∧
      Gives 0x47#8 .uncouple (formOf layObject) [some (h.number : Int)] y
        { y with mvs := { y.mvs with coupled := y.mvs.coupled.set h.pair false } } (.answer .none []))) ∧
  (∀ (y : Yard) (h : Holder), y.yds.desc = .committed →
    (y.yds.holders.get h = none →
      Gives 0x48#8 .shutHolder (formOf layObject) [some (h.number : Int)] y y (.refuse .noSuch [.u8 1])) ∧
    (y.yds.holders.get h ≠ none → y.mvs.isCoupled h = true → h.leads = false →
      Gives 0x48#8 .shutHolder (formOf layObject) [some (h.number : Int)] y y (.refuse .coupled [.u8 1])) ∧
    (y.yds.holders.get h ≠ none → y.mvs.isCoupled h = false ∨ h.leads = true →
      (∃ o ∈ y.mvs.orders, o.holder = h ∧ o.state ≠ .waiting) →
      Gives 0x48#8 .shutHolder (formOf layObject) [some (h.number : Int)] y y (.refuse .active [.u8 1])) ∧
    (∀ (pi po : Point) (ci co : Commanded) (ri ro : Reported) (ti tq : Timer),
      y.yds.holders.get h ≠ none → y.mvs.isCoupled h = false → (∀ o ∈ y.mvs.orders, o.holder = h → o.state = .waiting) →
      y.yds.bind.inlet.get h = some pi → y.yds.bind.outlet.get h = some po →
      y.mvs.inlets.get h = ⟨ci, ri, ti⟩ → y.mvs.outlets.get h = ⟨co, ro, tq⟩ →
      (ri ≠ .shut → ro ≠ .shut → ¬(pi.outstation = po.outstation ∧ pi.channel = po.channel) →
        (∀ c ∈ y.scs.commands, ¬(c.outstation = pi.outstation ∧ c.channel = pi.channel) ∧
          ¬(c.outstation = po.outstation ∧ c.channel = po.channel)) → y.scs.commands.length + 2 ≤ 32 →
        Gives 0x48#8 .shutHolder (formOf layObject) [some (h.number : Int)] y
          { y with
            mvs := { y.mvs with
              shutPending := y.mvs.shutPending.set h true
              inlets := y.mvs.inlets.set h ⟨.shut, ri, .idle⟩
              outlets := y.mvs.outlets.set h ⟨.shut, ro, .idle⟩ }
            scs := { y.scs with
              commands := y.scs.commands ++
                [⟨pi.outstation, pi.channel, .valveShut, 0, .valve ⟨h, .inlet⟩, 0, false, false⟩,
                  ⟨po.outstation, po.channel, .valveShut, 0, .valve ⟨h, .outlet⟩, 0, false, false⟩] } }
          (.answer .none [])) ∧
      (∀ (side : Side) (pt : Point) (c : Commanded) (r : Reported), r ≠ .shut →
        (side = .inlet ∧ pt = pi ∧ c = ci ∧ r = ri ∧ ro = .shut) ∨ (side = .outlet ∧ pt = po ∧ c = co ∧ r = ro ∧ ri = .shut) →
        (∀ c ∈ y.scs.commands, ¬(c.outstation = pt.outstation ∧ c.channel = pt.channel)) → y.scs.commands.length < 32 →
        Gives 0x48#8 .shutHolder (formOf layObject) [some (h.number : Int)] y
          { y with
            mvs := { y.mvs with
              shutPending := y.mvs.shutPending.set h true
              inlets := y.mvs.inlets.set h ⟨.shut, ri, .idle⟩
              outlets := y.mvs.outlets.set h ⟨.shut, ro, .idle⟩ }
            scs := { y.scs with commands := y.scs.commands ++ [valveCommand .valveShut (⟨h, side⟩, pt)] } }
          (.answer .none [])) ∧
      (ri = .shut → ro = .shut →
        Gives 0x48#8 .shutHolder (formOf layObject) [some (h.number : Int)] y
          { y with mvs := { y.mvs with
            shutPending := (y.mvs.shutPending.set h true).set h false
            unmanaged := y.mvs.unmanaged.set h false
            inlets := y.mvs.inlets.set h ⟨.shut, .shut, .idle⟩
            outlets := y.mvs.outlets.set h ⟨.shut, .shut, .idle⟩ } }
          (.answer .none []))) ∧
    (∀ hs : List Holder, (y.mvs.isCoupled h = false ∧ hs = [h]) ∨
        (y.mvs.isCoupled h = true ∧ h.leads = true ∧ hs = [h, h.partner]) → y.yds.holders.get h ≠ none →
      (∀ o ∈ y.mvs.orders, o.holder = h → o.state = .waiting) → y.scs.commands.length + 4 ≤ 32 →
      ∃ y' : Yard, Gives 0x48#8 .shutHolder (formOf layObject) [some (h.number : Int)] y y' (.answer .none []) ∧
        y' = { y with
          mvs := { y.mvs with
            inlets := y'.mvs.inlets, outlets := y'.mvs.outlets
            shutPending := y'.mvs.shutPending, unmanaged := y'.mvs.unmanaged }
          scs := { y.scs with commands := y'.scs.commands } } ∧
        y'.scs.commands = (hs.flatMap fun u => ([⟨u, .inlet⟩, ⟨u, .outlet⟩] : List Valve)).foldl
          (fun cs v => match y.yds.bind.valve v with
            | some p => if (y.mvs.valve v).reported = .shut then cs else (putInto cs p .valveShut 0 (.valve v)).1
            | none => cs) y.scs.commands ∧
        (∀ v : Valve, y.yds.bind.valve v = none ∨ v.holder ∉ hs → y'.mvs.valve v = y.mvs.valve v) ∧
        (∀ u, u ∉ hs → y'.mvs.shutPending.get u = y.mvs.shutPending.get u ∧
          y'.mvs.unmanaged.get u = y.mvs.unmanaged.get u) ∧
        ∀ u ∈ hs,
          (∀ side, y.yds.bind.valve ⟨u, side⟩ ≠ none →
            y'.mvs.valve ⟨u, side⟩ = ⟨.shut, (y.mvs.valve ⟨u, side⟩).reported, .idle⟩) ∧
          (y'.mvs.shutPending.get u = true ↔
            ∃ side, y.yds.bind.valve ⟨u, side⟩ ≠ none ∧ (y.mvs.valve ⟨u, side⟩).reported ≠ .shut) ∧
          (y'.mvs.unmanaged.get u = true ↔ y.mvs.unmanaged.get u = true ∧ y'.mvs.shutPending.get u = true)))

/-- The yard trips, by the TRIP request with the cause REQUEST, by the YARD TRIP input held for 200 ms with the cause INPUT, or
at a reading at or above the full stroke with the cause OVER-TOP: the trip state and its cause are set, TRIP is raised, and
every WAITING order ends with TRIP, ORDER ENDED raised for each. One active order beside those that wait is taken by its state
and kind, whatever the cause: an OPENING or RUNNING FILL or FLOAT, of a holder that stands alone or of a coupled pair, goes to
CLOSING with TRIP, a CLOSING one keeps CLOSING with its reason replaced, a DRAW continues; at a reading of the holder of a FILL
or FLOAT, or of either of its pair, the tests of R45 come first, so that the trip finds it CLOSING with TOP STOP and replaces
the reason; of a working DRAW whose own holder is read nothing is said here (R45, R57, R59, R60, R61, R62). Whatever stands in
the list, TRIP while COMMITTED trips the yard and is answered NONE. That the notices come in list order, with the count as it
stood, is the model's reading (log 20, log 21), that a yard already TRIPPED is worked again too (log 23), and the order of the
commands put and the moment of the expiry its choice (log 61, log 3). That at an over-top reading the trip comes before the
WHENs are looked at, so that it ends every WAITING order, a DRAW whose WHEN that reading meets among them, is the model's choice
(log 22); R61 orders only the tests of R45 before the trip. -/
def Obligations.YardTrips : Prop :=
  (∀ y : Yard, y.yds.desc = .committed →
    ∃ y' : Yard, Gives 0x49#8 .trip (formOf []) [] y y' (.answer .none []) ∧
      y'.mvs.tripped = true ∧ y'.mvs.tripCause = some .request) ∧
  (∀ (y : Yard) (h : Holder) (a : Sampled) (g : Geometry), y.yds.desc = .committed → y.mvs.orders = [] →
    (y.hsu.holders.get h).travel = some a → y.yds.geometry.get h = some g → g.full ≤ a.value →
    mvsReading h y = { y with
      mvs := { y.mvs with
        tripped := true, tripCause := some (.overTop h), prevTravel := y.mvs.prevTravel.set h (some a.value) }
      notices := y.notices.raise .trip 0 ((2 + 256 * h.number : Nat) : Int) (y.gdc.clock.map (·.day))
        (y.gdc.clock.map (·.period)) }) ∧
  (∀ (y : Yard) (before after : List Order) (o : Order), y.yds.desc = .committed → y.mvs.orders = before ++ o :: after →
    (∀ x ∈ before ++ after, x.state = .waiting ∧ x.number ≠ o.number) →
    (before ++ after).Pairwise (fun a b => a.number ≠ b.number) → (before ++ after).length ≤ 15 →
    let tripped (c : TripCause) (z : Yard) : Yard := { z with
      mvs := { z.mvs with tripped := true, tripCause := some c }
      notices := (before ++ after).foldl
        (fun q x => q.raise .orderEnded x.number ((7 + 256 * x.standing : Nat) : Int) (y.gdc.clock.map (·.day))
          (y.gdc.clock.map (·.period)))
        (y.notices.raise .trip 0 (c.code : Int) (y.gdc.clock.map (·.day)) (y.gdc.clock.map (·.period))) }
    let left (o' : Order) : Yard := { y with mvs := { y.mvs with orders := [o'] } }
    let trips (z : Yard) : Prop :=
      Gives 0x49#8 .trip (formOf []) [] y (tripped .request z) (.answer .none []) ∧
      (∀ (s : State) (since : Nat), s.yard = y → s.powered = true → y.mvs.watch = .running since →
        exec .yardTripWatchExpiry s =
          concluded { s with yard := { tripped .input z with
            now := max y.now (since + 4800), mvs := { (tripped .input z).mvs with watch := .spent } } }) ∧
      (∀ (h : Holder) (a : Sampled) (g : Geometry), (y.hsu.holders.get h).travel = some a →
        y.yds.geometry.get h = some g → g.full ≤ a.value →
        h ∉ y.mvs.worked o.holder ∨ o.state = .closing ∨ (o.kind.fills = true ∧ g.topStop ≤ a.value) →
        mvsReading h y = { tripped (.overTop h) z with
          mvs := { (tripped (.overTop h) z).mvs with prevTravel := y.mvs.prevTravel.set h (some a.value) } })
    (∀ vs, o.kind.fills = true → y.CanShut before after o vs → trips (y.toClosing [] [] o vs .trip)) ∧
    (o.kind.fills = true → o.state = .closing → trips (left { o with reason := some .trip })) ∧
    (o.kind = .draw → o.state ≠ .waiting → trips (left o))) ∧
  ∀ (y : Yard), (∀ o ∈ y.mvs.orders, o.state = .waiting) → y.mvs.orders.Pairwise (fun a b => a.number ≠ b.number) →
    y.mvs.orders.length ≤ 16 →
    let ended (c : TripCause) (q : Notices) : Notices :=
      y.mvs.orders.foldl
        (fun q o => q.raise .orderEnded o.number ((7 + 256 * o.standing : Nat) : Int) (y.gdc.clock.map (·.day))
          (y.gdc.clock.map (·.period)))
        (q.raise .trip 0 (c.code : Int) (y.gdc.clock.map (·.day)) (y.gdc.clock.map (·.period)))
    (y.yds.desc = .committed →
      Gives 0x49#8 .trip (formOf []) [] y
        { y with
          mvs := { y.mvs with tripped := true, tripCause := some .request, orders := [] }
          notices := ended .request y.notices } (.answer .none [])) ∧
    (∀ (s : State) (since : Nat), s.yard = y → s.powered = true → y.mvs.watch = .running since →
      exec .yardTripWatchExpiry s =
        concluded { s with yard := { y with
          now := max y.now (since + 4800)
          mvs := { y.mvs with watch := .spent, tripped := true, tripCause := some .input, orders := [] }
          notices := ended .input y.notices } })

/-- The YARD TRIP input: asserted, it begins the 200 ms watch at that moment; released, it ends the watch; once the
watch has tripped the yard, a further expiry of it changes nothing until the input has been released and asserted anew
(R59). CLEAR TRIP: refused ACTIVE while the input is asserted or any present holder's accepted travel is at or above its
full stroke; else a TRIPPED yard returns to NORMAL with TRIP CLEARED raised, and a NORMAL yard stands (R63). How moments
are carried is the model's choice (log 3). -/
def Obligations.TripInputAndClear : Prop :=
  (∀ s : State, s.powered = true →
    (∀ moment : Nat, s.yard.tripPin = false →
      exec (.yardTripAsserted moment) s =
        concluded { s with yard := { s.yard with
          tripPin := true
          now := max s.yard.now moment
          mvs := { s.yard.mvs with watch := .running (max s.yard.now moment) } } }) ∧
    (∀ moment : Nat, s.yard.tripPin = true → exec (.yardTripAsserted moment) s = concluded s) ∧
    (exec .yardTripReleased s =
      concluded { s with yard := { s.yard with tripPin := false, mvs := { s.yard.mvs with watch := .idle } } }) ∧
    (s.yard.mvs.watch = .spent ∨ s.yard.mvs.watch = .idle → exec .yardTripWatchExpiry s = concluded s)) ∧
  (∀ y : Yard, y.yds.desc = .committed →
    let full := ∃ h g a, y.yds.holders.get h ≠ none ∧ y.yds.geometry.get h = some g ∧
      (y.hsu.holders.get h).travel = some a ∧ g.full ≤ a.value
    (y.tripPin = true ∨ full → Gives 0x4A#8 .clearTrip (formOf []) [] y y (.refuse .active [.u8 0])) ∧
    (y.tripPin = false → ¬full → y.mvs.tripped = true →
      Gives 0x4A#8 .clearTrip (formOf []) [] y
        { y with
          mvs := { y.mvs with tripped := false }
          notices := y.notices.raise .tripCleared 0 0 (y.gdc.clock.map (·.day)) (y.gdc.clock.map (·.period)) }
        (.answer .none [])) ∧
    (y.tripPin = false → ¬full → y.mvs.tripped = false →
      Gives 0x4A#8 .clearTrip (formOf []) [] y y (.answer .none [])))

/-- VALVE_TIMER_EXPIRY of a RUNNING timer: the valve has failed at the limit's moment; where it belongs to no active order, its
holder having none or the valve not being bound, its timer is IDLE, its holder UNMANAGED, the shut pending mark cleared, and
VALVE STUCK raised naming the valve and its commanded position, which is kept; of a bound valve an OPENING or RUNNING FILL, DRAW
or FLOAT of the holder, or of the pair it is coupled in, goes to CLOSING with VALVE STUCK, its used valves commanded SHUT; a
CLOSING one is abandoned: ORDER ENDED with VALVE STUCK, the order removed, its holder, or both of its pair, UNMANAGED, and VALVE
STUCK raised (R33, R34, R37, R49, R50, R51, R57). BOOSTER_RUN_UP_EXPIRY in BOOSTING is a booster failure: commanded STOP, failed
mark set, BOOSTER FAILED with cause RUN-UP, SHORT, and DISTRICT SHORT with the shortfall; in UNBOOSTING the district is DIRECT
with cause STOP FAILED. ADOPTION_WAIT_EXPIRY adopts DIRECT (R89, R90, R92, R94). That the time base moves to the deadline is the
model's choice (log 3), and so is that the STOP of a failed booster which finds the list full has no further effect (log 42),
and that the shortfall is taken over the drop margin then stored (log 56), and the order of the commands put (log 61). -/
def Obligations.TimersExpire : Prop :=
  (∀ (s : State) (h : Holder) (side : Side) (start limit : Nat), s.powered = true →
    (s.yard.mvs.valve ⟨h, side⟩).timer = .running start limit →
    let y := s.yard
    let r := y.mvs.valve ⟨h, side⟩
    (y.mvs.activeOrder h = none ∨ y.yds.bind.valve ⟨h, side⟩ = none →
      exec (.valveTimerExpiry h side) s =
        concluded { s with yard := { y with
          now := max y.now (start + 24000 * limit)
          mvs := { y.mvs.setValve ⟨h, side⟩ { r with timer := .idle } with
            unmanaged := y.mvs.unmanaged.set h true
            shutPending := y.mvs.shutPending.set h false }
          notices := y.notices.raise .valveStuck h.number ((sideCode side + 256 * r.commanded.code : Nat) : Int)
            (y.gdc.clock.map (·.day)) (y.gdc.clock.map (·.period)) } }) ∧
    (∀ o before after vs, y.CanShut before after o vs → h ∈ y.mvs.worked o.holder → y.yds.bind.valve ⟨h, side⟩ ≠ none →
      (∀ x ∈ before ++ after, x.holder = o.holder → x.state = .waiting) →
      let failed : Yard := { y with
        now := max y.now (start + 24000 * limit)
        mvs := y.mvs.setValve ⟨h, side⟩ { r with timer := .idle } }
      exec (.valveTimerExpiry h side) s =
        concluded { s with yard := failed.toClosing before after o vs .valveStuck }) ∧
    (∀ o before after, y.mvs.orders = before ++ o :: after → h ∈ y.mvs.worked o.holder → y.yds.bind.valve ⟨h, side⟩ ≠ none →
      o.state = .closing →
      (∀ x ∈ before ++ after, x.number ≠ o.number ∧ (x.holder = o.holder → x.state = .waiting ∧ x.eligible = false)) →
      (y.mvs.isCoupled o.holder = true → o.holder.leads = true) →
      exec (.valveTimerExpiry h side) s =
        concluded { s with yard := { y with
          now := max y.now (start + 24000 * limit)
          mvs := { y.mvs.setValve ⟨h, side⟩ { r with timer := .idle } with
            orders := before ++ after
            unmanaged := markAll (y.mvs.worked o.holder) true y.mvs.unmanaged }
          notices :=
            (y.notices.raise .orderEnded o.number ((4 + 256 * o.standing : Nat) : Int) (y.gdc.clock.map (·.day))
              (y.gdc.clock.map (·.period))).raise .valveStuck h.number
                ((sideCode side + 256 * r.commanded.code : Nat) : Int) (y.gdc.clock.map (·.day))
                (y.gdc.clock.map (·.period)) } })) ∧
  (∀ (s : State) (d : District) (start limit : Nat), s.powered = true →
    let y := s.yard
    let r := y.dgu.districts.get d
    let after := max y.now (start + 24000 * limit)
    (r.runUp = .running start limit → r.feed = .boosting →
      ∃ y' : Yard, exec (.boosterRunUpExpiry d) s = concluded { s with yard := y' } ∧
        y'.dgu = { y.dgu with
          districts := y.dgu.districts.set d
            { r with boosterCmd := .stop, runUp := .idle, failed := true, feed := .short } } ∧
        (∀ p, y.yds.bind.booster.get d = some p →
          y'.scs = { y.scs with commands := (putInto y.scs.commands p .boosterStop 0 (.booster d)).1 }) ∧
        (y.yds.bind.booster.get d = none → y'.scs = y.scs) ∧
        (∀ t a, r.target = some t → y.dgu.available = some a →
          y'.freeDraws = y.freeDraws ∧
          y'.notices =
            (y.notices.raise .boosterFailed d.number 0 (y.gdc.clock.map (·.day)) (y.gdc.clock.map (·.period))).raise
              .districtShort d.number (t + (y.yds.feedSet.get d).drop - a)
              (y.gdc.clock.map (·.day)) (y.gdc.clock.map (·.period))) ∧
        y' = { y with
          now := after, dgu := y'.dgu, scs := y'.scs, freeDraws := y'.freeDraws, notices := y'.notices }) ∧
    (r.runUp = .running start limit → r.feed = .unboosting →
      exec (.boosterRunUpExpiry d) s =
        concluded { s with yard := { y with
          now := after
          dgu := { y.dgu with districts := y.dgu.districts.set d { r with feed := .direct, runUp := .idle } }
          notices := y.notices.raise .boosterFailed d.number 6
            (y.gdc.clock.map (·.day)) (y.gdc.clock.map (·.period)) } }) ∧
    (r.adoptWait = .running start limit →
      exec (.adoptionWaitExpiry d) s =
        concluded { s with yard := { y with
          now := after
          dgu := { y.dgu with
            districts := y.dgu.districts.set d { r with adoption := false, adoptWait := .idle, feed := .direct } } } }))

/-! ### District governing (05) -/

/-- The district update at the start of the ORDER phase. FRAME_SENT of MARK ORDER while COMMITTED: the available
pressure is the highest contribution of the holders whose outlet reports OPEN or CRACKED less the yard loss, or OUTLET
PRESS when none does; each present district's target is profile plus trim within floor and ceiling, its commanded
set-point moves to it by at most the slew; a governor command with that set-point is put, and its pending mark set, when it
has changed, or differs from the delivered one with no command pending; its adoption wait runs while the adoption mark is set,
and its feed state moves as the tables say, RUN or STOP put for its booster where the list has room or holds a command for the
point, DISTRICT SHORT raised on each entry to SHORT (R82, R83, R84, R88, R89, R90, R91, R92, R94). The evaluation of one
district is written out whole: its record, the command list, the notices. A governor command takes the place of the one for its
point, else it is appended, and one that finds the list full is undelivered at once with cause 1, COMMAND UNDELIVERED raised
(R84, R85, R128). That a booster already reporting RUNNING passes to BOOSTED whatever becomes of its RUN, and that a RUN which
finds the list full is otherwise a failure at once, is the model's reading (log 43), and so is the STOP of such a failure (log
42). Of a list that fills up in the course of one update only that the one or the other happens is said of a booster. -/
def Obligations.DistrictUpdateMade : Prop :=
  (∀ (y : Yard) (d : District) (changed : Bool) (v : Int),
    let r := y.dgu.districts.get d
    let put (r' : DistrictDyn) (cs : List Command) : Yard :=
      { y with dgu := { y.dgu with districts := y.dgu.districts.set d r' }, scs := { y.scs with commands := cs } }
    (y.yds.bind.governor.get d = none ∨ (changed = false ∧ (r.delivered = some v ∨ r.govPending = true)) →
      governorCommand d changed v y = y) ∧
    (∀ p, y.yds.bind.governor.get d = some p → changed = true ∨ (r.delivered ≠ some v ∧ r.govPending = false) →
      let same (c : Command) : Prop := c.outstation = p.outstation ∧ c.channel = p.channel
      ((∀ c ∈ y.scs.commands, ¬same c) → y.scs.commands.length < 32 →
        governorCommand d changed v y = put { r with govPending := true }
          (y.scs.commands ++ [⟨p.outstation, p.channel, .governorSet, v, .governor d, 0, false, false⟩])) ∧
      ((∃ c ∈ y.scs.commands, same c) →
        governorCommand d changed v y = put { r with govPending := true } (y.scs.commands.map fun c =>
          if c.outstation = p.outstation ∧ c.channel = p.channel then
            { c with code := .governorSet, value := v, owner := .governor d, sends := 0, inFlight := false }
          else c)) ∧
      ((∀ c ∈ y.scs.commands, ¬same c) → 32 ≤ y.scs.commands.length → y.yds.desc = .committed →
        governorCommand d changed v y =
          { put { r with govPending := false, govOutcome := .undelivered } y.scs.commands with
            notices := y.notices.raise .commandUndelivered d.number (v + 16777216) (y.gdc.clock.map (·.day))
              (y.gdc.clock.map (·.period)) }))) ∧
  (∀ (y : Yard) (d : District) (x : DistrictRec) (a t : Int), y.yds.districts.get d = some x →
    y.dgu.available = some a → (y.dgu.districts.get d).target = some t →
    let r := y.dgu.districts.get d
    let f := y.yds.feedSet.get d
    let put (r' : DistrictDyn) (cs : List Command) : Yard :=
      { y with dgu := { y.dgu with districts := y.dgu.districts.set d r' }, scs := { y.scs with commands := cs } }
    let raising (kind : NoticeKind) (datum : Int) (q : Notices) : Notices :=
      q.raise kind d.number datum (y.gdc.clock.map (·.day)) (y.gdc.clock.map (·.period))
    let short (q : Notices) : Notices := raising .districtShort (t + f.drop - a) q
    let same (p : Point) (c : Command) : Prop := c.outstation = p.outstation ∧ c.channel = p.channel
    let calls (code : CmdCode) (p : Point) (cs : List Command) : Prop :=
      ((∃ c ∈ y.scs.commands, same p c) ∧ cs = y.scs.commands.map fun c =>
        if c.outstation = p.outstation ∧ c.channel = p.channel then
          { c with code := code, value := 0, owner := .booster d, sends := 0, inFlight := false } else c) ∨
      ((∀ c ∈ y.scs.commands, ¬same p c) ∧ y.scs.commands.length < 32 ∧
        cs = y.scs.commands ++ [⟨p.outstation, p.channel, code, 0, .booster d, 0, false, false⟩])
    let full (p : Point) : Prop := (∀ c ∈ y.scs.commands, ¬same p c) ∧ 32 ≤ y.scs.commands.length
    let bars := x.booster = false ∨ r.failed = true
    let run := { r with boosterCmd := .run, hyst := 0, runUp := .idle,
                        feed := if r.boosterRep = .running then .boosted else .boosting }
    let stop := { r with boosterCmd := .stop, hyst := 0, runUp := .idle, feed := .unboosting }
    (r.feed = .boosting ∨ (t + f.drop ≤ a ∧ (r.feed = .direct ∨ r.feed = .unboosting)) ∨
      (a < t + f.drop ∧ r.feed = .short ∧ bars) → evaluateFeed d y = y) ∧
    (t + f.drop ≤ a → r.feed = .short → evaluateFeed d y = put { r with feed := .direct } y.scs.commands) ∧
    (a < t + f.drop → r.feed = .direct ∨ r.feed = .unboosting → bars →
      evaluateFeed d y =
        { put { r with feed := .short } y.scs.commands with notices := short y.notices }) ∧
    (a < t + f.drop → r.feed = .direct ∨ r.feed = .short ∨ r.feed = .unboosting → x.booster = true → r.failed = false →
      (y.yds.bind.booster.get d = none → evaluateFeed d y = put run y.scs.commands) ∧
      ∀ p, y.yds.bind.booster.get d = some p →
        (∀ cs, calls .boosterRun p cs → evaluateFeed d y = put run cs) ∧
        (full p → r.boosterRep = .running → evaluateFeed d y = put run y.scs.commands) ∧
        (full p → r.boosterRep ≠ .running → evaluateFeed d y =
          { put { run with boosterCmd := .stop, failed := true, feed := .short } y.scs.commands with
            notices := short (raising .boosterFailed 1 y.notices) })) ∧
    (r.feed = .boosted →
      (a < t + f.drop + f.hysteresis → evaluateFeed d y = put { r with hyst := 0 } y.scs.commands) ∧
      (t + f.drop + f.hysteresis ≤ a → r.hyst < 3 →
        evaluateFeed d y = put { r with hyst := r.hyst + 1 } y.scs.commands) ∧
      (t + f.drop + f.hysteresis ≤ a → 3 ≤ r.hyst →
        (y.yds.bind.booster.get d = none → evaluateFeed d y = put stop y.scs.commands) ∧
        ∀ p, y.yds.bind.booster.get d = some p →
          (∀ cs, calls .boosterStop p cs → evaluateFeed d y = put stop cs) ∧
          (full p → evaluateFeed d y =
            { put { stop with feed := .direct } y.scs.commands with notices := raising .boosterFailed 1 y.notices })))) ∧
  ∀ (s : State) (f : Flight), s.powered = true → s.yard.yds.desc = .committed → s.yard.ylc.line = .sending →
    s.yard.ylc.flight = some f → f.exchange = .frame (.mark .order) →
    let y := s.yard
    let counted (h : Holder) : Prop := y.yds.holders.get h ≠ none ∧
      ((y.mvs.outlets.get h).reported = .opened ∨ (y.mvs.outlets.get h).reported = .cracked)
    let waits (p : Point) : Prop := ∃ c ∈ y.scs.commands, c.outstation = p.outstation ∧ c.channel = p.channel
    let room (p : Point) : Prop := waits p ∨ y.scs.commands.length ≤ 16
    let full (p : Point) : Prop := ¬waits p ∧ 32 ≤ y.scs.commands.length
    ∃ y' : Yard, exec .frameSent s = concluded { s with yard := y' } ∧
      ((∀ h, ¬counted h) → y'.dgu.available = y.qpr.recs.outletPress.value) ∧
      ((∃ h, counted h) → ∃ h, counted h ∧ y'.dgu.available = some (contribution y h - y.yds.yardLoss) ∧
        ∀ h', counted h' → contribution y h' ≤ contribution y h) ∧
      (∀ d, y.yds.districts.get d = none → y'.dgu.districts.get d = y.dgu.districts.get d) ∧
      ∀ d x, y.yds.districts.get d = some x → x.floor ≤ x.ceiling → 0 ≤ (y.yds.feedSet.get d).slew →
        let r := y.dgu.districts.get d
        let r' := y'.dgu.districts.get d
        let f := y.yds.feedSet.get d
        let t := min x.ceiling (max x.floor (r.profile + r.trim))
        r'.target = some t ∧ r'.profile = r.profile ∧ r'.trim = r.trim ∧
        (r.commanded = none → r'.commanded = some t) ∧
        (∀ c, r.commanded = some c → r'.commanded = some (min (c + f.slew) (max (c - f.slew) t))) ∧
        r'.delivered = r.delivered ∧
        (let calls := r'.commanded ≠ r.commanded ∨ (r.delivered ≠ r'.commanded ∧ r.govPending = false)
        (y.yds.bind.governor.get d = none ∨ ¬calls →
          r'.govPending = r.govPending ∧ r'.govOutcome = r.govOutcome) ∧
        (∀ p, y.yds.bind.governor.get d = some p → calls →
          (room p → r'.govPending = true ∧ r'.govOutcome = r.govOutcome ∧
            ((∀ z, y.yds.bind.booster.get z ≠ some p ∧ (z ≠ d → y.yds.bind.governor.get z ≠ some p)) →
              ∃ c ∈ y'.scs.commands, c.outstation = p.outstation ∧ c.channel = p.channel ∧ c.code = .governorSet ∧
                some c.value = r'.commanded ∧ c.owner = .governor d)) ∧
          (full p → r'.govPending = false ∧ r'.govOutcome = .undelivered))) ∧
        (r.adoption = true → r'.feed = r.feed ∧ r'.adoption = true ∧
          (r.adoptWait = .idle → r'.adoptWait = .running y'.now f.runUp)) ∧
        (r.adoption = false → y'.dgu.available = none → r'.feed = r.feed ∧ r'.hyst = 0) ∧
        ∀ a, r.adoption = false → y'.dgu.available = some a →
          (r.feed = .boosting → r'.feed = .boosting) ∧
          (t + f.drop ≤ a →
            (r.feed = .direct ∨ r.feed = .short → r'.feed = .direct) ∧ (r.feed = .unboosting → r'.feed = .unboosting)) ∧
          (a < t + f.drop → r.feed ≠ .boosting → r.feed ≠ .boosted → x.booster = false ∨ r.failed = true →
            r'.feed = .short) ∧
          (a < t + f.drop → r.feed ≠ .boosting → r.feed ≠ .boosted → x.booster = true → r.failed = false →
            (r.boosterRep = .running → r'.feed = .boosted ∧ r'.boosterCmd = .run) ∧
            (r.boosterRep ≠ .running →
              let runs := r'.feed = .boosting ∧ r'.boosterCmd = .run ∧ r'.hyst = 0 ∧ r'.runUp = .idle
              let fails := r'.feed = .short ∧ r'.failed = true ∧ r'.boosterCmd = .stop
              (runs ∨ fails) ∧ (y.yds.bind.booster.get d = none → runs) ∧
              ∀ p, y.yds.bind.booster.get d = some p → (room p → runs) ∧ (full p → fails))) ∧
          (r.feed = .boosted → a < t + f.drop + f.hysteresis → r'.feed = .boosted ∧ r'.hyst = 0) ∧
          (r.feed = .boosted → t + f.drop + f.hysteresis ≤ a → r.hyst < 3 →
            r'.feed = .boosted ∧ r'.hyst = r.hyst + 1) ∧
          (r.feed = .boosted → t + f.drop + f.hysteresis ≤ a → 3 ≤ r.hyst →
            r'.boosterCmd = .stop ∧ r'.hyst = 0 ∧ (r'.feed = .unboosting ∨ r'.feed = .direct) ∧
            (y.yds.bind.booster.get d = none → r'.feed = .unboosting) ∧
            ∀ p, y.yds.bind.booster.get d = some p → (room p → r'.feed = .unboosting) ∧ (full p → r'.feed = .direct)) ∧
          (∀ p, y.yds.bind.booster.get d = some p → room p →
            (∀ z, y.yds.bind.governor.get z ≠ some p ∧ (z ≠ d → y.yds.bind.booster.get z ≠ some p)) →
            let stands (code : CmdCode) : Prop := ∃ c ∈ y'.scs.commands,
              c.outstation = p.outstation ∧ c.channel = p.channel ∧ c.code = code ∧ c.value = 0 ∧ c.owner = .booster d
            (a < t + f.drop → r.feed ≠ .boosting → r.feed ≠ .boosted → x.booster = true → r.failed = false →
              stands .boosterRun) ∧
            (r.feed = .boosted → t + f.drop + f.hysteresis ≤ a → 3 ≤ r.hyst → stands .boosterStop)) ∧
          (r'.feed = .short → r.feed ≠ .short ∨ (r.failed = false ∧ r'.failed = true) → y.notices.queue.length ≤ 8 →
            ∃ n ∈ y'.notices.queue, n.kind = .districtShort ∧ n.object = d.number ∧ n.datum = t + f.drop - a)

/-! ### The yard line (06) and the scan cycle (07) -/

/-- The header check. A header and its check byte decode good; with any one data bit wrong the header is mended, with c0
to c4 wrong it is taken, both as corrected; with c5 alone wrong it is good; with any two bits of the twenty-two wrong,
or with bit 6 or 7 of the check byte set, it is uncorrectable (R103, R104). -/
def Obligations.HeaderErrorsFound : Prop :=
  ∀ b1 b2 : Byte,
    let c := checkByte b1 b2
    decodeHeader b1 b2 c = some (b1, b2, false) ∧
    (∀ k, k < 8 → decodeHeader (b1 ^^^ BitVec.ofNat 8 (2 ^ k)) b2 c = some (b1, b2, true) ∧
      decodeHeader b1 (b2 ^^^ BitVec.ofNat 8 (2 ^ k)) c = some (b1, b2, true)) ∧
    (∀ k, k < 5 → decodeHeader b1 b2 (c ^^^ BitVec.ofNat 8 (2 ^ k)) = some (b1, b2, true)) ∧
    decodeHeader b1 b2 (c ^^^ 0x20#8) = some (b1, b2, false) ∧
    (∀ e1 e2 ec : Byte, ec.toNat < 64 → countOnes (headerBits e1 e2) + countOnes (bitsOf 6 ec.toNat) = 2 →
      decodeHeader (b1 ^^^ e1) (b2 ^^^ e2) (c ^^^ ec) = none) ∧
    (∀ r1 r2 rc : Byte, 64 ≤ rc.toNat → decodeHeader r1 r2 rc = none)

/-- What the line does when a wait of its own is over. GUARD_EXPIRY: the line passes to IDLE at the end of two character
times at mark, or takes the exchange that has waited longest at the settings then standing, or, where LINE RESET has asked
for it meanwhile, sends the long break first (log 30). FRAME_SENT of a frame that
asks a reply: the driver is released and the reply window runs. FRAME_SENT of a MARK ends the exchange, the line in GUARD: of MARK
DAY the marker is no longer owed, SOA and QPR are told, and MARK POLL follows; of MARK POLL the roster is polled once round
from the rotating start; of MARK ORDER the district update is made while COMMITTED, and the command list is taken: each command
not yet taken of an UNKNOWN, LIVE or SUSPECT outstation is sent, the others are held, and the list's end asks for MARK LOAD or,
past the interval end, starts the next cycle; of MARK LOAD the LOAD phase goes on. BREAK_SENT of the wake pulse: the sleepers are woken, the wake
recorded, and the LOAD phase goes on; of the short break: the exchange ends with its decided outcome. BREAK_SENT of the long
break of line start or of LINE RESET: a scan cycle starts, with MARK DAY first where a marker is owed, else MARK POLL, the
sleepers woken first where it recovers a held line too (R97, R98, R99, R110, R116, R122, R123, R124, R125, R126, R127,
R131). That an end of sending moves the time base to its own moment is the model's choice (log
3), and so is how the driver's release leaves the line's level (log 69), and that MARK POLL's round takes the entries that stand
in the roster when it has been sent (log 74); that a rotating start that is none is the lowest address is its reading (log 36). -/
def Obligations.FramesGoOut : Prop :=
  ∀ s : State, s.powered = true →
    let y := s.yard
    let u := y.ylc
    (u.line = .guard → y.lineSpace = false →
      let now := max y.now (u.busy + 2 * u.charTime)
      let taken (e : Exchange) (rest : List Exchange) (line : LineState) (brk : Option BreakKind) : Yard :=
        { y with
          now := now
          ylc := { u with
            line := line, flight := some ⟨e, y.yds.line.window, 0, none, none⟩, waiting := rest, timer := none,
            detector := none, driving := true, brk := brk, began := now, charTime := y.yds.line.rate.charTime } }
      (u.again = true →
        exec .guardExpiry s = concluded { s with yard := { y with
          now := now
          ylc := { u with
            line := .breaking, flight := none, timer := none, detector := none, driving := true, brk := some .long,
            began := now, again := false, charTime := y.yds.line.rate.charTime } } }) ∧
      (u.again = false → u.waiting = [] →
        exec .guardExpiry s = concluded { s with yard := { y with now := now, ylc := { u with line := .idle } } }) ∧
      (∀ f rest, u.again = false → u.waiting = .frame f :: rest →
        exec .guardExpiry s = concluded { s with yard := taken (.frame f) rest .sending none }) ∧
      (∀ rest, u.again = false → u.waiting = .wake :: rest →
        exec .guardExpiry s = concluded { s with yard := taken .wake rest .breaking (some .wake) })) ∧
    (∀ f g, u.line = .sending → u.flight = some f → f.exchange = .frame g → g.replyKind ≠ none →
      let now := max y.now (u.began + g.bytes.length * u.charTime)
      exec .frameSent s = concluded { s with yard := { y with
        now := now
        ylc := { u with
          line := .awaitReply, timer := some (now + 24 * f.window), driving := false, busy := now,
          detector := if y.lineSpace then some now else none } } }) ∧
    (0 < u.charTime →
      let ended (now : Nat) : Yard := { y with
        now := now
        ylc := { u with
          line := .guard, flight := none, timer := none, driving := false, busy := now,
          detector := if y.lineSpace then some now else none } }
      (∀ f p, u.line = .sending → u.flight = some f → f.exchange = .frame (.mark p) →
        let sent := ended (max y.now (u.began + (Frame.mark p).bytes.length * u.charTime))
        (p = .day → exec .frameSent s = concluded { s with yard := { sent.asking (.frame (.mark .poll)) with
          scs := { y.scs with
            dayOwed := false, phase := .poll, pollStart := sent.now, toPoll := [], polling := none, retrying := false,
            sleepWait := none
            roster := y.scs.roster.map fun e =>
              if e.dyn.state = .failed then { e with dyn := { e.dyn with failedWait := e.dyn.failedWait - 1 } } else e }
          qpr := { y.qpr with markerAwaited := false }
          soa := { y.soa with markerOut := true } } }) ∧
        (p = .poll →
          let addresses := y.scs.roster.map (·.address)
          let round := match y.scs.rotating with
            | none => addresses
            | some a => addresses.filter (a ≤ ·) ++ addresses.filter (· < a)
          exec .frameSent s = concluded { s with yard := pollOn round sent }) ∧
        (p = .order →
          let z := if y.yds.desc = .opened then sent else districtUpdate sent
          exec .frameSent s = concluded { s with yard := orderOn { z with
            scs := { z.scs with commands := z.scs.commands.map ({ · with taken := false }) } } }) ∧
        (p = .load → exec .frameSent s = concluded { s with yard := loadOn { sent with
          scs := { y.scs with probed := 0, loads := y.scs.loads.map ({ · with taken := false }) } } })) ∧
      (u.line = .breaking → u.driving = true → u.again = false →
        (∀ f, u.brk = some .wake → u.flight = some f → f.exchange = .wake →
          let sent := ended (max y.now (u.began + 3600 + u.charTime))
          exec .breakSent s = concluded { s with yard := loadOn { sent with
            ylc := { sent.ylc with brk := none }
            scs := { y.scs with
              wakeDue := false, lastWake := some (sent.now, y.gdc.clock.map (·.period))
              roster := y.scs.roster.map fun e =>
                if e.sleeper = true ∧ (e.dyn.state = .asleep ∨ e.dyn.state = .waking) then
                  { e with dyn := { e.dyn with state := .waking, wakeTime := sent.now } }
                else if e.sleeper = true ∧ e.dyn.state = .failed then
                  { e with dyn := { e.dyn with woken := some sent.now } }
                else e } } }) ∧
        (∀ f o, u.brk = some .short → u.flight = some f → f.decided = some o →
          let sent := ended (max y.now (u.began + 960 + u.charTime))
          exec .breakSent s = concluded { s with
            yard := scsOutcome f.exchange o { sent with ylc := { sent.ylc with brk := none } } }))) ∧
    (u.line = .guard →
      let sendable (c : Command) : Prop := ∃ e, y.scs.entryAt c.outstation = some e ∧
        (e.dyn.state = .unknown ∨ e.dyn.state = .live ∨ e.dyn.state = .suspect)
      (∀ before c after, y.scs.commands = before ++ c :: after → (∀ x ∈ before, x.taken = true ∨ ¬sendable x) →
        c.taken = false → sendable c → orderOn y =
          { y.asking (.frame (.order c.outstation c.channel c.code c.value)) with
            scs := { y.scs with commands := before.map ({ · with taken := true }) ++
              { c with taken := true, inFlight := true, sends := c.sends + 1 } :: after } }) ∧
      ((∀ x ∈ y.scs.commands, x.taken = true ∨ ¬sendable x) →
        let all := y.scs.commands.map ({ · with taken := true })
        (y.now < y.scs.cycleStart + 24000 * y.scs.interval → orderOn y =
          { y.asking (.frame (.mark .load)) with scs := { y.scs with phase := .load, commands := all } }) ∧
        (y.scs.cycleStart + 24000 * y.scs.interval ≤ y.now →
          (orderOn y).scs.cycle = (y.scs.cycle + 1) % 65536 ∧ (orderOn y).scs.cycleStart = y.now ∧
          (orderOn y).scs.commands = all ∧
          (y.scs.dayOwed = true → (orderOn y).ylc = (y.asking (.frame (.mark .day))).ylc ∧ (orderOn y).scs.phase = .day) ∧
          (y.scs.dayOwed = false →
            (orderOn y).ylc = (y.asking (.frame (.mark .poll))).ylc ∧ (orderOn y).scs.phase = .poll)))) ∧
    (u.line = .breaking → u.driving = true → u.brk = some .long → u.again = false →
      u.why.lineStart = true ∨ u.why.reset = true → u.waiting = [] → 0 < u.charTime → y.lineSpace = false →
      let now := max y.now (u.began + 12000 + u.charTime)
      let line (p : MarkPhase) : Ylc := { u with
        line := .guard, waiting := [.frame (.mark p)], driving := false, detector := none, brk := none,
        why := ⟨false, false, false⟩, busy := now, held := u.held && !u.why.recovery }
      ∃ wake : Bool, (wake = true ↔ y.scs.wakeDue = true ∨ y.scs.lastWake = none ∨ ∃ t p, y.scs.lastWake = some (t, p) ∧
        (∀ c, y.gdc.clock = some c → p ≠ some c.period) ∧ (y.gdc.clock = none → t + 24000 * 900 ≤ now)) ∧
      let woken := y.scs.roster.map fun e =>
        if u.why.recovery = true ∧ e.sleeper = true then
          { e with dyn :=
            if e.dyn.state = .asleep then { e.dyn with state := .waking, wakeTime := now }
            else if e.dyn.state = .failed then { e.dyn with woken := some now }
            else e.dyn }
        else e
      let cycle : Scs := { y.scs with
        cycle := (y.scs.cycle + 1) % 65536, interval := y.yds.scan, cycleStart := now, wakeDue := wake, roster := woken }
      (y.scs.dayOwed = true →
        exec .breakSent s = concluded { s with yard := { y with
          now := now, ylc := line .day, scs := { cycle with phase := .day } } }) ∧
      (y.scs.dayOwed = false →
        exec .breakSent s = concluded { s with yard := { y with
          now := now
          ylc := line .poll
          scs := { cycle with
            phase := .poll, pollStart := now, toPoll := [], polling := none, retrying := false, sleepWait := none
            roster := woken.map fun e =>
              if e.dyn.state = .failed then { e with dyn := { e.dyn with failedWait := e.dyn.failedWait - 1 } }
              else e } } }))

/-- How the payload of a reply is taken, REPLY_COMPLETE by the deadline. The IDENT of a PROBE: the kinds fitted are recorded and
compared with the entry. The VALUES of a READ, one to four entries: the outstation is LIVE, or ASLEEP where it is a sleeper that
goes to sleep (flag 16), with no misses, UNCHECKED where RESTARTED (flag 8), OUTSTATION RECOVERED raised where it was FAILED;
each entry is taken as its kind, status and value say; one of a channel without a point, or while MISMATCHED of a kind IDENT
reported otherwise, is discarded. With latched indices (flag 32) the latch of a bound meter moves its remainder part to the
pending day. The ACK of an ORDER alone in the list: delivered on OK and CORRECTED, refused or at local hand as told, and on any
other a failed send, undelivered at the third; the owner takes the outcome: a governor records it, a valve's timer runs or the
valve fails; a failed valve or one at local hand leaves its holder UNMANAGED or, where it is bound, closes or abandons the
active order that it belongs to, of a holder alone or of a coupled pair; a RUN fails to SHORT with a STOP put, a STOP to DIRECT.
The ACK of a LOAD: its entry's outcome (R35, R36, R37, R51, R52, R57, R85, R86, R90, R92, R93, R108, R119, R120, R121, R122,
R129, R130, R136, R139, R140, R152). The model's choice: how moments are carried (log 3), the order's leaving at LOCAL (log 24),
the run of failed boosters (log 42, log 43), a SUSPECT valve or booster (log 70), UNCHECKED after the entries (log 71), the
restarted flag for every meter entry handed, also where the first of the reply is discarded (log 88), a range low above Zn + 500
(log 77), the commands of one deed given before the failures are taken (log 54), the shortfall over the drop margin stored (log
56), the order of the SHUT commands (log 61). -/
def Obligations.ReplyTaken : Prop :=
  ∀ (s : State) (moment : Nat), s.powered = true →
    let y := s.yard
    let u := y.ylc
    let now := max y.now moment
    let day := y.gdc.clock.map (·.day)
    let period := y.gdc.clock.map (·.period)
    (∀ t f a mended kind (points : Four (Option PointKind)) (bytes : List Byte) e, u.line = .receiving →
      u.timer = some t → u.flight = some f → f.header = some (5, mended) → f.exchange = .frame (.probe a) → now ≤ t →
      bytes.map (·.toNat) = [OutstationKind.code kind, fittedCode points.a0, fittedCode points.a1, fittedCode points.a2,
        fittedCode points.a3] → y.scs.entryAt a = some e →
      ∃ (y' : Yard) (e' : Entry), exec (.replyComplete moment (bytes ++ crcBytes bytes)) s = concluded { s with yard := y' } ∧
        y' = { y with now := now, ylc := y'.ylc, scs := y'.scs } ∧ y'.scs.entryAt a = some e' ∧
        e'.dyn.fitted = some ⟨kind, points⟩ ∧
        e'.dyn.identity = (if kind = e.kind ∧ points = e.points then .matched else .mismatched) ∧
        e'.dyn.counters =
          (if mended then
            { e.dyn.counters with
              corrected := if e.dyn.counters.corrected < 65535 then e.dyn.counters.corrected + 1
                else e.dyn.counters.corrected }
          else e.dyn.counters)) ∧
    (∀ t f a mended (flags corrections discards : Byte) (restarted sleeping latched : Bool) (es : List PointEntry)
        (indices : List Nat) e,
      let metered := es.filter fun x => decide (e.points.get x.channel = some .meter)
      indices.length = (if latched then metered.length else 0) → (∀ l ∈ indices, l < 16777216) →
      u.line = .receiving → u.timer = some t → u.flight = some f →
      f.header = some (3 + 4 * es.length + 3 * indices.length, mended) → f.exchange = .frame (.read a) → now ≤ t → 1 ≤ es.length → es.length ≤ 4 →
      (∀ x ∈ es, x.channel ≤ 3) → es.Pairwise (fun x z => x.channel ≠ z.channel) →
      (∀ x ∈ es, x.status ≠ .fault → (e.points.get x.channel = some .valve → x.raw.toNat ≤ 4) ∧
        (e.points.get x.channel = some .booster → x.raw.toNat ≤ 2)) →
      flags.toNat = es.length + 8 * restarted.toNat + 16 * sleeping.toNat + 32 * latched.toNat →
      y.scs.entryAt a = some e →
      let bytes := flags :: corrections :: discards :: (es.flatMap (·.bytes) ++ indices.flatMap (leBytes 3))
      ∃ (y' : Yard) (e' : Entry), exec (.replyComplete moment (bytes ++ crcBytes bytes)) s = concluded { s with yard := y' } ∧
        y'.scs.entryAt a = some e' ∧ e'.points = e.points ∧ e'.dyn.misses = 0 ∧ e'.dyn.lastGood = some y.scs.cycle ∧
        e'.dyn.state = (if e.sleeper = true ∧ sleeping = true then .asleep else .live) ∧
        e'.dyn.identity = (if restarted = true then .unchecked else e.dyn.identity) ∧
        (e.dyn.counters.outCorrections + corrections.toNat ≤ 65535 →
          e'.dyn.counters.outCorrections = e.dyn.counters.outCorrections + corrections.toNat) ∧
        (e.dyn.counters.outDiscards + discards.toNat ≤ 65535 →
          e'.dyn.counters.outDiscards = e.dyn.counters.outDiscards + discards.toNat) ∧
        (e.dyn.state = .failed → y.notices.queue.length < 32 →
          ∃ n ∈ y'.notices.queue, n.kind = .outstationRecovered ∧ n.object = a ∧ n.datum = a) ∧
        (e.dyn.state ≠ .failed →
          ∀ n ∈ y'.notices.queue, n.kind = .outstationRecovered → n ∈ y.notices.queue) ∧
        (∀ x ∈ es, (e.Keeps x → y.Takes y' e restarted x) ∧ (¬e.Keeps x → y.Passes y' e x)) ∧
        (∀ x index m n b p day, (x, index) ∈ metered.zip indices → e.Keeps x → x.status = .good → x.raw.toNat ≤ 999999 →
          restarted = false → y.yds.desc = .committed → y.yds.meterBound m = true →
          (∀ k, (y.yds.bind.slots.get (meterSlot k)).primary = some ⟨a, x.channel⟩ ↔ k = m) →
          y.qpr.current ≠ none → y.qpr.markerAwaited = false → (y.qpr.recs.get (meterSlot m)).base = some b →
          let delta := (((x.raw.toNat : Int) - b) % 1000000).toNat
          (delta : Int) ≤ (y.yds.subs.get (meterSlot m)).jump →
          y.soa.current = some day → y.soa.pending = some p → p.started = false → y.soa.markerOut = true →
          (p.day.meters.get m).latched = false → y.yds.meterBound n = true → (p.day.meters.get n).latched = false →
          (∀ pt, (y.yds.bind.slots.get (meterSlot n)).primary = some pt → pt.outstation ≠ a) →
          let part : Int := match (y.soa.seen.get m).register with
            | some q => min (((index : Int) - q) % 1000000) delta
            | none => 0
          ∃ p' day', y'.soa.pending = some p' ∧ y'.soa.current = some day' ∧
            p'.day.meters.get m = { p.day.meters.get m with
              latched := true, remainder := (p.day.meters.get m).remainder + part * y.yds.meterFactor m } ∧
            (day'.meters.get m).openAcc = (day.meters.get m).openAcc + (delta - part) * y.yds.meterFactor m)) ∧
    (∀ t f mended (code ch : Byte) c, u.line = .receiving → u.timer = some t → u.flight = some f →
      f.header = some (2, mended) → f.exchange = .frame (.order c.outstation c.channel c.code c.value) → now ≤ t →
      code.toNat ≤ 5 → ch.toNat = c.channel → y.scs.commands = [c] → c.inFlight = true → y.yds.desc = .committed →
      let bytes := [code, ch]
      let ok := code.toNat = 0 ∨ code.toNat = 1
      let failed := (code.toNat = 2 ∨ code.toNat = 3) ∧ c.sends < 3
      ∃ y' : Yard, exec (.replyComplete moment (bytes ++ crcBytes bytes)) s = concluded { s with yard := y' } ∧
        y'.yds = y.yds ∧ y'.qpr = y.qpr ∧ y'.soa = y.soa ∧ y'.hsu = y.hsu ∧ y'.gdc = y.gdc ∧
        (failed → (∃ c', y'.scs.commands = [c'] ∧ c'.code = c.code ∧ c'.value = c.value ∧ c'.owner = c.owner) ∧
          y'.mvs = y.mvs ∧ y'.dgu = y.dgu ∧ y'.notices = y.notices) ∧
        (¬failed → ∀ d, c.owner = .governor d →
          y'.scs.commands = [] ∧ y'.mvs = y.mvs ∧
          (ok → y'.notices = y.notices ∧
            y'.dgu = { y.dgu with districts := y.dgu.districts.set d { y.dgu.districts.get d with
              govPending := false, govOutcome := .delivered, delivered := some c.value } }) ∧
          (∀ (o : GovOutcome) (cause : Int), (code.toNat = 4 ∧ o = .localHand ∧ cause = 4) ∨ (code.toNat = 5 ∧ o = .refused ∧ cause = 3) ∨
              ((code.toNat = 2 ∨ code.toNat = 3) ∧ o = .undelivered ∧ cause = 0) →
            y'.notices = y.notices.raise .commandUndelivered d.number (c.value + 16777216 * cause) day period ∧
            y'.dgu = { y.dgu with districts := y.dgu.districts.set d { y.dgu.districts.get d with
              govPending := false, govOutcome := o } })) ∧
        (¬failed → ∀ v, c.owner = .valve v → y.mvs.activeOrder v.holder = none ∨ y.yds.bind.valve v = none →
          let r := y.mvs.valve v
          (ok → y'.mvs = y.mvs.setValve v { r with
              timer := if r.commanded.asReport = some r.reported then .idle else .running now y.yds.valveLimit } ∧
            y'.notices = y.notices) ∧
          (code.toNat = 4 →
            y'.mvs = { y.mvs.setValve v { r with commanded := .none, timer := .idle } with
              unmanaged := y.mvs.unmanaged.set v.holder true
              shutPending := y.mvs.shutPending.set v.holder false } ∧
            y'.notices = y.notices.raise .localControl v.holder.number (sideCode v.side : Int) day period) ∧
          (code.toNat = 5 ∨ code.toNat = 2 ∨ code.toNat = 3 →
            y'.mvs = { y.mvs.setValve v { r with timer := .idle } with
              unmanaged := y.mvs.unmanaged.set v.holder true
              shutPending := y.mvs.shutPending.set v.holder false } ∧
            y'.notices = y.notices.raise .valveStuck v.holder.number
              ((sideCode v.side + 256 * r.commanded.code : Nat) : Int) day period)) ∧
        (¬failed → ∀ v o before after, c.owner = .valve v → v.holder ∈ y.mvs.worked o.holder → y.yds.bind.valve v ≠ none →
          y.mvs.orders = before ++ o :: after → (∀ x ∈ before ++ after,
            x.number ≠ o.number ∧ (x.holder = o.holder → x.state = .waiting ∧ x.eligible = false)) →
          (y.mvs.isCoupled o.holder = true → o.holder.leads = true) →
          let r := y.mvs.valve v
          let idle : Mvs := y.mvs.setValve v { r with timer := .idle }
          let alone : Yard := { y with mvs := idle, scs := { y.scs with commands := [] } }
          let ended (reason : Nat) : Notices :=
            y.notices.raise .orderEnded o.number ((reason + 256 * o.standing : Nat) : Int) day period
          (ok → o.state ≠ .waiting → y'.notices = y.notices ∧ y'.mvs = y.mvs.setValve v { r with
            timer := if r.commanded.asReport = some r.reported then .idle else .running now y.yds.valveLimit }) ∧
          (code.toNat = 5 ∨ code.toNat = 2 ∨ code.toNat = 3 →
            (∀ vs, alone.CanShut before after o vs →
              y'.notices = y.notices ∧ y'.mvs = (alone.toClosing before after o vs .valveStuck).mvs) ∧
            (o.state = .closing →
              y'.mvs = { idle with
                orders := before ++ after, unmanaged := markAll (y.mvs.worked o.holder) true y.mvs.unmanaged } ∧
              y'.notices = (ended 4).raise .valveStuck v.holder.number
                ((sideCode v.side + 256 * r.commanded.code : Nat) : Int) day period)) ∧
          (code.toNat = 4 → o.state = .closing ∨ (∃ vs, alone.CanShut before after o vs) →
            y'.mvs.orders = before ++ after ∧ (∀ h ∈ y.mvs.worked o.holder, y'.mvs.unmanaged.get h = true) ∧
            y'.mvs.shutPending.get v.holder = false ∧ y'.mvs.valve v = { r with commanded := .none, timer := .idle } ∧
            (∀ w : Valve, w.holder ∈ y.mvs.worked o.holder → w ≠ v → y.yds.bind.valve w ≠ none →
              (y'.mvs.valve w).commanded = .shut) ∧
            y'.notices = (y.notices.raise .localControl v.holder.number (sideCode v.side : Int) day period).raise
              .orderEnded o.number ((5 + 256 * o.standing : Nat) : Int) day period)) ∧
        (¬failed → ∀ d, c.owner = .booster d → c.code = .boosterRun →
          let r := y.dgu.districts.get d
          y'.mvs = y.mvs ∧
          (r.feed = .boosting → ok → y'.notices = y.notices ∧
            y'.dgu.districts.get d =
              (if r.boosterRep = .running then r else { r with runUp := .running now (y.yds.feedSet.get d).runUp })) ∧
          (r.feed = .boosting → ¬ok →
            y'.dgu.districts.get d = { r with boosterCmd := .stop, runUp := .idle, failed := true, feed := .short } ∧
            (∀ p, y.yds.bind.booster.get d = some p → ∃ stop ∈ y'.scs.commands, stop.outstation = p.outstation ∧
              stop.channel = p.channel ∧ stop.code = .boosterStop ∧ stop.owner = .booster d) ∧
            ∀ (cause : Int) tt av, r.target = some tt → y.dgu.available = some av →
              (code.toNat = 4 ∧ cause = 3) ∨ (code.toNat = 5 ∧ cause = 2) ∨ ((code.toNat = 2 ∨ code.toNat = 3) ∧ cause = 1) →
              y'.notices = (y.notices.raise .boosterFailed d.number cause day period).raise .districtShort d.number
                (tt + (y.yds.feedSet.get d).drop - av) day period) ∧
          (r.feed ≠ .boosting → y'.dgu = y.dgu ∧ y'.notices = y.notices)) ∧
        (¬failed → ∀ d, c.owner = .booster d → c.code = .boosterStop →
          let r := y.dgu.districts.get d
          y'.mvs = y.mvs ∧
          (r.feed = .unboosting → ok → y'.notices = y.notices ∧
            y'.dgu.districts.get d =
              (if r.boosterRep = .stopped then r else { r with runUp := .running now (y.yds.feedSet.get d).runUp })) ∧
          (r.feed = .unboosting → ¬ok →
            y'.dgu.districts.get d = { r with feed := .direct, runUp := .idle } ∧
            ∀ cause : Int,
              (code.toNat = 4 ∧ cause = 3) ∨ (code.toNat = 5 ∧ cause = 2) ∨ ((code.toNat = 2 ∨ code.toNat = 3) ∧ cause = 1) →
              y'.notices = y.notices.raise .boosterFailed d.number cause day period) ∧
          (r.feed ≠ .unboosting → y'.dgu = y.dgu ∧ y'.notices = y.notices))) ∧
    (∀ t f a mended (code : Byte) l param value e, u.line = .receiving → u.timer = some t → u.flight = some f →
      f.header = some (2, mended) → f.exchange = .frame (.load a param value) → now ≤ t → code.toNat ≤ 5 →
      y.scs.loads = [l] → l.inFlight = true → l.address = a → y.scs.entryAt a = some e →
      let bytes := [code, 0#8]
      let failed := (code.toNat = 2 ∨ code.toNat = 3) ∧ l.sends < 3
      ∃ (y' : Yard) (e' : Entry), exec (.replyComplete moment (bytes ++ crcBytes bytes)) s = concluded { s with yard := y' } ∧
        y'.scs.entryAt a = some e' ∧
        (failed → e'.dyn.load = e.dyn.load ∧
          ∃ l', y'.scs.loads = [l'] ∧ l'.address = a ∧ l'.param = l.param ∧ l'.value = l.value) ∧
        (¬failed → y'.scs.loads = [] ∧
          e'.dyn.load = (if code.toNat ≤ 1 then .done else if code.toNat = 4 then .localHand
            else if code.toNat = 5 then .refused else .failed)))

/-- How a reply comes in, and how an exchange fails. REPLY_START in the window: RECEIVING, with the deadline of a header; after
it: nothing. REPLY_HEADER_RECEIVED: an uncorrectable header drains, one that does not answer the frame drains as WRONG REPLY,
one of length 0 ends the exchange PAYLOAD BAD, and a good one gives the length and moves the deadline. REPLY_COMPLETE with a bad
payload check: PAYLOAD BAD. A READ that fails is counted and begun once more within the poll budget; a second failure is a
missed poll: misses, SUSPECT and FAILED by the tables, a sleeper taken as gone to sleep; with the budget spent no miss is
counted and the cycle is SHORT. REPLY_WINDOW_EXPIRY of the first READ of a poll within the budget: TIMEOUT is counted and the
retry begun. A deadline passed, a stop bit at space, and a drain that runs out with the line still busy: a short break goes out
within the exchange; where the line has stood at mark for two character times by then, DRAIN_TIMEOUT has no occasion. DRAIN_END:
the exchange ends with its decided outcome; an ORDER so failed for the first or second time keeps its place in the command list
(R98, R102, R104, R110, R111, R115, R119, R122, R125, R127, R129). How moments are carried, that the poll budget is tested when
the READ is handed, and that the very moment at which a window, a deadline or a drain runs out is still in time, is the model's
choice (log 3, log 32, log 93), and so is that the poll of an address whose entry has been removed goes on in the same way (log
82); that the next exchange begins at once where two character times at mark are over is its reading (log 33). -/
def Obligations.ReplyLost : Prop :=
  (∀ (y : Yard) (a : Nat) (e : Entry), y.scs.entryAt a = some e →
    let m := if e.dyn.misses < 255 then e.dyn.misses + 1 else e.dyn.misses
    let d : EntryDyn :=
      if e.sleeper = true then
        { e.dyn with misses := m, woken := none, state := if e.dyn.state = .failed ∨ 3 ≤ m then .failed else .asleep }
      else if e.dyn.state = .failed ∨ 6 ≤ m then { e.dyn with misses := m, state := .failed, failedWait := 4 }
      else { e.dyn with misses := m, state := if 2 ≤ m then .suspect else e.dyn.state }
    pollMissed a y = { y with
      scs := { y.scs with roster := y.scs.roster.map fun x => if x.address = a then { x with dyn := d } else x }
      notices :=
        if d.state = .failed ∧ e.dyn.state ≠ .failed then
          y.notices.raise .outstationFailed a a (y.gdc.clock.map (·.day)) (y.gdc.clock.map (·.period))
        else y.notices }) ∧
  (∀ (y : Yard) (a : Nat) (o : ExOutcome), y.ylc.line = .guard ∨ y.ylc.line = .held →
    o = .timeout ∨ o = .uncorrectable ∨ o = .wrongReply ∨ o = .payloadBad →
    let up (n : Nat) : Nat := if n < 65535 then n + 1 else n
    let counted (c : Counters) : Counters :=
      if o = .timeout then { c with timeout := up c.timeout }
      else if o = .payloadBad then { c with payloadBad := up c.payloadBad }
      else { c with uncorrectable := up c.uncorrectable }
    let z : Yard := { y with scs := { y.scs with roster := y.scs.roster.map fun x =>
      if x.address = a then { x with dyn := { x.dyn with counters := counted x.dyn.counters } } else x } }
    let taken := scsOutcome (.frame (.read a)) o y
    (y.scs.retrying = false → y.now - y.scs.pollStart < 16800 * y.scs.interval →
      taken = { z.asking (.frame (.read a)) with
        scs := { z.scs with polling := some a, retrying := true, sleepWait := none } }) ∧
    (y.scs.retrying = false → 16800 * y.scs.interval ≤ y.now - y.scs.pollStart →
      taken.ylc = (y.asking (.frame (.mark .order))).ylc ∧ taken.scs.phase = .order ∧ taken.scs.rotating = some a ∧
      taken.scs.shortCount = (if y.scs.shortCount < 255 then y.scs.shortCount + 1 else y.scs.shortCount) ∧
      taken.scs.roster = z.scs.roster) ∧
    (y.scs.retrying = true → taken = pollOn y.scs.toPoll (qprPolled a (pollMissed a z)))) ∧
  ∀ s : State, s.powered = true →
    let y := s.yard
    let u := y.ylc
    (∀ moment : Nat,
      let now := max y.now moment
      let guarded : Yard := { y with
        now := now, ylc := { u with line := .guard, flight := none, timer := none, busy := now } }
      (∀ t f, u.line = .awaitReply → u.timer = some t → u.flight = some f →
        (now ≤ t → exec (.replyStart moment) s = concluded { s with yard := { y with
          now := now
          ylc := { u with
            line := .receiving, flight := some { f with replyStart := now }, timer := some (now + 480 + 3 * u.charTime),
            busy := now } } }) ∧
        (t < now → exec (.replyStart moment) s = concluded s)) ∧
      (∀ t f g (b1 b2 c : Byte), u.line = .receiving → u.timer = some t → u.flight = some f → f.header = none →
        f.exchange = .frame g → now ≤ t →
        let drained (o : ExOutcome) : Yard := { y with
          now := now
          ylc := { u with
            line := .draining, flight := some { f with decided := some o }, busy := now,
            timer := some (f.replyStart + 480 + 37 * u.charTime) } }
        (decodeHeader b1 b2 c = none →
          exec (.replyHeaderReceived moment b1 b2 c) s = concluded { s with yard := drained .uncorrectable }) ∧
        (∀ h1 h2 mended, decodeHeader b1 b2 c = some (h1, h2, mended) →
          (h1.toNat % 32 ≠ g.address ∨ g.replyKind ≠ some (h1.toNat / 32) ∨ 32 < h2.toNat →
            exec (.replyHeaderReceived moment b1 b2 c) s = concluded { s with yard := drained .wrongReply }) ∧
          (h1.toNat % 32 = g.address → g.replyKind = some (h1.toNat / 32) → h2.toNat = 0 → 0 < u.charTime →
            exec (.replyHeaderReceived moment b1 b2 c) s =
              concluded { s with yard := scsOutcome f.exchange .payloadBad guarded }) ∧
          (h1.toNat % 32 = g.address → g.replyKind = some (h1.toNat / 32) → 1 ≤ h2.toNat → h2.toNat ≤ 32 →
            exec (.replyHeaderReceived moment b1 b2 c) s = concluded { s with yard := { y with
              now := now
              ylc := { u with
                flight := some { f with header := some (h2.toNat, mended) }, busy := now,
                timer := some (f.replyStart + 480 + (5 + h2.toNat) * u.charTime) } } }))) ∧
      (∀ t f g n mended (bytes : List Byte), u.line = .receiving → u.timer = some t → u.flight = some f →
        f.header = some (n, mended) → f.exchange = .frame g → now ≤ t → bytes.length = n + 2 →
        bytes.drop n ≠ crcBytes (bytes.take n) → 0 < u.charTime →
        exec (.replyComplete moment bytes) s = concluded { s with yard := scsOutcome f.exchange .payloadBad guarded })) ∧
    (∀ t f a e, u.line = .awaitReply → u.timer = some t → u.flight = some f → f.exchange = .frame (.read a) →
      u.waiting = [] → u.again = false → y.scs.retrying = false → y.scs.entryAt a = some e →
      max y.now t - y.scs.pollStart < 16800 * y.scs.interval →
      ∃ (y' : Yard) (e' : Entry), exec .replyWindowExpiry s = concluded { s with yard := y' } ∧
        y' = { y with now := max y.now t, ylc := y'.ylc, scs := y'.scs } ∧
        y'.scs.retrying = true ∧ y'.scs.polling = some a ∧ y'.scs.toPoll = y.scs.toPoll ∧
        y'.scs.entryAt a = some e' ∧
        e'.dyn.counters = { e.dyn.counters with
          timeout := if e.dyn.counters.timeout < 65535 then e.dyn.counters.timeout + 1 else e.dyn.counters.timeout } ∧
        e'.dyn.state = e.dyn.state ∧ e'.dyn.misses = e.dyn.misses ∧
        (y.lineSpace = false ∧ u.busy + 2 * u.charTime ≤ max y.now t →
          y'.ylc.line = .sending ∧ y'.ylc.flight.map (·.exchange) = some (.frame (.read a)) ∧ y'.ylc.waiting = []) ∧
        (y.lineSpace = true ∨ max y.now t < u.busy + 2 * u.charTime →
          y'.ylc.line = .guard ∧ y'.ylc.flight = none ∧ y'.ylc.waiting = [.frame (.read a)])) ∧
    (let broken (now : Nat) (busy : Nat) (f : Flight) (o : ExOutcome) : Yard := { y with
        now := now
        ylc := { u with
          line := .breaking, flight := some { f with decided := some o }, timer := none, detector := none,
          driving := true, brk := some .short, began := now, busy := busy } };
      (∀ t f, u.line = .receiving → u.timer = some t → u.flight = some f →
        exec .replyDeadlineExpiry s = concluded { s with yard := broken (max y.now t) u.busy f .timeout }) ∧
      (∀ moment f, u.line = .receiving → u.flight = some f →
        exec (.stopBitAtSpace moment) s =
          concluded { s with yard := broken (max y.now moment) (max y.now moment) f .timeout }) ∧
      (∀ t f o, u.line = .draining → u.timer = some t → u.flight = some f → f.decided = some o →
        (y.lineSpace = true ∨ t < u.busy + 2 * u.charTime →
          exec .drainTimeout s = concluded { s with yard := broken (max y.now t) u.busy f o }) ∧
        (y.lineSpace = false → u.busy + 2 * u.charTime ≤ t → exec .drainTimeout s = concluded s))) ∧
    (∀ t f c, u.line = .draining → u.timer = some t → u.flight = some f → f.decided = some .uncorrectable →
      f.exchange = .frame (.order c.outstation c.channel c.code c.value) → y.lineSpace = false →
      u.busy + 2 * u.charTime ≤ t → u.waiting = [] → u.again = false → y.scs.commands = [c] → c.inFlight = true → c.taken = true →
      c.sends < 3 →
      max y.now (u.busy + 2 * u.charTime) < y.scs.cycleStart + 24000 * y.scs.interval →
      ∃ y' : Yard, exec .drainEnd s = concluded { s with yard := y' } ∧
        y' = { y with now := max y.now (u.busy + 2 * u.charTime), ylc := y'.ylc, scs := y'.scs } ∧
        y'.scs.commands = [{ c with inFlight := false }] ∧ y'.scs.phase = .load ∧ y'.ylc.line = .sending ∧
        y'.ylc.flight.map (·.exchange) = some (.frame (.mark .load)))

/-- The held line. LINE_GOES_TO_SPACE and LINE_RETURNS_TO_MARK start and stop the detector; LINE_HELD, while the detector runs,
ends an exchange in flight with TIMEOUT, which SCS counts and takes as a failed send of a READ, an ORDER, a LOAD or a PROBE: a
first READ of a poll within the budget is begun again and waits for the line, a second is a missed poll, an ORDER or a LOAD
keeps its place for the first and second time and is given up at the third; then it sets the held mark and raises LINE HELD with
the address that was in flight, or 0; with the detector stopped, as it is at mark, it changes nothing; LINE_HELD_RELEASE sends
the long break; when it has been sent the held mark is clear and the sleepers are taken as woken (R85, R98, R99, R101, R115,
R119, R121, R122, R129, R130, R131). A line start that found the line at space waits for mark in BREAKING: LINE_RETURNS_TO_MARK
begins its long break at that moment (R116), the waiting being the model's choice (log 19). That the outcome is TIMEOUT, of
R101, and not the ABORTED of R98's table, is the model's choice (log 73), and so is how moments are carried (log 3), the budget
tested when the READ is handed (log 32), and how the driver's release leaves the line's level (log 69). -/
def Obligations.LineHeldAndReleased : Prop :=
  ∀ s : State, s.powered = true →
    let y := s.yard
    let u := y.ylc
    let day := y.gdc.clock.map (·.day)
    let period := y.gdc.clock.map (·.period)
    (∀ moment, u.driving = false → y.lineSpace = false →
      exec (.lineGoesToSpace moment) s = concluded { s with yard := { y with
        now := max y.now moment
        lineSpace := true
        ylc := { u with busy := max y.now moment, detector := some (max y.now moment) } } }) ∧
    (∀ moment, u.driving = false → y.lineSpace = true → u.line ≠ .breaking →
      exec (.lineReturnsToMark moment) s = concluded { s with yard := { y with
        now := max y.now moment
        lineSpace := false
        ylc := { u with busy := max y.now moment, detector := none } } }) ∧
    (∀ moment, u.driving = false → y.lineSpace = true → u.line = .breaking →
      exec (.lineReturnsToMark moment) s = concluded { s with yard := { y with
        now := max y.now moment
        lineSpace := false
        ylc := { u with
          line := .breaking, flight := none, timer := none, detector := none, driving := true, brk := some .long,
          began := max y.now moment, again := false, busy := max y.now moment, charTime := y.yds.line.rate.charTime } } }) ∧
    (∀ d, u.driving = false → u.line ≠ .held → u.detector = some d → u.flight = none →
      exec .lineHeld s = concluded { s with yard := { y with
        now := max y.now (d + 9600)
        ylc := { u with line := .held, timer := none, busy := max y.now (d + 9600), held := true }
        notices := y.notices.raise .lineHeld 0 0 day period } }) ∧
    (∀ d f a e, u.driving = false → u.line ≠ .held → u.detector = some d → u.flight = some f →
      f.exchange = .frame (.probe a) → y.scs.entryAt a = some e →
      ∃ (y' : Yard) (e' : Entry), exec .lineHeld s = concluded { s with yard := y' } ∧
        y' = { y with
          now := max y.now (d + 9600), ylc := y'.ylc, scs := y'.scs
          notices := y.notices.raise .lineHeld 0 a day period } ∧
        y'.ylc.line = .held ∧ y'.ylc.held = true ∧ y'.ylc.flight = none ∧ y'.scs.entryAt a = some e' ∧
        e'.dyn.counters = { e.dyn.counters with
          timeout := if e.dyn.counters.timeout < 65535 then e.dyn.counters.timeout + 1 else e.dyn.counters.timeout }) ∧
    (∀ d f, u.driving = false → u.line ≠ .held → u.detector = some d → u.flight = some f →
      let now := max y.now (d + 9600)
      let held : Ylc := { u with line := .held, flight := none, timer := none, busy := now }
      let up (n : Nat) : Nat := if n < 65535 then n + 1 else n
      let taken := scsOutcome f.exchange .timeout { y with now := now, ylc := held }
      exec .lineHeld s = concluded { s with yard := { taken with
        ylc := { taken.ylc with held := true }
        notices := taken.notices.raise .lineHeld 0 f.exchange.address day period } } ∧
      ∀ g e, f.exchange = .frame g → y.scs.entryAt g.address = some e →
        ∃ e', taken.scs.entryAt g.address = some e' ∧
          e'.dyn.counters = { e.dyn.counters with timeout := up e.dyn.counters.timeout } ∧
          (∀ a, g = .read a →
            (y.scs.retrying = false → now - y.scs.pollStart < 16800 * y.scs.interval →
              taken = { y with
                now := now, ylc := { held with waiting := u.waiting ++ [.frame (.read a)] }, scs := taken.scs } ∧
              taken.scs.polling = some a ∧ taken.scs.retrying = true ∧ e'.dyn.state = e.dyn.state ∧
              e'.dyn.misses = e.dyn.misses) ∧
            (y.scs.retrying = true →
              let m := if e.dyn.misses < 255 then e.dyn.misses + 1 else e.dyn.misses
              e'.dyn.misses = m ∧
              (e.sleeper = true → e'.dyn.state = if e.dyn.state = .failed ∨ 3 ≤ m then .failed else .asleep) ∧
              (e.sleeper = false → e'.dyn.state =
                if e.dyn.state = .failed ∨ 6 ≤ m then .failed else if 2 ≤ m then .suspect else e.dyn.state))) ∧
          (∀ c, g = .order c.outstation c.channel c.code c.value → y.scs.commands = [c] → c.inFlight = true →
            c.taken = true →
            (c.sends < 3 → taken.scs.commands = [{ c with inFlight := false }] ∧ taken.mvs = y.mvs ∧ taken.dgu = y.dgu ∧
              taken.notices = y.notices) ∧
            (3 ≤ c.sends → ∀ x, c.owner = .governor x → y.yds.desc = .committed →
              taken.scs.commands = [] ∧ taken.mvs = y.mvs ∧
              taken.dgu = { y.dgu with districts := y.dgu.districts.set x { y.dgu.districts.get x with
                govPending := false, govOutcome := .undelivered } } ∧
              taken.notices = y.notices.raise .commandUndelivered x.number c.value day period)) ∧
          (∀ a param value l, g = .load a param value → y.scs.loads = [l] → l.inFlight = true → l.taken = true →
            (l.sends < 3 → taken.scs.loads = [{ l with inFlight := false }] ∧ e'.dyn.load = e.dyn.load) ∧
            (3 ≤ l.sends → taken.scs.loads = [] ∧ e'.dyn.load = .failed))) ∧
    (u.detector = none → exec .lineHeld s = concluded s) ∧
    (u.line = .held → y.lineSpace = false →
      exec .lineHeldRelease s = concluded { s with yard := { y with
        now := max y.now (u.busy + 2 * u.charTime)
        ylc := { u with
          line := .breaking, flight := none, timer := none, detector := none, driving := true, brk := some .long,
          began := max y.now (u.busy + 2 * u.charTime), why := { u.why with recovery := true }, again := false,
          charTime := y.yds.line.rate.charTime } } }) ∧
    (u.line = .breaking → u.driving = true → u.brk = some .long → u.again = false → u.why = ⟨false, false, true⟩ →
      0 < u.charTime → y.lineSpace = false →
      let now := max y.now (u.began + 12000 + u.charTime)
      exec .breakSent s = concluded { s with yard := { y with
        now := now
        ylc := { u with
          line := .guard, held := false, driving := false, detector := none, brk := none, why := ⟨false, false, false⟩,
          busy := now }
        scs := { y.scs with roster := y.scs.roster.map fun e =>
          if e.sleeper then
            { e with dyn :=
              if e.dyn.state = .asleep then { e.dyn with state := .waking, wakeTime := now }
              else if e.dyn.state = .failed then { e.dyn with woken := some now }
              else e.dyn }
          else e } } })

/-- SCAN_CYCLE_START at the interval end in WAIT: the next cycle starts, with MARK DAY where a marker is owed and MARK POLL
otherwise, and in no other phase does anything happen; a wake is due from there on where the period, or with the clock UNSET 900
s, has gone since the last. SLEEPER_POLL_WAIT_EXPIRY: the READ of a sleeper begins 1 s after its wake. How the POLL phase goes
on: the entries not due are passed over, the next due one is read, waited for, or, the budget spent, ends the phase SHORT with
itself the rotating start, LINE OVERLOADED raised from the third on; with none left the start moves to the entry next above. How
the LOAD phase goes on: the wake pulse, then the probes, then the loads that can be sent, each before the interval end only,
then WAIT; past it the next cycle (R121, R122, R123, R124, R125, R127, R130). That an expiry moves the time base to its deadline
is the model's choice (log 3), and so is that the poll budget is tested when the READ is handed to the line (log 32), the time
the line was HELD counting in it (log 80), and that the interval end is tested when an exchange of the LOAD phase is handed to
it (log 89), and the work of that phase looked up anew at each exchange (log 94); that a rotating start that is none is the
lowest address is its reading (log 36). -/
def Obligations.ScanCycleStarts : Prop :=
  ∀ s : State, s.powered = true →
    let y := s.yard
    let u := y.ylc
    let sends (now : Nat) (f : Frame) : Ylc := { u with
      line := .sending, flight := some ⟨.frame f, y.yds.line.window, 0, none, none⟩, timer := none, detector := none,
      driving := true, brk := none, began := now, charTime := y.yds.line.rate.charTime }
    (y.scs.phase ≠ .wait → exec .scanCycleStart s = concluded s) ∧
    (y.scs.phase = .wait → u.line = .idle →
      let now := max y.now (y.scs.cycleStart + 24000 * y.scs.interval)
      ∃ wake : Bool, (wake = true ↔ y.scs.wakeDue = true ∨ y.scs.lastWake = none ∨ ∃ t p, y.scs.lastWake = some (t, p) ∧
        (∀ c, y.gdc.clock = some c → p ≠ some c.period) ∧ (y.gdc.clock = none → t + 24000 * 900 ≤ now)) ∧
      let cycle : Scs := { y.scs with
        cycle := (y.scs.cycle + 1) % 65536, interval := y.yds.scan, cycleStart := now, wakeDue := wake }
      (y.scs.dayOwed = true →
        exec .scanCycleStart s = concluded { s with yard := { y with
          now := now, ylc := sends now (.mark .day), scs := { cycle with phase := .day } } }) ∧
      (y.scs.dayOwed = false →
        exec .scanCycleStart s = concluded { s with yard := { y with
          now := now
          ylc := sends now (.mark .poll)
          scs := { cycle with
            phase := .poll, pollStart := now, toPoll := [], polling := none, retrying := false, sleepWait := none
            roster := y.scs.roster.map fun e =>
              if e.dyn.state = .failed then { e with dyn := { e.dyn with failedWait := e.dyn.failedWait - 1 } }
              else e } } })) ∧
    (∀ a rest e, y.scs.sleepWait = some a → y.scs.toPoll = a :: rest → y.scs.entryAt a = some e → e.sleeper = true →
      e.dyn.state = .waking → u.line = .idle →
      let now := max y.now (e.dyn.wakeTime + 24000)
      now - y.scs.pollStart < 16800 * y.scs.interval →
      exec .sleeperPollWaitExpiry s = concluded { s with yard := { y with
        now := now
        ylc := sends now (.read a)
        scs := { y.scs with toPoll := rest, polling := some a, retrying := false, sleepWait := none } } }) ∧
    (u.line = .guard →
      let passed (list : List Nat) : Prop := ∀ b ∈ list, ∀ x, y.scs.entryAt b = some x → ¬x.isDue
      let ends (y' : Yard) (short : Nat) (start : Option Nat) : Prop :=
        y'.ylc = (y.asking (.frame (.mark .order))).ylc ∧ y'.scs.phase = .order ∧ y'.scs.toPoll = [] ∧
        y'.scs.polling = none ∧ y'.scs.retrying = false ∧ y'.scs.sleepWait = none ∧ y'.scs.shortCount = short ∧
        y'.scs.rotating = start ∧ y'.scs.roster = y.scs.roster ∧ y'.scs.loads = y.scs.loads ∧ y'.yds = y.yds
      let addresses := y.scs.roster.map (·.address)
      (∀ before a rest e, passed before → y.scs.entryAt a = some e → e.isDue →
        (y.now < e.readFrom → pollOn (before ++ a :: rest) y =
          { y with scs := { y.scs with toPoll := a :: rest, polling := none, sleepWait := some a } }) ∧
        (e.readFrom ≤ y.now → y.now - y.scs.pollStart < 16800 * y.scs.interval → pollOn (before ++ a :: rest) y =
          { y.asking (.frame (.read a)) with
            scs := { y.scs with toPoll := rest, polling := some a, retrying := false, sleepWait := none } }) ∧
        (e.readFrom ≤ y.now → 16800 * y.scs.interval ≤ y.now - y.scs.pollStart →
          let count := if y.scs.shortCount < 255 then y.scs.shortCount + 1 else y.scs.shortCount
          ends (pollOn (before ++ a :: rest) y) count (some a) ∧
          (3 ≤ count → y.notices.queue = [] →
            ∃ n ∈ (pollOn (before ++ a :: rest) y).notices.queue, n.kind = .lineOverloaded ∧ n.datum = count))) ∧
      (∀ list, passed list → ends (pollOn list y) 0 ((y.scs.rotating.or addresses.head?).bind fun a =>
        (addresses.find? (a < ·)).or addresses.head?))) ∧
    (u.line = .guard →
      let sendable (l : Load) : Prop := ∃ e, y.scs.entryAt l.address = some e ∧
        (e.dyn.state = .unknown ∨ e.dyn.state = .live ∨ e.dyn.state = .suspect)
      let probing (e : Entry) : Prop := y.scs.probed < e.address ∧ e.sleeper = false ∧
        (e.dyn.state = .unknown ∨ e.dyn.identity = .unchecked)
      (y.scs.cycleStart + 24000 * y.scs.interval ≤ y.now → ∃ cycle : Scs,
        cycle = { y.scs with
          cycle := (y.scs.cycle + 1) % 65536, interval := y.yds.scan, cycleStart := y.now, wakeDue := cycle.wakeDue } ∧
        (y.scs.wakeDue = true → cycle.wakeDue = true) ∧
        (y.scs.dayOwed = true →
          loadOn y = { y.asking (.frame (.mark .day)) with scs := { cycle with phase := .day } }) ∧
        (y.scs.dayOwed = false → (loadOn y).ylc = (y.asking (.frame (.mark .poll))).ylc ∧ (loadOn y).scs.phase = .poll)) ∧
      (y.now < y.scs.cycleStart + 24000 * y.scs.interval →
        (y.scs.wakeDue = true → loadOn y = y.asking .wake) ∧
        (∀ before e after, y.scs.wakeDue = false → y.scs.roster = before ++ e :: after → (∀ x ∈ before, ¬probing x) →
          probing e → loadOn y =
            { y.asking (.frame (.probe e.address)) with scs := { y.scs with probed := e.address } }) ∧
        (∀ before l after, y.scs.wakeDue = false → (∀ x ∈ y.scs.roster, ¬probing x) → y.scs.loads = before ++ l :: after →
          (∀ x ∈ before, x.taken = true ∨ ¬sendable x) → l.taken = false → sendable l → loadOn y =
            { y.asking (.frame (.load l.address l.param l.value)) with
              scs := { y.scs with loads := before.map ({ · with taken := true }) ++
                { l with taken := true, inFlight := true, sends := l.sends + 1 } :: after } }) ∧
        (y.scs.wakeDue = false → (∀ x ∈ y.scs.roster, ¬probing x) →
          (∀ x ∈ y.scs.loads, x.taken = true ∨ ¬sendable x) → loadOn y =
            { y with scs := { y.scs with phase := .wait, loads := y.scs.loads.map ({ · with taken := true }) } })))

/-- LOAD OUTSTATION while COMMITTED: an address outside the roster is NO SUCH, a parameter outside 0 to 255 INVALID, a fifth
load LIST FULL; else the load waits and its entry's outcome is PENDING (R130). LINE RESET while COMMITTED: the exchange in
flight ends, both lists are cleared, every load of the list leaves FAILED, every entry is UNKNOWN again with its counters kept,
the cycle ends, and the long break is asked for; each command is told as undelivered to its owner in list order: a governor with
cause 2; a valve fails, the working order that it belongs to, being bound, of its holder or of the coupled pair, to CLOSING, or
else its holder UNMANAGED; a booster fails, its RUN SHORT with a STOP put anew, its STOP DIRECT (R37, R57, R85, R90, R92, R112,
R131). The shortfall then told is taken over the drop margin stored (log 56), and the order of the SHUT commands then put, the
leader's before the follower's and an inlet's before its outlet's, is the model's choice (log 61). That an exchange waiting is
dropped is the model's reading (log 68). The long break begins at once from IDLE and while a reply is awaited, received or
drained, at the end of the character in progress while a frame is sent, after the guard in GUARD (R99), and after the break in
progress, or with the release, in BREAKING and HELD (R112; log 30, log 31). That a value outside 24 bits is INVALID is the
model's choice (log 9). -/
def Obligations.LoadQueuedLineReset : Prop :=
  (∀ (y : Yard) (a : Nat) (param value : Int), y.yds.desc = .committed →
    let fs : List Field := [some (a : Int), some param, some value]
    (y.scs.entryAt a = none → Gives 0x51#8 .loadOutstation (formOf layLoad) fs y y (.refuse .noSuch [.u8 1])) ∧
    (y.scs.entryAt a ≠ none → param < 0 ∨ 255 < param →
      Gives 0x51#8 .loadOutstation (formOf layLoad) fs y y (.refuse .invalid [.u8 2])) ∧
    (y.scs.entryAt a ≠ none → 0 ≤ param → param ≤ 255 → -8388608 ≤ value → value ≤ 16777215 →
      (4 ≤ y.scs.loads.length →
        Gives 0x51#8 .loadOutstation (formOf layLoad) fs y y (.refuse .listFull [.u8 0])) ∧
      (y.scs.loads.length < 4 →
        Gives 0x51#8 .loadOutstation (formOf layLoad) fs y
          { y with scs := { y.scs with
            loads := y.scs.loads ++ [⟨a, param.toNat, value, 0, false, false⟩]
            roster := y.scs.roster.map fun e =>
              if e.address = a then { e with dyn := { e.dyn with load := .pending } } else e } }
          (.answer .none [])))) ∧
  (∀ y : Yard, y.yds.desc = .committed →
    ∃ y' : Yard, Gives 0x50#8 .lineReset (formOf []) [] y y' (.answer .none []) ∧
      y'.ylc.why.reset = true ∧ y'.ylc.flight = none ∧ y'.ylc.waiting = [] ∧ y'.ylc.timer = none ∧
      (let goes (moment : Nat) : Prop := y'.ylc.line = .breaking ∧ y'.ylc.brk = some .long ∧ y'.ylc.driving = true ∧
        y'.ylc.again = false ∧ y'.ylc.began = moment ∧ y'.ylc.charTime = y.yds.line.rate.charTime
      (y.ylc.line = .idle ∨ y.ylc.line = .awaitReply ∨ y.ylc.line = .receiving ∨ y.ylc.line = .draining → goes y.now) ∧
      (∀ f g, y.ylc.line = .sending → y.ylc.flight = some f → f.exchange = .frame g → 0 < y.ylc.charTime →
        y.ylc.began ≤ y.now →
        (y.now ≤ y.ylc.began + g.bytes.length * y.ylc.charTime →
          ∃ k, k ≤ g.bytes.length ∧ goes (y.ylc.began + k * y.ylc.charTime) ∧
            y.now ≤ y.ylc.began + k * y.ylc.charTime ∧
            y.ylc.began + k * y.ylc.charTime < y.now + y.ylc.charTime) ∧
        (y.ylc.began + g.bytes.length * y.ylc.charTime < y.now → goes y.now)) ∧
      (y.ylc.line = .guard →
        (y.lineSpace = false → y.ylc.busy + 2 * y.ylc.charTime ≤ y.now → goes y.now) ∧
        (y.lineSpace = true ∨ y.now < y.ylc.busy + 2 * y.ylc.charTime → y'.ylc.line = .guard ∧ y'.ylc.again = true)) ∧
      (y.ylc.line = .breaking → y'.ylc.line = .breaking ∧ y'.ylc.brk = y.ylc.brk ∧ y'.ylc.began = y.ylc.began ∧
        (y.ylc.driving = true → y'.ylc.again = true)) ∧
      (y.ylc.line = .held → y'.ylc.line = .held ∧ y'.ylc.again = y.ylc.again)) ∧
      y'.scs.loads = [] ∧ y'.scs.phase = .none ∧ y'.scs.shortCount = 0 ∧ y'.scs.dayOwed = y.scs.dayOwed ∧
      y'.scs.wakeDue = y.scs.wakeDue ∧ y'.scs.rotating = y.scs.roster.head?.map (·.address) ∧
      y'.scs.roster = (y.scs.roster.map fun e => { e with dyn := { e.dyn with
        state := .unknown, misses := 0, failedWait := 0, woken := none, identity := .unchecked
        load := if ∃ l ∈ y.scs.loads, l.address = e.address then .failed else e.dyn.load } }) ∧
      y'.yds = y.yds ∧ y'.gdc = y.gdc ∧ y'.hsu = y.hsu ∧ y'.soa = y.soa ∧
      (let notice (z : Yard) (k : NoticeKind) (object : Nat) (datum : Int) : Notices :=
        z.notices.raise k object datum (y.gdc.clock.map (·.day)) (y.gdc.clock.map (·.period))
      let told (z : Yard) (c : Command) : Yard :=
        match c.owner with
        | .governor d =>
          let r : DistrictDyn := { z.dgu.districts.get d with govPending := false, govOutcome := .undelivered }
          { z with
            dgu := { z.dgu with districts := z.dgu.districts.set d r }
            notices := notice z .commandUndelivered d.number (c.value + 16777216 * 2) }
        | .valve v =>
          { z with
            mvs := { z.mvs.setValve v { z.mvs.valve v with timer := .idle } with
              unmanaged := z.mvs.unmanaged.set v.holder true
              shutPending := z.mvs.shutPending.set v.holder false }
            notices := notice z .valveStuck v.holder.number
              ((sideCode v.side + 256 * (y.mvs.valve v).commanded.code : Nat) : Int) }
        | .booster _ => z
      ((∀ c ∈ y.scs.commands,
          (∀ v, c.owner = .valve v → y.mvs.activeOrder v.holder = none ∨ y.yds.bind.valve v = none) ∧
          ∀ d, c.owner = .booster d →
            (y.dgu.districts.get d).feed ≠ .boosting ∧ (y.dgu.districts.get d).feed ≠ .unboosting) →
        y'.scs.commands = [] ∧ y'.mvs = (y.scs.commands.foldl told y).mvs ∧
        y'.dgu = (y.scs.commands.foldl told y).dgu ∧ y'.notices = (y.scs.commands.foldl told y).notices) ∧
      (∀ c v before after o vs, y.scs.commands = [c] → c.owner = .valve v →
        ({ y with scs := { y.scs with commands := [] } } : Yard).CanShut before after o vs →
        v.holder ∈ y.mvs.worked o.holder → y.yds.bind.valve v ≠ none →
        (∀ x ∈ before ++ after, x.holder = o.holder → x.state = .waiting) →
        let failed : Yard := { y with mvs := y.mvs.setValve v { y.mvs.valve v with timer := .idle } }
        y'.mvs = (failed.toClosing before after o vs .valveStuck).mvs ∧
        y'.scs.commands = vs.map (valveCommand .valveShut) ∧ y'.dgu = y.dgu ∧ y'.notices = y.notices) ∧
      (∀ c d, y.scs.commands = [c] → c.owner = .booster d →
        let r := y.dgu.districts.get d
        let failed : Notices := notice y .boosterFailed d.number 1
        (c.code = .boosterRun → r.feed = .boosting →
          y'.dgu.districts = y.dgu.districts.set d
            { r with boosterCmd := .stop, runUp := .idle, failed := true, feed := .short } ∧
          y'.dgu.available = y.dgu.available ∧ y'.scs.commands = ((y.yds.bind.booster.get d).toList.map fun p =>
            ⟨p.outstation, p.channel, .boosterStop, 0, .booster d, 0, false, false⟩) ∧ y'.mvs = y.mvs ∧
          (∀ t a, r.target = some t → y.dgu.available = some a →
            y'.notices = notice { y with notices := failed } .districtShort d.number (t + (y.yds.feedSet.get d).drop - a))) ∧
        (c.code = .boosterStop → r.feed = .unboosting →
          y'.dgu = { y.dgu with districts := y.dgu.districts.set d { r with feed := .direct, runUp := .idle } } ∧
          y'.scs.commands = [] ∧ y'.mvs = y.mvs ∧ y'.notices = failed))))

/-! ### The stock (02) -/

/-- STOCK_COMPUTATION_RESULT of a holder below its full stroke with no order in the list: the oldest computation of the holder
leaves CU, and its zone, pressure, stock, clamped mark and status are written (R23, R24). CLOSING_STOCK_RESULT: the closing
stock, its status taken from the sources at the close as for a stock, is recorded and handed to the day it closes (R24, R25,
R150). What MVS makes of a reading of its holder for a working FILL, DRAW or FLOAT, or of a reading of either holder for that of
a coupled pair: with the travel read lost it goes to CLOSING with READING LOST; a FILL or FLOAT with the holder read at its top
stop with TOP STOP, a DRAW or FLOAT at its landing point with LANDING, at its UNTIL TRAVEL, by the leader's travel, or its UNTIL
STOCK, by the pair stock, with END MET; short of that its used valves are put to CRACKED while the holder, or either of the
pair, is inside a cupping band and to OPEN otherwise, those not there already, and BAND PASSED is raised for each band that the
holder read has crossed; the stock direction of a FLOAT is set by its first stock (R45, R46, R47, R48, R57). That the vapour
table is read at the return, the order of the tests of one reading and of the commands put, and that the tests use the travel as
HSU's record then has it, are the model's choice (log 12, log 22, log 61, log 65), and so is that the pair stock is the sum of
both stocks as they stand at the reading of either holder (log 50). -/
def Obligations.StockReturned : Prop :=
  (∀ (y : Yard) (before after : List Order) (o : Order) (vs : List (Valve × Point)), y.CanShut before after o vs →
    ∀ h ∈ y.mvs.worked o.holder, (∀ x ∈ before ++ after, (x.holder = o.holder → x.state = .waiting) ∧
      ∀ z, x.start ≠ .whenAbove h z ∧ x.start ≠ .whenBelow h z) →
    let travel := (y.hsu.holders.get h).travel
    let read (z : Yard) (notices : Notices) : Yard := { z with
      mvs := { z.mvs with prevTravel := y.mvs.prevTravel.set h (travel.map (·.value)) }
      notices := notices }
    let closes (reason : EndReason) : Prop := mvsReading h y = read (y.toClosing before after o vs reason) y.notices
    (travel = none → closes .readingLost) ∧
    ∀ a g, travel = some a → y.yds.geometry.get h = some g → a.value < g.full →
      (o.kind ≠ .draw → g.topStop ≤ a.value → closes .topStop) ∧
      (o.kind ≠ .fill → (o.kind = .float → a.value < g.topStop) → a.value ≤ g.landing → closes .landing) ∧
      ((o.kind ≠ .fill → g.landing < a.value) → (o.kind ≠ .draw → a.value < g.topStop) →
        (∀ x t, o.finish = .untilTravel x → (y.hsu.holders.get o.holder).travel.map (·.value) = some t →
          (o.kind = .fill ∧ x ≤ t) ∨ (o.kind = .draw ∧ t ≤ x) → closes .endMet) ∧
        (∀ x q, o.finish = .untilStock x → y.StockKnown o.holder q → (o.kind = .fill ∧ x ≤ q) ∨ (o.kind = .draw ∧ q ≤ x) ∨
          (o.kind = .float ∧ ((o.stockDir = .rising ∧ x ≤ q) ∨ (o.stockDir = .falling ∧ q ≤ x) ∨
            (o.stockDir = .unset ∧ q = x))) → closes .endMet) ∧
        (∀ x q d, o.finish = .untilStock x → y.StockKnown o.holder q → o.kind = .float → o.stockDir = .unset →
          (q < x ∧ d = .rising) ∨ (x < q ∧ d = .falling) →
          ∀ o' ∈ (mvsReading h y).mvs.orders, o'.number = o.number → o'.stockDir = d ∧ o'.state = o.state) ∧
        (∀ p, (∀ x, o.finish = .untilTravel x → o.kind ≠ .float ∧
            ∀ t, (y.hsu.holders.get o.holder).travel.map (·.value) = some t →
              (o.kind = .fill → t < x) ∧ (o.kind = .draw → x < t)) →
          (∀ x, o.finish = .untilStock x → ∀ q, y.StockKnown o.holder q →
            (o.kind = .fill ∧ q < x) ∨ (o.kind = .draw ∧ x < q) ∨
              (o.kind = .float ∧ ((o.stockDir = .rising ∧ q < x) ∨ (o.stockDir = .falling ∧ x < q)))) →
          (p = .cracked ∧ ∃ w ∈ y.mvs.worked o.holder, y.InBand w) ∨
            (p = .opened ∧ ∀ w ∈ y.mvs.worked o.holder, ¬y.InBand w) →
          let passed (t : Int) := (g.bands.zipIdx 1).filter fun b =>
            decide ((t < b.1.1 ∧ b.1.2 < a.value) ∨ (b.1.2 < t ∧ a.value < b.1.1))
          let notices := match y.mvs.prevTravel.get h with
            | some t => (passed t).foldl
                (fun q b => q.raise .bandPassed h.number (b.2 : Int) (y.gdc.clock.map (·.day))
                  (y.gdc.clock.map (·.period))) y.notices
            | none => y.notices
          let turned := vs.filter fun x => decide ((y.mvs.valve x.1).commanded ≠ p)
          let put := turned.filter fun x => decide (p.asReport ≠ some (y.mvs.valve x.1).reported)
          mvsReading h y = read { y with
            mvs := (turned.map (·.1)).foldl (Mvs.commandTo p) y.mvs
            scs := { y.scs with commands := y.scs.commands ++ put.map (valveCommand p.cmdCode) } } notices))) ∧
  ∀ (s : State) (h : Holder), s.powered = true → s.yard.yds.desc = .committed →
    let y := s.yard
    let r := y.hsu.holders.get h
    (∀ j rest a g, y.hsu.stockJobs = j :: rest → j.holder = h → y.mvs.orders = [] → r.travel = some a →
      y.yds.geometry.get h = some g → a.value < g.full →
      let res := stockResult y.yds.vapour j
      exec (.stockComputationResult h) s = concluded { s with yard := { y with
        hsu := { y.hsu with
          stockJobs := rest
          holders := y.hsu.holders.set h { r with
            zone := res.zone, pressure := res.pressure, stock := some res.stock, clamped := res.clamped
            status :=
              if j.travelSource = .held ∨ j.travelSource = .declared ∨ j.tempSource = none ∨ j.tempSource = some .held ∨
                j.tempSource = some .declared ∨ res.clamped = true then .estimated else .good } }
        mvs := { y.mvs with prevTravel := y.mvs.prevTravel.set h (some a.value) } } }) ∧
    (∀ j rest d, y.hsu.closingJobs = j :: rest → j.job.holder = h → y.soa.current = some d → d.day = j.day →
      let res := stockResult y.yds.vapour j.job
      let status : Status :=
        if j.job.travelSource = .held ∨ j.job.travelSource = .declared ∨ j.job.tempSource = none ∨
          j.job.tempSource = some .held ∨ j.job.tempSource = some .declared ∨ res.clamped = true then .estimated else .good
      exec (.closingStockResult h) s = concluded { s with yard := { y with
        hsu := { y.hsu with
          closingJobs := rest
          holders := y.hsu.holders.set h { r with closing := some ⟨some res.stock, status, j.day, j.period⟩ } }
        soa := { y.soa with current := some { d with
          closings := d.closings.set h (some ⟨some res.stock, status, j.period⟩) } } } })

/-- The stages of CU over the zone limits that the strokes make. The zone is the number of zone limits below the travel,
the lowest limit being 0; the actual volume is the sum, over the lifts, of area by the part of the stroke taken up, in
litres to the nearest; the pressure is the sum of the weight steps up to the zone; the vapour pressure lies on the table
at every multiple of 5 °C from −5 to 35, is E_i + round((E_(i+1) − E_i) r / 50) between two of them, r the tenths of a degree
above the lower, so that it does not leave their span, and holds the end entries beyond; a division rounds to the nearest, a
half upward. The dry pressure is barometer plus holder pressure less vapour
pressure, and 45,000 Pa with the CLAMPED mark where it would be lower. A stock computation is these stages in turn; the meter
use takes stages 4 to 7 with the pressure given, and holds its quotient to 2^63 − 1, marking it CLAMPED (R14, R15, R16, R17,
R18, R19, R20, R21). -/
def Obligations.StockStagesWorked : Prop :=
  (∀ (ls : List Lift) (t : Int), ls ≠ [] → (∀ l ∈ ls, 0 < l.stroke) → 0 ≤ t →
    let z (i : Nat) : Int := ((ls.take i).map (·.stroke)).sum
    let zones := (List.range ls.length).map fun i => z (i + 1)
    zoneOf zones t = ((List.range ls.length).filter fun i => z i < t).length ∧
    actualVolume ls zones t =
      (2 * (((List.range ls.length).zip ls).map fun x => x.2.area * min x.2.stroke (max 0 (t - z x.1))).sum + 100) / 200) ∧
  (∀ (ls : List Lift) (k : Nat), holderPressure ls k = ((ls.take k).map (·.weight)).sum) ∧
  (∀ (v : Vapour) (i : Nat) (t : Int),
    (i ≤ 8 → vapourPressure v (50 * i - 50) = v.entry i) ∧
    (t ≤ -50 → vapourPressure v t = v.e0) ∧ (350 ≤ t → vapourPressure v t = v.e8) ∧
    (i < 8 → 50 * (i : Int) - 50 ≤ t → t ≤ 50 * i →
      vapourPressure v t =
        v.entry i + (2 * (((v.entry (i + 1) : Int) - v.entry i) * (t - (50 * i - 50))) + 50) / 100 ∧
      min (v.entry i : Int) (v.entry (i + 1)) ≤ vapourPressure v t ∧
      vapourPressure v t ≤ max (v.entry i : Int) (v.entry (i + 1)))) ∧
  (∀ (a p t : Int), 0 < 27315 + 10 * t →
    let d := 101325 * (27315 + 10 * t)
    2 * d * standardVolume a p t ≤ 2 * (a * p * 28815) + d ∧ 2 * (a * p * 28815) - d < 2 * d * standardVolume a p t) ∧
  (∀ baro press vapour : Int,
    dryPressure baro press vapour =
      (max 45000 (baro + press - vapour), decide (baro + press - vapour < 45000))) ∧
  (∀ (v : Vapour) (j : StockJob),
    let k := zoneOf j.zones j.travel
    let press := ((j.lifts.take k).map (·.weight)).sum
    let dry := j.baro + press - vapourPressure v j.temp
    stockResult v j =
      ⟨k, press, standardVolume (actualVolume j.lifts j.zones j.travel) (max 45000 dry) j.temp, decide (dry < 45000)⟩) ∧
  (∀ (v : Vapour) (actual press temp baro : Int),
    let dry := baro + press - vapourPressure v temp
    let std := standardVolume actual (max 45000 dry) temp
    (std < 2 ^ 63 → meterVolume v actual press temp baro = (std, decide (dry < 45000))) ∧
    (2 ^ 63 ≤ std → meterVolume v actual press temp baro = (2 ^ 63 - 1, true)))

/-! ### The quantities (08) -/

/-- An accepted sample: the value is brought into the range limits (a travel also to full stroke plus 500) and recorded with its
source, the time it was taken, no periods since good and the accepted mark; a value brought in is counted; it enters the open
record as last, least and greatest (R136, R141). Those of TRAVEL, GAS TEMP and BARO are kept by HSU, which while COMMITTED hands
CU a computation of each holder concerned, YARD TEMP standing in for a GAS TEMP that is none, or makes the standing assessment;
YARD TEMP coming back from NONE recomputes the holders without one (R23, R24). A HOLDER PRESS sample is compared with the
computed pressure: the out count, the in count and the discord flag move, and PRESSURE DISCORD is raised (R26, R27). The delta
of a meter sample while a record is open: the register round the dial from the base, or the limit with METER JUMP beyond it;
with no base, or after a restart, 0, and the entry is ESTIMATED; it is handed to SOA (R139). At the end of the POLL phase a
standby's candidate is accepted, a value neither accepted though polled goes HELD, and a hold that has run out gives DECLARED or
NONE (R137). The remembered run-out, the order H1 to H6, and that a range low above Zn + 500 stands before the clamp to Zn + 500
are the model's choice (log 40, log 52, log 77). A holder with no accepted travel, no order that works it being OPENING or
RUNNING, is assessed UNKNOWN at a BARO sample too, which is the model's reading (log 90). -/
def Obligations.SamplesTaken : Prop :=
  (∀ (y : Yard) (q : Slot) (v : Int) (src : Source) (restarted : Bool),
    let sub := y.yds.subs.get q
    sub.low ≤ sub.high →
    let r := y.qpr.recs.get q
    let taken (w : Int) : Yard := { y with qpr := { y.qpr with
      recs := y.qpr.recs.set q { r with
        value := some w, source := src, since := 0, accepted := true, ranOut := false
        clamps := if w = v then r.clamps else if r.clamps < 65535 then r.clamps + 1 else r.clamps
        lastGood := some ⟨y.scs.cycle, y.gdc.clock.map fun c => (c.day, c.period, c.second)⟩ }
      current := y.qpr.current.map fun rec =>
        let e := rec.entries.get q
        { rec with entries := rec.entries.set q { e with
          last := some w, count := e.count + 1
          low := some (match e.low with | some m => min m w | none => w)
          high := some (match e.high with | some m => max m w | none => w) } } } }
    let keeps (w : Int) (h : Holder) (k : HolderDyn) (jobs : List StockJob) : Yard := { taken w with
      hsu := { y.hsu with stockJobs := y.hsu.stockJobs ++ jobs, holders := y.hsu.holders.set h k } }
    let w := min sub.high (max sub.low v)
    let hsu (h : Holder) := y.hsu.holders.get h
    let present (h : Holder) : Bool := (y.yds.holders.get h).isSome
    let workable (h : Holder) : Prop := y.yds.geometry.get h ≠ none
    ((q = .outletPress ∨ q = .makePress ∨ ∃ d, q = .outletOf d ∨ q = .farPress d) →
      acceptSample q v src restarted y = taken w) ∧
    (∀ h, q = .holderPress h → acceptSample q v src restarted y = pressSample h ⟨w, src⟩ (taken w)) ∧
    (∀ h, q = .travel h →
      (y.yds.desc = .opened → y.yds.geometry.get h = none →
        acceptSample q v src restarted y = keeps w h { hsu h with travel := some ⟨w, src⟩ } []) ∧
      (∀ g, y.yds.desc = .committed → present h = true → y.yds.geometry.get h = some g →
        let x := max sub.low (min w (g.full + 500))
        let k := { hsu h with travel := some ⟨x, src⟩ }
        (∀ b t s, y.hsu.baro = some b →
          (hsu h).temp.map (fun a => (a.value, some a.source)) = some (t, s) ∨
            ((hsu h).temp = none ∧ y.qpr.recs.yardTemp.value = some t ∧ s = none) →
          acceptSample q v src restarted y =
            keeps x h k [⟨h, y.yds.liftsOf h, g.zones, x, src, t, s, b.value⟩]) ∧
        (y.hsu.baro = none ∨ ((hsu h).temp = none ∧ y.qpr.recs.yardTemp.value = none) → y.mvs.orders = [] → x < g.full →
          acceptSample q v src restarted y = { keeps x h { k with status := .unknown } [] with
            mvs := { y.mvs with prevTravel := y.mvs.prevTravel.set h (some x) } }))) ∧
    (∀ h, q = .gasTemp h →
      let k := { hsu h with temp := some ⟨w, src⟩ }
      (y.yds.desc = .opened → acceptSample q v src restarted y = keeps w h k []) ∧
      (∀ g t b, y.yds.desc = .committed → present h = true → y.yds.geometry.get h = some g → (hsu h).travel = some t →
        y.hsu.baro = some b →
        acceptSample q v src restarted y =
          keeps w h k [⟨h, y.yds.liftsOf h, g.zones, t.value, t.source, w, some src, b.value⟩])) ∧
    (q = .baro →
      (y.yds.desc = .opened →
        acceptSample q v src restarted y = { taken w with hsu := { y.hsu with baro := some ⟨w, src⟩ } }) ∧
      (y.yds.desc = .committed → y.TravellessAtRest →
        (∀ h, present h = true → (hsu h).travel ≠ none →
          workable h ∧ ((hsu h).temp ≠ none ∨ y.qpr.recs.yardTemp.value ≠ none)) →
        ∃ jobs : List StockJob,
          acceptSample q v src restarted y = { taken w with
            hsu := { y.assessed.hsu with baro := some ⟨w, src⟩, stockJobs := y.hsu.stockJobs ++ jobs }
            mvs := y.assessed.mvs } ∧
          jobs.map (·.holder) = (Holder.list.filter fun h => present h && (hsu h).travel.isSome) ∧
          ∀ j ∈ jobs, j.baro = w ∧ (hsu j.holder).travel = some ⟨j.travel, j.travelSource⟩ ∧
            (∀ a, (hsu j.holder).temp = some a → j.temp = a.value ∧ j.tempSource = some a.source) ∧
            ((hsu j.holder).temp = none → y.qpr.recs.yardTemp.value = some j.temp ∧ j.tempSource = none))) ∧
    (q = .yardTemp →
      (r.source ≠ .none ∨ y.yds.desc = .opened → acceptSample q v src restarted y = taken w) ∧
      (∀ b, r.source = .none → y.yds.desc = .committed → y.hsu.baro = some b →
        (∀ h, present h = true → (hsu h).temp = none → workable h ∧ (hsu h).travel ≠ none) →
        ∃ jobs : List StockJob,
          acceptSample q v src restarted y =
            { taken w with hsu := { y.hsu with stockJobs := y.hsu.stockJobs ++ jobs } } ∧
          jobs.map (·.holder) = (Holder.list.filter fun h => present h && (hsu h).temp.isNone) ∧
          ∀ j ∈ jobs, j.temp = w ∧ j.tempSource = none ∧ j.baro = b.value ∧
            (hsu j.holder).travel = some ⟨j.travel, j.travelSource⟩))) ∧
  (∀ (y : Yard) (h : Holder) (p : Sampled), (∀ o ∈ y.mvs.orders, o.state ≠ .running) →
    let r := y.hsu.holders.get h
    let put (k : HolderDyn) : Yard := { y with hsu := { y.hsu with holders := y.hsu.holders.set h k } }
    (r.travel = none ∨ y.yds.desc = .opened → pressSample h p y = put { r with press := some p }) ∧
    (r.travel ≠ none → y.yds.desc = .committed →
      let within := |p.value - r.pressure| ≤ (y.yds.limits.get h).discordTol
      let moves (flag : Bool) (outs ins : Nat) : Yard :=
        put { r with press := some p, discord := flag, outCount := outs, inCount := ins }
      (r.discord = false → within → pressSample h p y = moves false 0 r.inCount) ∧
      (r.discord = false → ¬within → r.outCount < 2 → pressSample h p y = moves false (r.outCount + 1) r.inCount) ∧
      (r.discord = false → ¬within → 2 ≤ r.outCount → pressSample h p y = { moves true 0 0 with
        notices := y.notices.raise .pressureDiscord h.number (p.value - r.pressure) (y.gdc.clock.map (·.day))
          (y.gdc.clock.map (·.period)) }) ∧
      (r.discord = true → within → r.inCount < 2 → pressSample h p y = moves true r.outCount (r.inCount + 1)) ∧
      (r.discord = true → within → 2 ≤ r.inCount → pressSample h p y = moves false 0 0) ∧
      (r.discord = true → ¬within → pressSample h p y = moves true r.outCount 0)) ∧
    pressSource h none y = put { r with press := none, discord := false, outCount := 0, inCount := 0 } ∧
    pressSource h (some p) y = put { r with press := some p }) ∧
  (∀ (y : Yard) (m : Meter) (register : Nat) (rec : PeriodRec), register ≤ 999999 → y.qpr.current = some rec →
    let q := meterSlot m
    let r := y.qpr.recs.get q
    let e := rec.entries.get q
    let based (e' : PEntry) : Yard := { y with qpr := { y.qpr with
      recs := y.qpr.recs.set q { r with base := some register, scans := 0 }
      current := some { rec with entries := rec.entries.set q e' } } }
    let handed (delta : Nat) (z : Yard) : Yard := soaDelta m delta y.qpr.markerAwaited (some register) z
    meterSample m register true y = handed 0 (based { e with restart := true, estimated := true }) ∧
    (r.base = none → meterSample m register false y = handed 0 (based { e with estimated := true })) ∧
    (∀ b, r.base = some b → b ≤ 999999 →
      let delta := if b ≤ register then register - b else register + 1000000 - b
      let limit := (min ((y.yds.subs.get q).jump * (max r.scans 1 : Nat)) 999999).toNat
      (delta ≤ limit → meterSample m register false y = handed delta (based { e with deltas := e.deltas + delta })) ∧
      (limit < delta →
        meterSample m register false y =
          handed limit { based { e with jump := true, deltas := e.deltas + limit } with
            notices := y.notices.raise .meterJump q.code delta
              (y.gdc.clock.map (·.day)) (y.gdc.clock.map (·.period)) }))) ∧
  (∀ (y : Yard) (q : Slot),
    (q = .outletPress ∨ q = .makePress ∨ ∃ d, q = .outletOf d ∨ q = .farPress d) → y.yds.slotPresent q = true →
    let r := y.qpr.recs.get q
    let b := y.yds.bind.slots.get q
    let ends (z : Yard) (k : QRec) : Yard := { z with qpr := { z.qpr with
      recs := z.qpr.recs.set q { k with candidate := none, accepted := false } } }
    let polled := ∃ p, (b.primary = some p ∨ b.standby = some p) ∧ p.outstation ∈ y.qpr.polled
    (∀ c, r.candidate = some c → r.accepted = false →
      let z := acceptSample q c.1 .standby false y
      slotPhaseEnd y q = ends z (z.qpr.recs.get q)) ∧
    (r.accepted = true ∨ (r.candidate = none ∧ ((r.source ≠ .live ∧ r.source ≠ .standby) ∨ ¬polled)) →
      slotPhaseEnd y q = ends y r) ∧
    (r.accepted = false → r.candidate = none → r.source = .live ∨ r.source = .standby → polled →
      let sub := y.yds.subs.get q
      (r.since < sub.hold → slotPhaseEnd y q = ends y { r with source := .held }) ∧
      (sub.hold ≤ r.since → slotPhaseEnd y q = ends y { r with
        value := sub.declared, source := if sub.declared = none then .none else .declared, ranOut := true })))

/-! ### The send-out accounts (09) -/

/-- A delta of QPR while COMMITTED goes, by the factor, to the open-period accumulator of the current day, or, BEFORE MARKER
with a day pending, to the day-end remainder of that day, and is kept as seen (R147). The first latched index of a bound meter
for a pending day, with the marker out and an AFTER MARKER delta of the same reply, moves its remainder part from the one to
the other; with all bound meters latched the close is due (R152); how what was seen of a meter is kept is the model's reading (log
26). The close is due too at the period close for period 1 and at STOP CLOCK, which flags the day PARTIAL; once due and with
no correction of its day in hand it completes: CARRIED when a bound meter is not latched, each bound meter's remainder handed
to CU with the day's last conditions, or taken as it is (R153, R154). METER_VOLUME_RESULT: CU returns the oldest correction of
the meter and period; the standard volume, held to 1,000,000,000 litres, and its heat are written into the newest record of
the period and added to the day, with a district's peak period and its count of estimated periods (R148, R149).
REMAINDER_RESULT: the volume is added to the pending day; when it is the last one the day closes: its balance goes to the day
book, each figure formed from the day as it then stands, the cursor follows, BALANCE OUT and DAY CLOSED are raised, and its
closing stock opens the current day (R153, R155, R156, R157). The model's choice or reading: the vapour table read at the
return (log 12), the period volumes and the remainder kept as the model's own fields (log 58), a closing stock of another
period counted 0 (log 16), the bound meters and present holders counted as they stand when the balance is formed (log 28), a
close that is due completed whatever the description state (log 78), no latch taken once the completion has begun (log 81). -/
def Obligations.MeterVolumesTaken : Prop :=
  (∀ (y : Yard) (m : Meter) (counts : Nat) (before : Bool) (register : Option Nat),
    let ml := (counts : Int) * y.yds.meterFactor m
    let seen := y.soa.seen.set m ⟨register, (y.soa.seen.get m).register, if before then none else some counts⟩
    (y.yds.desc = .opened → soaDelta m counts before register y = y) ∧
    (y.yds.desc = .committed →
      (y.soa.current = none → soaDelta m counts before register y = { y with soa := { y.soa with seen := seen } }) ∧
      (∀ d, y.soa.current = some d → before = false ∨ y.soa.pending = none →
        let k := d.meters.get m
        soaDelta m counts before register y = { y with soa := { y.soa with
          seen := seen, current := some { d with meters := d.meters.set m { k with openAcc := k.openAcc + ml } } } }) ∧
      (∀ p, y.soa.current ≠ none → before = true → y.soa.pending = some p →
        let k := p.day.meters.get m
        soaDelta m counts before register y = { y with soa := { y.soa with
          seen := seen
          pending := some { p with day := { p.day with
            meters := p.day.meters.set m { k with remainder := k.remainder + ml } } } } }))) ∧
  (∀ (y : Yard) (m : Meter) (pt : Point) (latched : Nat) (p : PendingDay), y.soa.pending = some p →
    y.yds.meterBound m = true → (y.yds.bind.slots.get (meterSlot m)).primary = some pt →
    (∀ n, n ≠ m → y.yds.meterBound n = true → (y.yds.bind.slots.get (meterSlot n)).primary ≠ some pt) →
    let x := y.soa.seen.get m
    let k := p.day.meters.get m
    (y.soa.markerOut = false ∨ k.latched = true ∨ x.delta = none ∨ p.started = true → soaLatch pt latched y = y) ∧
    (∀ d, y.soa.markerOut = true → k.latched = false → x.delta = some d → p.started = false →
      let part := match x.before with
        | some q => min (((latched : Int) - q) % 1000000) d
        | none => 0
      let ml := part * y.yds.meterFactor m
      let latches : Yard := { y with soa := { y.soa with
        current := y.soa.current.map fun c =>
          { c with meters := c.meters.set m { c.meters.get m with openAcc := (c.meters.get m).openAcc - ml } }
        pending := some { p with day := { p.day with
          meters := p.day.meters.set m { k with remainder := k.remainder + ml, latched := true } } } } }
      ((∃ n, n ≠ m ∧ y.yds.meterBound n = true ∧ (p.day.meters.get n).latched = false) →
        soaLatch pt latched y = latches) ∧
      ((∀ n, n ≠ m → y.yds.meterBound n = true → (p.day.meters.get n).latched = true) →
        soaLatch pt latched y = makeDue latches))) ∧
  (∀ (y : Yard) (p : PendingDay), y.soa.pending = some p →
    let given (m : Meter) : Option (Int × Int × Int) :=
      match p.day.conditions.bind (·.press.get m), p.day.conditions.bind (·.temp), p.day.conditions.bind (·.baro) with
      | some g, some t, some b => some (g, t, b)
      | _, _, _ => none
    let bound := Meter.list.filter y.yds.meterBound
    (p.started = true ∨ (∃ c ∈ y.soa.corrections, c.day = p.day.day) →
      makeDue y = { y with soa := { y.soa with pending := some { p with due := true } } }) ∧
    (p.started = false → (∀ c ∈ y.soa.corrections, c.day ≠ p.day.day) →
      ((∃ m ∈ bound, given m ≠ none) → ∃ d : Day,
        makeDue y = { y with soa := { y.soa with
          pending := some ⟨d, true, true⟩
          remainders := y.soa.remainders ++ bound.filterMap fun m =>
            (given m).map fun g => ⟨m, (p.day.meters.get m).remainder, g.1, g.2.1, g.2.2⟩ } } ∧
        d = { p.day with
          flags := { p.day.flags with carried := p.day.flags.carried || bound.any fun m => !(p.day.meters.get m).latched }
          meters := d.meters } ∧
        ∀ m, let k := p.day.meters.get m
          let v := min ((2 * k.remainder + 1000) / 2000) 1000000000
          d.meters.get m =
            if m ∈ bound ∧ given m = none then
              { k with volume := k.volume + v, heat := k.heat + v * y.yds.cv, remVol := v }
            else k) ∧
      ((∀ m ∈ bound, given m = none) → y.soa.remainders = [] → (makeDue y).soa.pending = none)) ∧
    (∀ n, n ≠ 1 → soaPeriodClose n y = y) ∧
    (y.yds.desc = .committed → (y.soa.current ≠ none → soaPeriodClose 1 y = makeDue y) ∧
      soaStop y = makeDue { y with soa := { y.soa with
        pending := some { p with day := { p.day with flags := { p.day.flags with part := true } } } } }) ∧
    (∀ c rest, y.soa.corrections = c :: rest → p.due = true →
      meterResult c.meter c.period y =
        makeDue (periodResult c { y with soa := { y.soa with corrections := rest } }))) ∧
  ∀ (s : State) (m : Meter), s.powered = true →
    let y := s.yard
    (∀ period c rest d before r, y.soa.corrections = c :: rest → c.meter = m → c.period = period →
      y.soa.current = some d → d.day = c.day → y.soa.pending = none → y.qpr.ring = before ++ [r] → r.day = c.day →
      r.period = c.period →
      let res := meterVolume y.yds.vapour (roundDiv c.ml 1000) c.press c.temp c.baro
      let v := min res.1 1000000000
      let est := c.estimated || res.2 || decide (1000000000 < res.1)
      let old := d.meters.get m
      let e := r.entries.get (meterSlot m)
      let e' := { e with
        vstd := some v, vclamped := decide (1000000000 < res.1), heat := some (v * y.yds.cv)
        estimated := e.estimated || est }
      let new := { old with
        volume := old.volume + v, heat := old.heat + v * y.yds.cv, periodVols := old.periodVols ++ [v]
        peakVolume := if m ≠ .make ∧ old.peakVolume < v then v else old.peakVolume
        peakPeriod := if m ≠ .make ∧ old.peakVolume < v then some period else old.peakPeriod
        estimated := if m ≠ .make ∧ est = true then old.estimated + 1 else old.estimated }
      exec (.meterVolumeResult m period) s = concluded { s with yard := { y with
        qpr := { y.qpr with ring := before ++ [{ r with entries := r.entries.set (meterSlot m) e' }] }
        soa := { y.soa with corrections := rest, current := some { d with meters := d.meters.set m new } } } }) ∧
    (∀ r p, y.soa.pending = some p → p.started = true →
      let v := min (meterVolume y.yds.vapour (roundDiv r.ml 1000) r.press r.temp r.baro).1 1000000000
      let old := p.day.meters.get m
      let new := { old with volume := old.volume + v, heat := old.heat + v * y.yds.cv, remVol := v }
      let day := { p.day with meters := p.day.meters.set m new }
      (∀ x rest, y.soa.remainders = r :: x :: rest → r.meter = m →
        exec (.remainderResult m) s = concluded { s with yard := { y with soa := { y.soa with
          remainders := x :: rest, pending := some { p with day := day } } } }) ∧
      (y.soa.remainders = [r] → r.meter = m → y.soa.book.length ≤ 14 →
        let kept := y.soa.book.filter (·.day < p.day.day)
        let present := Holder.list.filter fun h => (y.yds.holders.get h).isSome
        let stock (h : Holder) : Option DayClosing := (p.day.closings.get h).filter fun c => p.day.lastClosed = some c.period
        let est := present.any fun h => !((stock h).any fun c => c.stock.isSome && c.status == .good)
        let bound (n : Meter) (v : Int) : Int := if y.yds.meterBound n then v else 0
        ∃ (y' : Yard) (e : BookEntry), exec (.remainderResult m) s = concluded { s with yard := y' } ∧
          y' = { y with
            soa := { y.soa with
              remainders := [], pending := none, cursor := y'.soa.cursor
              current := y.soa.current.map fun d => { d with opening := some (e.closing, est) }
              book := (kept ++ [e]).drop (kept.length + 1 - 14) }
            notices := y'.notices } ∧
          (y.soa.book[y.soa.cursor]? = none → y'.soa.book[y'.soa.cursor]? = some e) ∧
          (∀ x, y.soa.book[y.soa.cursor]? = some x →
            (x.day < p.day.day → kept.length < 14 ∨ 0 < y.soa.cursor → y'.soa.book[y'.soa.cursor]? = some x) ∧
            (p.day.day ≤ x.day ∨ (kept.length = 14 ∧ y.soa.cursor = 0) → y'.soa.cursor = 0)) ∧
          e.day = p.day.day ∧ e.dayType = p.day.dayType ∧
          e.flags = { p.day.flags with
            estimated := p.day.flags.estimated || est || p.day.lastClosed.isNone || p.day.opening.all (·.2) } ∧
          e.opening = (p.day.opening.map (·.1)).getD 0 ∧
          e.closing = (present.map fun h => ((stock h).bind (·.stock)).getD 0).sum ∧
          e.make = bound .make (day.meters.get .make).volume ∧ e.makeHeat = bound .make (day.meters.get .make).heat ∧
          e.sendOut = (District.list.map fun x => bound (.district x) (day.meters.get (.district x)).volume).sum ∧
          e.unaccounted = e.make - e.sendOut - (e.closing - e.opening) ∧
          (e.make = 0 → e.permille = none) ∧
          (0 < e.make → e.permille = some
            (if 0 ≤ e.unaccounted then (2 * (1000 * e.unaccounted) + e.make) / (2 * e.make)
              else -((2 * (1000 * -e.unaccounted) + e.make) / (2 * e.make)))) ∧
          (∀ x, e.districts.get x =
            if y.yds.districts.get x = none then none
            else
              let k := day.meters.get (.district x)
              some ⟨k.volume, k.heat, k.peakPeriod, k.peakVolume, k.estimated, k.remVol, k.periodVols⟩) ∧
          (let raised (q : Notices) (k : NoticeKind) (datum : Int) : Notices :=
            q.raise k p.day.day datum (y.gdc.clock.map (·.day)) (y.gdc.clock.map (·.period))
          ((∀ q, e.permille = some q → q ≤ y.yds.balanceLimit ∧ -q ≤ y.yds.balanceLimit) →
            y'.notices = raised y.notices .dayClosed p.day.day) ∧
          (∀ q, e.permille = some q → y.yds.balanceLimit < q ∨ y.yds.balanceLimit < -q →
            y'.notices = raised (raised y.notices .balanceOut q) .dayClosed p.day.day))))

/-! ### Queries, notices (10) -/

/-- A query answers and changes nothing of the yard. READ STATUS answers the description state, the clock, the trip, the
days in hand, the notices, and the link's queue and counts; READ HOLDER, READ ORDERS, READ DISTRICT, READ OUTSTATION and READ
QUANTITY answer the items of the object as they stand, each figure here written out, NONE as the widest code; an object that is
not there is NO SUCH (R5, R22, R29, R39, R81, R118, R134, R171). READ PERIOD answers the record of an age with the entries of
one section, READ DAY one section of a day, heats in MJ, and of the pending day the count of bound meters not yet reported too
(R143, R158). READ DAY BOOK answers a section of the entry at the cursor, or of the newest, and moves the cursor on when asked,
ENDED past the newest; refused NO SUCH it moves nothing (R157), as R165 asks. Which figures stand in which order, and how none
and a time are sent, is the model's choice where R173 leaves it open (log 8); that OPEN of READ PERIOD is sent as the
age 0 (log 7), that a section above its range or an age above 8 is INVALID, and the field named where two are at fault (log 9),
are its choice too. -/
def Obligations.QueriesAnswer : Prop :=
  let flag (b : Bool) : Fig := .u8 (if b then 1 else 0)
  let byte (v : Option Nat) : Fig := .u8 (v.getD 255)
  let word (v : Option Nat) : Fig := .u16 (v.getD 65535)
  let whole (n : Nat) : Fig := .s32 (some (n : Int))
  let heat (v : Int) : Fig := .s64 (some ((2 * v + 1000000) / 2000000))
  let ms (t : Nat) : Fig := whole (t / 24)
  let dayFlags (f : DayFlags) : List Fig := [flag f.part, flag f.carried, flag f.estimated, flag f.gap]
  ([Source.live, .standby, .held, .declared, .none].map (·.code) = [0, 1, 2, 3, 4] ∧
    [Status.good, .estimated, .unknown].map (·.code) = [0, 1, 2] ∧
    [OutstationKind.gauge, .actuator, .recorder].map (·.code) = [0, 1, 2] ∧
    [some PointKind.measure, some .meter, some .valve, some .booster, some .governor, none].map pointKindCode =
      [0, 1, 2, 3, 4, 255] ∧
    [DayType.working, .rest].map (·.code) = [0, 1] ∧ [CouplingRole.none, .leader, .follower].map (·.code) = [0, 1, 2] ∧
    [OrderKind.fill, .draw, .float].map (·.code) = [0, 1, 2] ∧ [StockDir.unset, .rising, .falling].map (·.code) = [0, 1, 2] ∧
    [OrderState.waiting, .opening, .running, .closing].map (·.code) = [0, 1, 2, 3] ∧
    [EndReason.endMet, .topStop, .landing, .cancelled, .valveStuck, .localHand, .readingLost, .trip, .coupling].map (·.code) =
      [0, 1, 2, 3, 4, 5, 6, 7, 8] ∧
    [GovOutcome.none, .delivered, .undelivered, .refused, .localHand].map (·.code) = [0, 1, 2, 3, 4] ∧
    [PointStatus.good, .suspect, .fault].map (·.code) = [0, 1, 2] ∧
    [FeedState.direct, .boosting, .boosted, .unboosting, .short].map (·.code) = [0, 1, 2, 3, 4] ∧
    [BoosterCmd.none, .run, .stop].map (·.code) = [0, 1, 2] ∧
    [BoosterRep.unknown, .stopped, .running, .fault].map (·.code) = [0, 1, 2, 3] ∧
    [EntryState.unknown, .live, .suspect, .failed, .asleep, .waking].map (·.code) = [0, 1, 2, 3, 4, 5] ∧
    [Identity.unchecked, .matched, .mismatched].map (·.code) = [0, 1, 2] ∧
    [LoadOutcome.none, .pending, .done, .localHand, .refused, .failed].map (·.code) = [0, 1, 2, 3, 4, 5]) ∧
  (∀ (s : State) (tag : Byte) (before after : List Request), Front s ⟨0x60#8, tag, [], false⟩ before after →
    let y := s.yard
    let clock := match y.gdc.clock with
      | some c => [.u8 1, .u16 c.day, .u8 c.weekday, .u8 c.period, whole c.second, .u8 c.dayType.code]
      | none => [.u8 0, word none, byte none, byte none, .s32 none, byte none]
    let cause := match y.mvs.tripCause with
      | none => [byte none, byte none]
      | some .input => [.u8 0, byte none]
      | some .request => [.u8 1, byte none]
      | some (.overTop h) => [.u8 2, .u8 h.number]
    exec (.readStatus tag []) s = concluded (s.answered ⟨0x60#8, tag, [], false⟩ before after s.yard
      (.answer .none
        ([.u8 (if y.yds.desc = .committed then 1 else 0)] ++ clock ++ [flag y.mvs.tripped] ++ cause ++
          [word (y.soa.current.map (·.day)), flag y.soa.pending.isSome, .u8 y.notices.queue.length,
            whole y.notices.lost, .u8 s.link.queue.length, whole s.link.counts.length, whole s.link.counts.gap,
            whole s.link.counts.check, whole s.link.counts.overrun])))) ∧
  (∀ y : Yard,
    (∀ h, (y.yds.holders.get h = none →
        Gives 0x61#8 .readHolder (formOf layObject) [some (h.number : Int)] y y (.refuse .noSuch [.u8 1])) ∧
      (∀ r, y.yds.holders.get h = some r →
        let d := y.hsu.holders.get h
        let p := y.hsu.holders.get h.partner
        let sampled (v : Option Sampled) : List Fig := [.s32 (v.map (·.value)), byte (v.map (·.source.code))]
        let lifts := r.lifts.toList.take r.count
        let geometry := match y.yds.geometry.get h with
          | none => []
          | some g =>
            [.u8 (g.zones.length + 1), .s32 (some g.zone0)] ++ g.zones.map (fun z => .s32 (some z)) ++
              [.s32 (some g.full), .s32 (some g.topStop), .s32 (some g.landing), .u8 g.bands.length] ++
              g.bands.flatMap fun b => [.s32 (some b.1), .s32 (some b.2)]
        let pair := if y.mvs.role h ≠ .leader then []
          else match d.stock, p.stock with
            | some a, some b => [.s64 (some (a + b)), .u8 (max d.status.code p.status.code)]
            | _, _ => [.s64 none, .u8 2]
        Gives 0x61#8 .readHolder (formOf layObject) [some (h.number : Int)] y y (.answer .none
          (sampled d.travel ++ sampled d.temp ++ sampled d.press ++
            [.u8 d.zone, .s32 (some d.pressure), .s64 d.stock, .u8 d.status.code, flag d.clamped,
              .s64 (d.closing.bind (·.stock)), byte (d.closing.map (·.status.code)), byte (d.closing.map (·.period)),
              flag d.discord, .u8 d.outCount, .u8 d.inCount, .u8 (y.mvs.role h).code, flag (y.mvs.unmanaged.get h),
              .u8 r.count, .s32 (some r.cup), .s32 (some r.topMargin), .s32 (some r.landMargin), .u8 lifts.length] ++
            lifts.flatMap (fun l => [.s32 (l.map (·.area)), .s32 (l.map (·.stroke)), .s32 (l.map (·.weight))]) ++
            geometry ++ pair)))) ∧
    (let start (c : StartCond) : List Fig :=
      match c with
      | .absent => [.u8 0, byte none, byte none, .s32 none]
      | .atPeriod p => [.u8 1, .u8 p, byte none, .s32 none]
      | .whenAbove h x => [.u8 2, byte none, .u8 h.number, .s32 (some x)]
      | .whenBelow h x => [.u8 3, byte none, .u8 h.number, .s32 (some x)]
    let finish (c : EndCond) : List Fig :=
      match c with
      | .absent => [.u8 0, .s32 none, .s64 none, byte none]
      | .untilTravel x => [.u8 1, .s32 (some x), .s64 none, byte none]
      | .untilStock v => [.u8 2, .s32 none, .s64 (some v), byte none]
      | .untilPeriod p => [.u8 3, .s32 none, .s64 none, .u8 p]
    Gives 0x62#8 .readOrders (formOf []) [] y y
      (.answer .none (.u8 y.mvs.orders.length :: y.mvs.orders.flatMap fun o =>
        [.u16 o.number, .u8 o.holder.number, .u8 o.kind.code] ++ start o.start ++ finish o.finish ++
          [.u8 o.stockDir.code, .u8 o.standing, flag o.eligible, flag o.lagOwn, flag o.lagOther, .u8 o.state.code,
            byte (o.reason.map (·.code))]))) ∧
    (∀ d, (y.yds.districts.get d = none →
        Gives 0x63#8 .readDistrict (formOf layObject) [some (d.number : Int)] y y (.refuse .noSuch [.u8 1])) ∧
      (∀ x, y.yds.districts.get d = some x →
        let g := y.yds.programme.get d
        let t := y.yds.trimSet.get d
        let f := y.yds.feedSet.get d
        let r := y.dgu.districts.get d
        let peak (p : Option Peak) : List Fig :=
          match p with
          | some p => [.u8 1, .u8 p.start, .u8 p.lead, .u8 p.hold, .u8 p.trail, .s32 (some p.value)]
          | none => [.u8 0, byte none, byte none, byte none, byte none, .s32 none]
        let timer := match r.runUp with
          | .idle => [.u8 0, .s32 none, .s32 none]
          | .running began limit => [.u8 1, ms began, whole limit]
        Gives 0x63#8 .readDistrict (formOf layObject) [some (d.number : Int)] y y
          (.answer .none ([flag x.booster, .s32 (some x.floor), .s32 (some x.ceiling), .s32 (some x.factor),
              .s32 (some g.base)] ++ g.peaks.toList.flatMap peak ++
            [.s32 (some t.farTarget), .s32 (some t.farBand), .s32 (some t.step), .s32 (some t.maxTrim), .s32 (some f.slew),
              .s32 (some f.drop), .s32 (some f.hysteresis), whole f.runUp, .s32 (some y.yds.yardLoss),
              .s32 (some r.profile), .s32 (some r.trim), .s32 r.target, .s32 r.commanded, .s32 r.delivered,
              flag r.govPending, .u8 r.govOutcome.code, .s32 (r.reported.map (·.1)), byte (r.reported.map (·.2.code)),
              .u8 r.feed.code, .u8 r.boosterCmd.code, .u8 r.boosterRep.code] ++ timer ++
            [flag r.failed, .u8 r.hyst, flag r.adoption, .u8 (if r.adoptWait = .idle then 0 else 1),
              .s32 y.dgu.available])))) ∧
    (∀ a : Nat, (y.scs.entryAt a = none →
        Gives 0x64#8 .readOutstation (formOf layObject) [some (a : Int)] y y (.refuse .noSuch [.u8 1])) ∧
      (∀ e, y.scs.entryAt a = some e →
        let d := e.dyn
        let c := d.counters
        let woken := if d.state = .waking then some d.wakeTime else d.woken
        let fitted := match d.fitted with
          | none => [byte none, byte none, byte none, byte none, byte none]
          | some f => .u8 f.kind.code :: f.points.toList.map fun k => .u8 (pointKindCode k)
        Gives 0x64#8 .readOutstation (formOf layObject) [some (a : Int)] y y
          (.answer .none ([.u8 e.address, .u8 e.kind.code, flag e.sleeper] ++
            e.points.toList.map (fun k => .u8 (pointKindCode k)) ++
            [.u8 d.state.code, .u8 d.misses, .u8 d.failedWait, flag d.woken.isSome,
              .s32 (woken.map fun t => ((t / 24 : Nat) : Int)), .u8 d.identity.code] ++ fitted ++
            [whole c.corrected, whole c.uncorrectable, whole c.payloadBad, whole c.timeout, whole c.outCorrections,
              whole c.outDiscards, .s32 (d.lastGood.map fun n => (n : Int)), .u8 d.load.code])))) ∧
    (∀ q, (y.yds.slotPresent q = false →
        Gives 0x65#8 .readQuantity (formOf layObject) [some (q.code : Int)] y y (.refuse .noSuch [.u8 1])) ∧
      (y.yds.slotPresent q = true →
        let b := y.yds.bind.slots.get q
        let u := y.yds.subs.get q
        let r := y.qpr.recs.get q
        let point (p : Option Point) : List Fig := [byte (p.map (·.outstation)), byte (p.map (·.channel))]
        let clock := r.lastGood.bind (·.clock)
        Gives 0x65#8 .readQuantity (formOf layObject) [some (q.code : Int)] y y (.answer .none
          (point b.primary ++ point b.standby ++
            [.s32 (some u.low), .s32 (some u.high), whole u.hold, .s32 u.declared,
              .s32 (if q.isMeter then some u.jump else none), .s32 r.value, .u8 r.source.code,
              .s32 (r.lastGood.map fun t => (t.cycle : Int)), word (clock.map (·.1)), byte (clock.map (·.2.1)),
              .s32 (clock.map fun c => (c.2.2 : Int)), .u8 r.since, .s32 (r.candidate.map (·.1)),
              .s32 (r.candidate.map fun c => (c.2 : Int)), flag r.accepted, whole r.clamps,
              .s32 (r.base.map fun n => (n : Int)), whole r.scans])))) ∧
    (∀ age sec : Nat,
      (8 < age → Gives 0x66#8 .readPeriod (formOf layPeriod) [some (age : Int), some (sec : Int)] y y
        (.refuse .invalid [.u8 1])) ∧
      (age ≤ 8 → 14 < sec → Gives 0x66#8 .readPeriod (formOf layPeriod) [some (age : Int), some (sec : Int)] y y
        (.refuse .invalid [.u8 2])) ∧
      let found := if age = 0 then y.qpr.current else y.qpr.ring.reverse[age - 1]?
      (age ≤ 8 → sec ≤ 14 → found = none →
        Gives 0x66#8 .readPeriod (formOf layPeriod) [some (age : Int), some (sec : Int)] y y (.refuse .noSuch [.u8 1])) ∧
      (∀ r, age ≤ 8 → found = some r →
        let reads (section_ : Nat) (d : Decision) : Prop :=
          Gives 0x66#8 .readPeriod (formOf layPeriod) [some (age : Int), some (section_ : Int)] y y d
        let plain (q : Slot) : List Fig :=
          let e := r.entries.get q
          [.s32 e.last, .s32 e.low, .s32 e.high, whole e.count, .u8 e.source.code]
        let metered (q : Slot) : List Fig :=
          let e := r.entries.get q
          plain q ++ [whole e.deltas, flag e.jump, flag e.restart, flag e.estimated, .s64 e.vstd, flag e.vclamped,
            match e.heat with
            | some v => heat v
            | none => .s64 none]
        let given (figs : List Fig) : Decision := .answer .none
          ([.u16 r.day, .u8 r.period, flag r.partialFlag, flag r.gap, flag r.incomplete, .u8 r.nIncomplete] ++ figs)
        reads 0 (given (plain .baro ++ plain .yardTemp ++ plain .outletPress ++ plain .makePress ++ metered .makeMeter)) ∧
        (∀ h : Holder,
          (y.yds.holders.get h ≠ none →
            reads h.number (given (plain (.travel h) ++ plain (.gasTemp h) ++ plain (.holderPress h)))) ∧
          (y.yds.holders.get h = none → reads h.number (.refuse .noSuch [.u8 2]))) ∧
        (∀ d : District,
          (y.yds.districts.get d ≠ none →
            reads (6 + d.number) (given (plain (.outletOf d) ++ plain (.farPress d) ++ metered (.meter d)))) ∧
          (y.yds.districts.get d = none → reads (6 + d.number) (.refuse .noSuch [.u8 2]))))) ∧
    (∀ pending : Bool,
      let reads (section_ : Nat) (d : Decision) : Prop :=
        Gives 0x67#8 .readDay (formOf layDay) [some (section_ : Int), some (if pending then 1 else 0)] y y d
      let day := if pending then y.soa.pending.map (·.day) else y.soa.current
      (∀ sec, 8 < sec → reads sec (.refuse .invalid [.u8 1])) ∧
      (∀ sec, sec ≤ 8 → day = none → reads sec (.refuse .noSuch [.u8 2])) ∧
      (∀ c, day = some c →
        let unreported := (Meter.list.filter fun m => y.yds.meterBound m && !(c.meters.get m).latched).length
        let tail : List Fig := if pending then [.u8 unreported] else []
        let make := c.meters.get .make
        let inHand := (y.soa.corrections.filter (·.day = c.day)).length + if pending then y.soa.remainders.length else 0
        reads 0 (.answer .none ([.u16 c.day, .u8 c.dayType.code] ++ dayFlags c.flags ++
          [byte c.lastClosed, .s64 (c.opening.map (·.1)), .s64 (some make.volume), heat make.heat, .u8 inHand] ++ tail)) ∧
        (∀ d : District,
          (y.yds.districts.get d ≠ none →
            let m := c.meters.get (.district d)
            reads d.number (.answer .none ([.s64 (some m.volume), heat m.heat, byte m.peakPeriod, .s64 (some m.peakVolume),
              .u8 m.estimated, .s64 (some m.remainder), flag m.latched] ++ tail))) ∧
          (y.yds.districts.get d = none → reads d.number (.refuse .noSuch [.u8 1]))))) ∧
    (∀ (advance newest : Bool) (sec : Nat),
      let reads (y' : Yard) (d : Decision) : Prop :=
        Gives 0x68#8 .readDayBook (formOf layBook)
          [some (sec : Int), some (if advance then 1 else 0), some (if newest then 1 else 0)] y y' d
      let place := if newest then y.soa.book.length - 1 else y.soa.cursor
      let moved (k : Nat) : Yard := { y with soa := { y.soa with cursor := k } }
      (8 < sec → reads y (.refuse .invalid [.u8 1])) ∧
      (sec ≤ 8 → y.soa.book[place]? = none → reads (moved place) (.answer .ended [])) ∧
      (∀ e, y.soa.book[place]? = some e →
        let after := if advance then place + 1 else place
        (sec = 0 → reads (moved after) (.answer .none ([.u16 e.day, .u8 e.dayType.code] ++ dayFlags e.flags ++
          [.s64 (some e.opening), .s64 (some e.closing), .s64 (some e.make), heat e.makeHeat, .s64 (some e.sendOut),
            .s64 (some e.unaccounted), .s32 e.permille]))) ∧
        (∀ d : District, sec = d.number →
          (∀ b, e.districts.get d = some b → reads (moved after) (.answer .none
            [.s64 (some b.volume), heat b.heat, byte b.peakPeriod, .s64 (some b.peakVolume), .u8 b.estimated])) ∧
          (e.districts.get d = none → reads y (.refuse .noSuch [.u8 1]))))))

/-- A notice raised: merged into the one of its kind and object, with the datum replaced and the repeat count risen to
at most 255; else appended while the queue holds fewer than 32; else lost and counted (R168). ATTENTION stands asserted
while the part is powered and the queue holds a notice (R169, R176). TAKE NOTICE answers the oldest with the notices
remaining and the lost count, removes it, and sets the lost count to 0; with none it answers kind 0 (R170). The order of
the answer's figures and its empty fields are the model's choice (log 8). -/
def Obligations.NoticeRaisedAndTaken : Prop :=
  (∀ (q : Notices) (k : NoticeKind) (object : Nat) (datum : Int) (day period : Option Nat),
    (∀ before n after, q.queue = before ++ n :: after → n.kind = k → n.object = object →
      (∀ x ∈ before ++ after, ¬(x.kind = k ∧ x.object = object)) →
      q.raise k object datum day period =
        ⟨before ++ { n with repeats := if n.repeats < 255 then n.repeats + 1 else n.repeats, datum := datum } :: after,
          q.lost⟩) ∧
    ((∀ x ∈ q.queue, ¬(x.kind = k ∧ x.object = object)) →
      (q.queue.length < 32 →
        q.raise k object datum day period = ⟨q.queue ++ [⟨k, object, day, period, datum, 1⟩], q.lost⟩) ∧
      (32 ≤ q.queue.length →
        q.raise k object datum day period = ⟨q.queue, if q.lost < 65535 then q.lost + 1 else q.lost⟩))) ∧
  (∀ s : State, s.attention = true ↔ s.powered = true ∧ s.yard.notices.queue ≠ []) ∧
  (∀ (y : Yard) (lost : Nat),
    (∀ n rest, y.notices = ⟨n :: rest, lost⟩ →
      Gives 0x70#8 .takeNotice (formOf []) [] y { y with notices := ⟨rest, 0⟩ }
        (.answer .none [.u8 n.kind.code, .u16 n.object, .u16 (n.day.getD 65535), .u8 (n.period.getD 255),
          .s32 (some n.datum), .u8 n.repeats, .u8 rest.length, .u16 lost])) ∧
    (y.notices = ⟨[], lost⟩ →
      Gives 0x70#8 .takeNotice (formOf []) [] y { y with notices := ⟨[], 0⟩ }
        (.answer .none [.u8 0, .u16 0, .u16 65535, .u8 255, .s32 (some 0), .u8 0, .u8 0, .u16 lost])))

/-! ### Power and restart (11) -/

/-- RESTART and COLD START are answered, and ask for their reset; with the answer sent the reset begins. A cold start puts every
item at its cold-start value. A warm restart keeps the description, its geometry formed again, the clock, the coupling and the
trip, the profile values and the trims, the roster's fixed items, the ring, the open record flagged PARTIAL while the clock
runs, the DAY marker owed, the marker-awaited mark, the marker out, the days, the day book and the corrections in hand; it drops
the orders and the link, raises RESTARTED with the number of orders lost, begins the line start, the YARD TRIP watch and the
line-held detector afresh with the pins as they stand, and leaves every other item fresh (R5, R13, R31, R64, R78, R96, R116,
R132, R144, R160, R172, R177), when R178 says. COLD STARTED carries the day and period of the clock that still runs, as R168
asks. That HSU's closing stocks are none too is the model's choice (log 49), and so are the layout of the check word, the count
of free values that no reset clears, the break of line start driven only with the line at mark (log 4, log 2, log 19), the time
base, 0 at a cold start (log 3), and the working items to which the manual gives no value (log 11). -/
def Obligations.ResetsBegin : Prop :=
  (∀ (s : State) (tag : Byte) (before after : List Request) (kind : Byte) (c : Byte → List Byte → Instr) (ask : ResetAsk),
    (kind = 0x7E#8 ∧ c = .restart ∧ ask = .warmRestart s.yard.mvs.orders.length) ∨
      (kind = 0x7F#8 ∧ c = .coldStart ∧ ask = .coldStart) →
    Front s ⟨kind, tag, [], false⟩ before after →
    exec (c tag []) s = concluded { s with link := { s.link with
      queue := before ++ ⟨kind, tag, [], true⟩ :: after
      staging := []
      answers := s.link.answers ++ [⟨kind, tag, .answer .none [], !s.link.staging.isEmpty, true, some ask⟩] } }) ∧
  (∀ (s : State) (a : Answer) (rest : List Answer), s.powered = true → s.link.answers = a :: rest →
    let y := s.yard
    (a.asks = some .coldStart →
      exec .answerSent s = concluded { s with
        link := ⟨.hunting, ⟨0, 0, 0, 0⟩, [], [], []⟩
        yard := { Yard.cold y.tripPin y.lineSpace with
          freeDraws := y.freeDraws
          notices := ⟨[⟨.coldStarted, 0, y.gdc.clock.map (·.day), y.gdc.clock.map (·.period), 0, 1⟩], 0⟩ } }) ∧
    (∀ n, a.asks = some (.warmRestart n) →
      ∃ y' : Yard, exec .answerSent s = concluded { s with
          link := ⟨.hunting, ⟨0, 0, 0, 0⟩, [], [], []⟩, yard := y' } ∧
        y.Restarted y' ∧ y'.now = y.now ∧ y'.secondMark = y.secondMark ∧ y'.gdc = y.gdc ∧
        y'.scs.dayOwed = y.scs.dayOwed ∧ y'.qpr.markerAwaited = y.qpr.markerAwaited ∧
        y'.qpr.current =
          (if y.gdc.clock = none then none else y.qpr.current.map fun r => { r with partialFlag := true }) ∧
        y'.soa = { y.soa with cursor := 0, seen := y'.soa.seen } ∧ (∀ m, y'.soa.seen.get m = ⟨none, none, none⟩) ∧
        y'.notices =
          ⟨[⟨.restarted, 0, y.gdc.clock.map (·.day), y.gdc.clock.map (·.period), n, 1⟩], 0⟩))

/-- POWER_FAIL: the controller does no work, the driver is released, the link, its answers and the notices are lost; power that
fails between a retained item and its check word leaves a check word that does not match the store. Without power nothing but
the two pins follows. POWER_UP: the check word is formed over the store; where it equals the stored one, a power restore, which
keeps the description, its geometry formed again, the resume point, the mark raised for day, the coupling and the trip, the
profile values and the trims, the roster's fixed items, the ring, the current day with its open accumulators 0, the day book and
the corrections in hand, raises POWER RESTORED, begins the line start, the YARD TRIP watch and the line-held detector afresh
with the pins as they stand, and leaves the clock UNSET and every other item fresh. A pending close is made due: with
corrections of its day in hand, or its remainders at CU, the day stays pending and the book and the current day stand; with
none, the day closes at once where no bound meter has the three conditions of a correction, its entry the newest of the book,
its closing stock the opening of the current day, BALANCE OUT where it is out and DAY CLOSED raised after POWER RESTORED, and
where a bound meter has them its remainders are handed to CU. Else a cold start (R5, R31, R64, R78, R96, R116, R132, R144, R160,
R172, R175, R176), as R13, R153 and R177 have it. The model's choice: that HSU's closing stocks are none too (log 49), how the
check word, the battery and a torn store enter (log 4), that POWER_FAIL leaves the other working items as they are until the
power comes back (log 34), that POWER_UP of a powered part is a reset like any other (log 35), that the count of free values
stands (log 2), the levels of the pins (log 5), the break of line start (log 19), the time base at 0 (log 3), and the working
items to which the manual gives no value (log 11). -/
def Obligations.PowerFailsAndReturns : Prop :=
  (∀ (s : State) (torn : Bool), s.powered = true →
    exec (.powerFail torn) s = .next { s with
      powered := false
      checkWord := if torn then ~~~s.yard.storeCheck else s.checkWord
      link := ⟨.hunting, ⟨0, 0, 0, 0⟩, [], [], []⟩
      yard := { s.yard with ylc := { s.yard.ylc with driving := false }, notices := ⟨[], 0⟩ } }) ∧
  (∀ (i : Instr) (s : State), s.powered = false → (∀ b, i ≠ .powerUp b) →
    ∃ trip space, exec i s = .next { s with yard := { s.yard with tripPin := trip, lineSpace := space } } ∧
      ((∀ m, i ≠ .yardTripAsserted m) → i ≠ .yardTripReleased → trip = s.yard.tripPin) ∧
      ((∀ m, i ≠ .lineGoesToSpace m) → (∀ m, i ≠ .lineReturnsToMark m) → space = s.yard.lineSpace)) ∧
  (∀ (s : State) (held : Bool),
    let y := s.yard
    (s.checkWord ≠ y.storeCheck ∨ held = false →
      exec (.powerUp held) s = concluded { s with
        powered := true
        link := ⟨.hunting, ⟨0, 0, 0, 0⟩, [], [], []⟩
        yard := { Yard.cold y.tripPin y.lineSpace with freeDraws := y.freeDraws } }) ∧
    (s.checkWord = y.storeCheck → held = true →
      ∃ y' : Yard, exec (.powerUp held) s = concluded { s with
          powered := true, link := ⟨.hunting, ⟨0, 0, 0, 0⟩, [], [], []⟩, yard := y' } ∧
        y.Restarted y' ∧ y'.now = 0 ∧ y'.secondMark = 0 ∧ y'.gdc = ⟨none, none, none, y.gdc.resume, y.gdc.markDay⟩ ∧
        y'.scs.dayOwed = false ∧ y'.qpr.markerAwaited = false ∧ y'.qpr.current = none ∧
        ∃ kept : Soa,
          kept = { y.soa with current := kept.current, cursor := 0, markerOut := false, seen := kept.seen } ∧
          (∀ m, kept.seen.get m = ⟨none, none, none⟩) ∧ (y.soa.current = none → kept.current = none) ∧
          (∀ d, y.soa.current = some d → ∃ d', kept.current = some d' ∧ d' = { d with meters := d'.meters } ∧
            ∀ m, d'.meters.get m = { d.meters.get m with openAcc := 0 }) ∧
          let started : Notices := ⟨[⟨.powerRestored, 0, none, none, 0, 1⟩], 0⟩
          (y.soa.pending = none → y'.soa = kept ∧ y'.notices = started) ∧
          ∀ p, y.soa.pending = some p →
            let bound := Meter.list.filter y.yds.meterBound
            let given (m : Meter) : Bool := p.day.conditions.any fun c =>
              (c.press.get m).isSome && c.temp.isSome && c.baro.isSome
            let waits := p.started = true ∨ ∃ c ∈ y.soa.corrections, c.day = p.day.day
            y'.soa.cursor = 0 ∧
            (waits → y'.soa = { kept with pending := some { p with due := true } } ∧ y'.notices = started) ∧
            (¬waits → (∃ m ∈ bound, given m = true) →
              (∃ d, y'.soa.pending = some ⟨d, true, true⟩ ∧ d.day = p.day.day) ∧
              y'.soa = { kept with pending := y'.soa.pending, remainders := y'.soa.remainders } ∧
              y'.soa.remainders.map (·.meter) = y.soa.remainders.map (·.meter) ++ bound.filter given ∧
              y'.notices = started) ∧
            (¬waits → (∀ m ∈ bound, given m = false) → y.soa.remainders = [] →
              ∃ (e : BookEntry) (est : Bool), e.day = p.day.day ∧
                (let whole := y.soa.book.filter (·.day < p.day.day) ++ [e]
                y'.soa = { kept with
                  pending := none
                  current := kept.current.map fun d => { d with opening := some (e.closing, est) }
                  book := if whole.length ≤ 14 then whole else whole.drop 1 }) ∧
                (let raised (q : Notices) (k : NoticeKind) (datum : Int) : Notices :=
                  q.raise k p.day.day datum none none
                ((∀ v, e.permille = some v → v ≤ y.yds.balanceLimit ∧ -v ≤ y.yds.balanceLimit) →
                  y'.notices = raised started .dayClosed p.day.day) ∧
                (∀ v, e.permille = some v → y.yds.balanceLimit < v ∨ y.yds.balanceLimit < -v →
                  y'.notices = raised (raised started .balanceOut v) .dayClosed p.day.day))) ∧
            (let due := makeDue { y' with soa := kept, notices := started }
            y'.soa = due.soa ∧ y'.notices = due.notices)))

/-! ### What every step keeps -/

/-- The machine after a cold start is lawful: the host link, the notices, the order list, the valves, the lists of the scan
sequencer, the districts, the quantities and the closed records stand within the bounds that every step keeps (R13, R31, R64,
R96, R132, R144, R160, R172). That State.reset is the cold start with YARD TRIP released and the line at mark is the model's
choice (log 5). -/
def Obligations.ResetIsLawful : Prop :=
  ∀ tripPin lineSpace : Bool,
    let y := Yard.cold tripPin lineSpace
    State.reset.link.Lawful ∧ State.reset.yard = Yard.cold false false ∧ y.notices.Lawful ∧ y.mvs.Lawful ∧ y.scs.Lawful ∧
      y.FeedLawful ∧ y.BooksLawful ∧ y.ValvesLawful ∧ y.QuantitiesLawful

/-- Every step keeps the host link within its bounds (R161, R163, R164, R166). -/
def Obligations.LinkStaysLawful : Prop :=
  ∀ s t : State, s.link.Lawful → step s = .next t → t.link.Lawful

/-- Every step keeps the notice queue within its bounds: at most 32 notices and never two of the same kind for the same
object (R168). -/
def Obligations.NoticesStayLawful : Prop :=
  ∀ s t : State, s.yard.notices.Lawful → step s = .next t → t.yard.notices.Lawful

/-- Every step keeps the order list lawful: at most 16 orders of different numbers, no holder with more than one in
OPENING, RUNNING or CLOSING, and none of the follower of a coupled pair (R39, R42, R55). It keeps the laws of the valves and of
the trip: a valve is commanded CRACKED or OPEN only while its holder, or that holder's leader, has an active order that uses it,
FILL or FLOAT for an inlet and DRAW or FLOAT for an outlet; while the yard is TRIPPED every inlet is commanded SHUT or NONE, and
no FILL or FLOAT order stands in any state but CLOSING (R34, R62). -/
def Obligations.OrdersStayLawful : Prop :=
  (∀ s t : State, s.yard.mvs.Lawful → step s = .next t → t.yard.mvs.Lawful) ∧
  ∀ s t : State, s.yard.mvs.Lawful → s.yard.ValvesLawful → step s = .next t →
    t.yard.ValvesLawful ∧
    (∀ v, (t.yard.mvs.valve v).commanded = .cracked ∨ (t.yard.mvs.valve v).commanded = .opened →
      ∃ o ∈ t.yard.mvs.orders, o.state ≠ .waiting ∧
        (o.holder = v.holder ∨ (t.yard.mvs.isCoupled o.holder = true ∧ o.holder.leads = true ∧ o.holder.partner = v.holder)) ∧
        (o.kind = .float ∨ (v.side = .inlet ∧ o.kind = .fill) ∨ (v.side = .outlet ∧ o.kind = .draw))) ∧
    (t.yard.mvs.tripped = true → ∀ h,
      (t.yard.mvs.inlets.get h).commanded = .shut ∨ (t.yard.mvs.inlets.get h).commanded = .none)

/-- Every step keeps the roster within 24 entries by ascending address, the command list within 32 commands, at most one
for any outstation and channel, and the load list within four (R117, R128, R130). -/
def Obligations.ListsStayLawful : Prop :=
  ∀ s t : State, s.yard.scs.Lawful → step s = .next t → t.yard.scs.Lawful

/-- Every step keeps each present district's commanded set-point within its floor and ceiling and its trim within its max
trim, and a booster commanded RUN only while its district is BOOSTING or BOOSTED (R83, R90). An available pressure that a step
forms never exceeds the greatest contribution of a holder whose outlet is reported open, while one is (R88). -/
def Obligations.FeedStaysLawful : Prop :=
  ∀ s t : State, s.yard.FeedLawful → step s = .next t → t.yard.FeedLawful ∧
    ∀ a, t.yard.dgu.available = some a → t.yard.dgu.available ≠ s.yard.dgu.available →
      (∃ h, t.yard.counts h) → ∃ h, t.yard.counts h ∧ a ≤ contribution t.yard h

/-- Every step keeps the ring within eight records and the day book within 14 entries in strictly increasing day number,
and in every entry make minus send-out minus (closing stock minus opening stock) equals the unaccounted volume (R143,
R155, R156); and in the current day, the pending day and every entry each volume equals the sum of its period volumes plus
its day-end remainder (R153). The period volumes and the remainder are kept apart in the model's own fields (log 58). Every
step keeps a quantity that is LIVE, STANDBY or HELD at a value within its range (R135, R136); that a range low above Zn + 500
stands before the clamp to Zn + 500 is the model's choice (log 77). -/
def Obligations.BooksStayLawful : Prop :=
  (∀ s t : State, s.yard.BooksLawful → step s = .next t → t.yard.BooksLawful) ∧
  ∀ s t : State, s.yard.QuantitiesLawful → step s = .next t → t.yard.QuantitiesLawful

/-- Whatever command is taken, while the description is COMMITTED before and after it the structural items stand: the
holders, the districts, the bindings, the line settings, and the fixed items of the roster (R1, R2). -/
def Obligations.StructureStandsWhileCommitted : Prop :=
  ∀ s t : State, step s = .next t → s.yard.yds.desc = .committed → t.yard.yds.desc = .committed →
    t.yard.yds.holders = s.yard.yds.holders ∧ t.yard.yds.districts = s.yard.yds.districts ∧
    t.yard.yds.bind = s.yard.yds.bind ∧ t.yard.yds.line = s.yard.yds.line ∧
    t.yard.scs.roster.map (fun e => (e.address, e.kind, e.sleeper, e.points)) =
      s.yard.scs.roster.map fun e => (e.address, e.kind, e.sleeper, e.points)
end

