-- ==== Sys2Proof/Laws/State.lean ====
section
/-! SUPPORT. The fields of the yard after each of its updates, and what a table gives after an item of it is set: the later
proofs cite these and never unfold an update. -/

namespace Sys2Proof.Machine

/-! ### Tables of a fixed size -/

@[simp] theorem Holders.get_all {α : Type} (a : α) (h : Holder) : (Holders.all a).get h = a := by cases h <;> rfl

@[simp] theorem Holders.get_set {α : Type} (t : Holders α) (h : Holder) (a : α) : (t.set h a).get h = a := by
  cases h <;> rfl

theorem Holders.get_set_ne {α : Type} (t : Holders α) {h k : Holder} (a : α) (hk : k ≠ h) :
    (t.set h a).get k = t.get k := by
  cases h <;> cases k <;> first | rfl | exact absurd rfl hk

@[simp] theorem Holders.set_get {α : Type} (t : Holders α) (h : Holder) : t.set h (t.get h) = t := by cases h <;> rfl

theorem Holders.set_set {α : Type} (t : Holders α) (h : Holder) (a b : α) : (t.set h a).set h b = t.set h b := by
  cases h <;> rfl

theorem Holders.ext_get {α : Type} {t u : Holders α} (e : ∀ h, t.get h = u.get h) : t = u := by
  cases t; cases u
  simp only [Holders.mk.injEq]
  exact ⟨e .h1, e .h2, e .h3, e .h4, e .h5, e .h6⟩

@[simp] theorem Districts.get_all {α : Type} (a : α) (d : District) : (Districts.all a).get d = a := by cases d <;> rfl

@[simp] theorem Districts.get_set {α : Type} (t : Districts α) (d : District) (a : α) : (t.set d a).get d = a := by
  cases d <;> rfl

theorem Districts.get_set_ne {α : Type} (t : Districts α) {d k : District} (a : α) (hk : k ≠ d) :
    (t.set d a).get k = t.get k := by
  cases d <;> cases k <;> first | rfl | exact absurd rfl hk

@[simp] theorem Districts.set_get {α : Type} (t : Districts α) (d : District) : t.set d (t.get d) = t := by
  cases d <;> rfl

theorem Districts.set_set {α : Type} (t : Districts α) (d : District) (a b : α) : (t.set d a).set d b = t.set d b := by
  cases d <;> rfl

theorem Districts.ext_get {α : Type} {t u : Districts α} (e : ∀ d, t.get d = u.get d) : t = u := by
  cases t; cases u
  simp only [Districts.mk.injEq]
  exact ⟨e .d1, e .d2, e .d3, e .d4, e .d5, e .d6, e .d7, e .d8⟩

@[simp] theorem Four.get_all {α : Type} (a : α) (k : Nat) : (Four.all a).get k = a := by
  unfold Four.get; split <;> rfl

theorem Four.get_set {α : Type} (t : Four α) (k : Nat) (a : α) : (t.set k a).get k = a := by
  match k with
  | 0 => rfl
  | 1 => rfl
  | 2 => rfl
  | _ + 3 => rfl

theorem Four.get_set_ne {α : Type} (t : Four α) {k n : Nat} (a : α) (hk : k ≤ 3) (hn : n ≤ 3) (h : n ≠ k) :
    (t.set k a).get n = t.get n := by
  interval_cases k <;> interval_cases n <;> first | rfl | exact absurd rfl h

theorem Three.get_set {α : Type} (t : Three α) (k : Nat) (a : α) : (t.set k a).get k = a := by
  match k with
  | 0 => rfl
  | 1 => rfl
  | 2 => rfl
  | _ + 3 => rfl

@[simp] theorem Slots.get_make {α : Type} (f : Slot → α) (q : Slot) : (Slots.make f).get q = f q := by
  cases q <;> first | rfl | (rename_i x; cases x <;> rfl)

@[simp] theorem Slots.get_set {α : Type} (t : Slots α) (q : Slot) (a : α) : (t.set q a).get q = a := by
  cases q <;> simp [Slots.set, Slots.get]

theorem Slots.get_set_ne {α : Type} (t : Slots α) {q k : Slot} (a : α) (hk : k ≠ q) : (t.set q a).get k = t.get k := by
  cases q <;> cases k <;> first
    | rfl
    | exact absurd rfl hk
    | (simp only [Slots.set, Slots.get]; exact Holders.get_set_ne _ _ fun e => hk (by rw [e]))
    | (simp only [Slots.set, Slots.get]; exact Districts.get_set_ne _ _ fun e => hk (by rw [e]))

@[simp] theorem Meters.get_set {α : Type} (t : Meters α) (m : Meter) (a : α) : (t.set m a).get m = a := by
  cases m <;> simp [Meters.set, Meters.get]

theorem Meters.get_set_ne {α : Type} (t : Meters α) {m k : Meter} (a : α) (hk : k ≠ m) : (t.set m a).get k = t.get k := by
  cases m <;> cases k <;> first
    | rfl
    | exact absurd rfl hk
    | (simp only [Meters.set, Meters.get]; exact Districts.get_set_ne _ _ fun e => hk (by rw [e]))

/-! ### The updates of one block -/

@[simp] theorem Yard.updYds_now (y : Yard) (f : Yds → Yds) : (y.updYds f).now = y.now := rfl
@[simp] theorem Yard.updYds_secondMark (y : Yard) (f : Yds → Yds) : (y.updYds f).secondMark = y.secondMark := rfl
@[simp] theorem Yard.updYds_tripPin (y : Yard) (f : Yds → Yds) : (y.updYds f).tripPin = y.tripPin := rfl
@[simp] theorem Yard.updYds_lineSpace (y : Yard) (f : Yds → Yds) : (y.updYds f).lineSpace = y.lineSpace := rfl
@[simp] theorem Yard.updYds_freeDraws (y : Yard) (f : Yds → Yds) : (y.updYds f).freeDraws = y.freeDraws := rfl
@[simp] theorem Yard.updYds_yds (y : Yard) (f : Yds → Yds) : (y.updYds f).yds = f y.yds := rfl
@[simp] theorem Yard.updYds_hsu (y : Yard) (f : Yds → Yds) : (y.updYds f).hsu = y.hsu := rfl
@[simp] theorem Yard.updYds_mvs (y : Yard) (f : Yds → Yds) : (y.updYds f).mvs = y.mvs := rfl
@[simp] theorem Yard.updYds_gdc (y : Yard) (f : Yds → Yds) : (y.updYds f).gdc = y.gdc := rfl
@[simp] theorem Yard.updYds_dgu (y : Yard) (f : Yds → Yds) : (y.updYds f).dgu = y.dgu := rfl
@[simp] theorem Yard.updYds_ylc (y : Yard) (f : Yds → Yds) : (y.updYds f).ylc = y.ylc := rfl
@[simp] theorem Yard.updYds_scs (y : Yard) (f : Yds → Yds) : (y.updYds f).scs = y.scs := rfl
@[simp] theorem Yard.updYds_qpr (y : Yard) (f : Yds → Yds) : (y.updYds f).qpr = y.qpr := rfl
@[simp] theorem Yard.updYds_soa (y : Yard) (f : Yds → Yds) : (y.updYds f).soa = y.soa := rfl
@[simp] theorem Yard.updYds_notices (y : Yard) (f : Yds → Yds) : (y.updYds f).notices = y.notices := rfl

@[simp] theorem Yard.updHsu_now (y : Yard) (f : Hsu → Hsu) : (y.updHsu f).now = y.now := rfl
@[simp] theorem Yard.updHsu_secondMark (y : Yard) (f : Hsu → Hsu) : (y.updHsu f).secondMark = y.secondMark := rfl
@[simp] theorem Yard.updHsu_tripPin (y : Yard) (f : Hsu → Hsu) : (y.updHsu f).tripPin = y.tripPin := rfl
@[simp] theorem Yard.updHsu_lineSpace (y : Yard) (f : Hsu → Hsu) : (y.updHsu f).lineSpace = y.lineSpace := rfl
@[simp] theorem Yard.updHsu_freeDraws (y : Yard) (f : Hsu → Hsu) : (y.updHsu f).freeDraws = y.freeDraws := rfl
@[simp] theorem Yard.updHsu_yds (y : Yard) (f : Hsu → Hsu) : (y.updHsu f).yds = y.yds := rfl
@[simp] theorem Yard.updHsu_hsu (y : Yard) (f : Hsu → Hsu) : (y.updHsu f).hsu = f y.hsu := rfl
@[simp] theorem Yard.updHsu_mvs (y : Yard) (f : Hsu → Hsu) : (y.updHsu f).mvs = y.mvs := rfl
@[simp] theorem Yard.updHsu_gdc (y : Yard) (f : Hsu → Hsu) : (y.updHsu f).gdc = y.gdc := rfl
@[simp] theorem Yard.updHsu_dgu (y : Yard) (f : Hsu → Hsu) : (y.updHsu f).dgu = y.dgu := rfl
@[simp] theorem Yard.updHsu_ylc (y : Yard) (f : Hsu → Hsu) : (y.updHsu f).ylc = y.ylc := rfl
@[simp] theorem Yard.updHsu_scs (y : Yard) (f : Hsu → Hsu) : (y.updHsu f).scs = y.scs := rfl
@[simp] theorem Yard.updHsu_qpr (y : Yard) (f : Hsu → Hsu) : (y.updHsu f).qpr = y.qpr := rfl
@[simp] theorem Yard.updHsu_soa (y : Yard) (f : Hsu → Hsu) : (y.updHsu f).soa = y.soa := rfl
@[simp] theorem Yard.updHsu_notices (y : Yard) (f : Hsu → Hsu) : (y.updHsu f).notices = y.notices := rfl

@[simp] theorem Yard.updMvs_now (y : Yard) (f : Mvs → Mvs) : (y.updMvs f).now = y.now := rfl
@[simp] theorem Yard.updMvs_secondMark (y : Yard) (f : Mvs → Mvs) : (y.updMvs f).secondMark = y.secondMark := rfl
@[simp] theorem Yard.updMvs_tripPin (y : Yard) (f : Mvs → Mvs) : (y.updMvs f).tripPin = y.tripPin := rfl
@[simp] theorem Yard.updMvs_lineSpace (y : Yard) (f : Mvs → Mvs) : (y.updMvs f).lineSpace = y.lineSpace := rfl
@[simp] theorem Yard.updMvs_freeDraws (y : Yard) (f : Mvs → Mvs) : (y.updMvs f).freeDraws = y.freeDraws := rfl
@[simp] theorem Yard.updMvs_yds (y : Yard) (f : Mvs → Mvs) : (y.updMvs f).yds = y.yds := rfl
@[simp] theorem Yard.updMvs_hsu (y : Yard) (f : Mvs → Mvs) : (y.updMvs f).hsu = y.hsu := rfl
@[simp] theorem Yard.updMvs_mvs (y : Yard) (f : Mvs → Mvs) : (y.updMvs f).mvs = f y.mvs := rfl
@[simp] theorem Yard.updMvs_gdc (y : Yard) (f : Mvs → Mvs) : (y.updMvs f).gdc = y.gdc := rfl
@[simp] theorem Yard.updMvs_dgu (y : Yard) (f : Mvs → Mvs) : (y.updMvs f).dgu = y.dgu := rfl
@[simp] theorem Yard.updMvs_ylc (y : Yard) (f : Mvs → Mvs) : (y.updMvs f).ylc = y.ylc := rfl
@[simp] theorem Yard.updMvs_scs (y : Yard) (f : Mvs → Mvs) : (y.updMvs f).scs = y.scs := rfl
@[simp] theorem Yard.updMvs_qpr (y : Yard) (f : Mvs → Mvs) : (y.updMvs f).qpr = y.qpr := rfl
@[simp] theorem Yard.updMvs_soa (y : Yard) (f : Mvs → Mvs) : (y.updMvs f).soa = y.soa := rfl
@[simp] theorem Yard.updMvs_notices (y : Yard) (f : Mvs → Mvs) : (y.updMvs f).notices = y.notices := rfl

@[simp] theorem Yard.updGdc_now (y : Yard) (f : Gdc → Gdc) : (y.updGdc f).now = y.now := rfl
@[simp] theorem Yard.updGdc_secondMark (y : Yard) (f : Gdc → Gdc) : (y.updGdc f).secondMark = y.secondMark := rfl
@[simp] theorem Yard.updGdc_tripPin (y : Yard) (f : Gdc → Gdc) : (y.updGdc f).tripPin = y.tripPin := rfl
@[simp] theorem Yard.updGdc_lineSpace (y : Yard) (f : Gdc → Gdc) : (y.updGdc f).lineSpace = y.lineSpace := rfl
@[simp] theorem Yard.updGdc_freeDraws (y : Yard) (f : Gdc → Gdc) : (y.updGdc f).freeDraws = y.freeDraws := rfl
@[simp] theorem Yard.updGdc_yds (y : Yard) (f : Gdc → Gdc) : (y.updGdc f).yds = y.yds := rfl
@[simp] theorem Yard.updGdc_hsu (y : Yard) (f : Gdc → Gdc) : (y.updGdc f).hsu = y.hsu := rfl
@[simp] theorem Yard.updGdc_mvs (y : Yard) (f : Gdc → Gdc) : (y.updGdc f).mvs = y.mvs := rfl
@[simp] theorem Yard.updGdc_gdc (y : Yard) (f : Gdc → Gdc) : (y.updGdc f).gdc = f y.gdc := rfl
@[simp] theorem Yard.updGdc_dgu (y : Yard) (f : Gdc → Gdc) : (y.updGdc f).dgu = y.dgu := rfl
@[simp] theorem Yard.updGdc_ylc (y : Yard) (f : Gdc → Gdc) : (y.updGdc f).ylc = y.ylc := rfl
@[simp] theorem Yard.updGdc_scs (y : Yard) (f : Gdc → Gdc) : (y.updGdc f).scs = y.scs := rfl
@[simp] theorem Yard.updGdc_qpr (y : Yard) (f : Gdc → Gdc) : (y.updGdc f).qpr = y.qpr := rfl
@[simp] theorem Yard.updGdc_soa (y : Yard) (f : Gdc → Gdc) : (y.updGdc f).soa = y.soa := rfl
@[simp] theorem Yard.updGdc_notices (y : Yard) (f : Gdc → Gdc) : (y.updGdc f).notices = y.notices := rfl

@[simp] theorem Yard.updDgu_now (y : Yard) (f : Dgu → Dgu) : (y.updDgu f).now = y.now := rfl
@[simp] theorem Yard.updDgu_secondMark (y : Yard) (f : Dgu → Dgu) : (y.updDgu f).secondMark = y.secondMark := rfl
@[simp] theorem Yard.updDgu_tripPin (y : Yard) (f : Dgu → Dgu) : (y.updDgu f).tripPin = y.tripPin := rfl
@[simp] theorem Yard.updDgu_lineSpace (y : Yard) (f : Dgu → Dgu) : (y.updDgu f).lineSpace = y.lineSpace := rfl
@[simp] theorem Yard.updDgu_freeDraws (y : Yard) (f : Dgu → Dgu) : (y.updDgu f).freeDraws = y.freeDraws := rfl
@[simp] theorem Yard.updDgu_yds (y : Yard) (f : Dgu → Dgu) : (y.updDgu f).yds = y.yds := rfl
@[simp] theorem Yard.updDgu_hsu (y : Yard) (f : Dgu → Dgu) : (y.updDgu f).hsu = y.hsu := rfl
@[simp] theorem Yard.updDgu_mvs (y : Yard) (f : Dgu → Dgu) : (y.updDgu f).mvs = y.mvs := rfl
@[simp] theorem Yard.updDgu_gdc (y : Yard) (f : Dgu → Dgu) : (y.updDgu f).gdc = y.gdc := rfl
@[simp] theorem Yard.updDgu_dgu (y : Yard) (f : Dgu → Dgu) : (y.updDgu f).dgu = f y.dgu := rfl
@[simp] theorem Yard.updDgu_ylc (y : Yard) (f : Dgu → Dgu) : (y.updDgu f).ylc = y.ylc := rfl
@[simp] theorem Yard.updDgu_scs (y : Yard) (f : Dgu → Dgu) : (y.updDgu f).scs = y.scs := rfl
@[simp] theorem Yard.updDgu_qpr (y : Yard) (f : Dgu → Dgu) : (y.updDgu f).qpr = y.qpr := rfl
@[simp] theorem Yard.updDgu_soa (y : Yard) (f : Dgu → Dgu) : (y.updDgu f).soa = y.soa := rfl
@[simp] theorem Yard.updDgu_notices (y : Yard) (f : Dgu → Dgu) : (y.updDgu f).notices = y.notices := rfl

@[simp] theorem Yard.updYlc_now (y : Yard) (f : Ylc → Ylc) : (y.updYlc f).now = y.now := rfl
@[simp] theorem Yard.updYlc_secondMark (y : Yard) (f : Ylc → Ylc) : (y.updYlc f).secondMark = y.secondMark := rfl
@[simp] theorem Yard.updYlc_tripPin (y : Yard) (f : Ylc → Ylc) : (y.updYlc f).tripPin = y.tripPin := rfl
@[simp] theorem Yard.updYlc_lineSpace (y : Yard) (f : Ylc → Ylc) : (y.updYlc f).lineSpace = y.lineSpace := rfl
@[simp] theorem Yard.updYlc_freeDraws (y : Yard) (f : Ylc → Ylc) : (y.updYlc f).freeDraws = y.freeDraws := rfl
@[simp] theorem Yard.updYlc_yds (y : Yard) (f : Ylc → Ylc) : (y.updYlc f).yds = y.yds := rfl
@[simp] theorem Yard.updYlc_hsu (y : Yard) (f : Ylc → Ylc) : (y.updYlc f).hsu = y.hsu := rfl
@[simp] theorem Yard.updYlc_mvs (y : Yard) (f : Ylc → Ylc) : (y.updYlc f).mvs = y.mvs := rfl
@[simp] theorem Yard.updYlc_gdc (y : Yard) (f : Ylc → Ylc) : (y.updYlc f).gdc = y.gdc := rfl
@[simp] theorem Yard.updYlc_dgu (y : Yard) (f : Ylc → Ylc) : (y.updYlc f).dgu = y.dgu := rfl
@[simp] theorem Yard.updYlc_ylc (y : Yard) (f : Ylc → Ylc) : (y.updYlc f).ylc = f y.ylc := rfl
@[simp] theorem Yard.updYlc_scs (y : Yard) (f : Ylc → Ylc) : (y.updYlc f).scs = y.scs := rfl
@[simp] theorem Yard.updYlc_qpr (y : Yard) (f : Ylc → Ylc) : (y.updYlc f).qpr = y.qpr := rfl
@[simp] theorem Yard.updYlc_soa (y : Yard) (f : Ylc → Ylc) : (y.updYlc f).soa = y.soa := rfl
@[simp] theorem Yard.updYlc_notices (y : Yard) (f : Ylc → Ylc) : (y.updYlc f).notices = y.notices := rfl

@[simp] theorem Yard.updScs_now (y : Yard) (f : Scs → Scs) : (y.updScs f).now = y.now := rfl
@[simp] theorem Yard.updScs_secondMark (y : Yard) (f : Scs → Scs) : (y.updScs f).secondMark = y.secondMark := rfl
@[simp] theorem Yard.updScs_tripPin (y : Yard) (f : Scs → Scs) : (y.updScs f).tripPin = y.tripPin := rfl
@[simp] theorem Yard.updScs_lineSpace (y : Yard) (f : Scs → Scs) : (y.updScs f).lineSpace = y.lineSpace := rfl
@[simp] theorem Yard.updScs_freeDraws (y : Yard) (f : Scs → Scs) : (y.updScs f).freeDraws = y.freeDraws := rfl
@[simp] theorem Yard.updScs_yds (y : Yard) (f : Scs → Scs) : (y.updScs f).yds = y.yds := rfl
@[simp] theorem Yard.updScs_hsu (y : Yard) (f : Scs → Scs) : (y.updScs f).hsu = y.hsu := rfl
@[simp] theorem Yard.updScs_mvs (y : Yard) (f : Scs → Scs) : (y.updScs f).mvs = y.mvs := rfl
@[simp] theorem Yard.updScs_gdc (y : Yard) (f : Scs → Scs) : (y.updScs f).gdc = y.gdc := rfl
@[simp] theorem Yard.updScs_dgu (y : Yard) (f : Scs → Scs) : (y.updScs f).dgu = y.dgu := rfl
@[simp] theorem Yard.updScs_ylc (y : Yard) (f : Scs → Scs) : (y.updScs f).ylc = y.ylc := rfl
@[simp] theorem Yard.updScs_scs (y : Yard) (f : Scs → Scs) : (y.updScs f).scs = f y.scs := rfl
@[simp] theorem Yard.updScs_qpr (y : Yard) (f : Scs → Scs) : (y.updScs f).qpr = y.qpr := rfl
@[simp] theorem Yard.updScs_soa (y : Yard) (f : Scs → Scs) : (y.updScs f).soa = y.soa := rfl
@[simp] theorem Yard.updScs_notices (y : Yard) (f : Scs → Scs) : (y.updScs f).notices = y.notices := rfl

@[simp] theorem Yard.updQpr_now (y : Yard) (f : Qpr → Qpr) : (y.updQpr f).now = y.now := rfl
@[simp] theorem Yard.updQpr_secondMark (y : Yard) (f : Qpr → Qpr) : (y.updQpr f).secondMark = y.secondMark := rfl
@[simp] theorem Yard.updQpr_tripPin (y : Yard) (f : Qpr → Qpr) : (y.updQpr f).tripPin = y.tripPin := rfl
@[simp] theorem Yard.updQpr_lineSpace (y : Yard) (f : Qpr → Qpr) : (y.updQpr f).lineSpace = y.lineSpace := rfl
@[simp] theorem Yard.updQpr_freeDraws (y : Yard) (f : Qpr → Qpr) : (y.updQpr f).freeDraws = y.freeDraws := rfl
@[simp] theorem Yard.updQpr_yds (y : Yard) (f : Qpr → Qpr) : (y.updQpr f).yds = y.yds := rfl
@[simp] theorem Yard.updQpr_hsu (y : Yard) (f : Qpr → Qpr) : (y.updQpr f).hsu = y.hsu := rfl
@[simp] theorem Yard.updQpr_mvs (y : Yard) (f : Qpr → Qpr) : (y.updQpr f).mvs = y.mvs := rfl
@[simp] theorem Yard.updQpr_gdc (y : Yard) (f : Qpr → Qpr) : (y.updQpr f).gdc = y.gdc := rfl
@[simp] theorem Yard.updQpr_dgu (y : Yard) (f : Qpr → Qpr) : (y.updQpr f).dgu = y.dgu := rfl
@[simp] theorem Yard.updQpr_ylc (y : Yard) (f : Qpr → Qpr) : (y.updQpr f).ylc = y.ylc := rfl
@[simp] theorem Yard.updQpr_scs (y : Yard) (f : Qpr → Qpr) : (y.updQpr f).scs = y.scs := rfl
@[simp] theorem Yard.updQpr_qpr (y : Yard) (f : Qpr → Qpr) : (y.updQpr f).qpr = f y.qpr := rfl
@[simp] theorem Yard.updQpr_soa (y : Yard) (f : Qpr → Qpr) : (y.updQpr f).soa = y.soa := rfl
@[simp] theorem Yard.updQpr_notices (y : Yard) (f : Qpr → Qpr) : (y.updQpr f).notices = y.notices := rfl

@[simp] theorem Yard.updSoa_now (y : Yard) (f : Soa → Soa) : (y.updSoa f).now = y.now := rfl
@[simp] theorem Yard.updSoa_secondMark (y : Yard) (f : Soa → Soa) : (y.updSoa f).secondMark = y.secondMark := rfl
@[simp] theorem Yard.updSoa_tripPin (y : Yard) (f : Soa → Soa) : (y.updSoa f).tripPin = y.tripPin := rfl
@[simp] theorem Yard.updSoa_lineSpace (y : Yard) (f : Soa → Soa) : (y.updSoa f).lineSpace = y.lineSpace := rfl
@[simp] theorem Yard.updSoa_freeDraws (y : Yard) (f : Soa → Soa) : (y.updSoa f).freeDraws = y.freeDraws := rfl
@[simp] theorem Yard.updSoa_yds (y : Yard) (f : Soa → Soa) : (y.updSoa f).yds = y.yds := rfl
@[simp] theorem Yard.updSoa_hsu (y : Yard) (f : Soa → Soa) : (y.updSoa f).hsu = y.hsu := rfl
@[simp] theorem Yard.updSoa_mvs (y : Yard) (f : Soa → Soa) : (y.updSoa f).mvs = y.mvs := rfl
@[simp] theorem Yard.updSoa_gdc (y : Yard) (f : Soa → Soa) : (y.updSoa f).gdc = y.gdc := rfl
@[simp] theorem Yard.updSoa_dgu (y : Yard) (f : Soa → Soa) : (y.updSoa f).dgu = y.dgu := rfl
@[simp] theorem Yard.updSoa_ylc (y : Yard) (f : Soa → Soa) : (y.updSoa f).ylc = y.ylc := rfl
@[simp] theorem Yard.updSoa_scs (y : Yard) (f : Soa → Soa) : (y.updSoa f).scs = y.scs := rfl
@[simp] theorem Yard.updSoa_qpr (y : Yard) (f : Soa → Soa) : (y.updSoa f).qpr = y.qpr := rfl
@[simp] theorem Yard.updSoa_soa (y : Yard) (f : Soa → Soa) : (y.updSoa f).soa = f y.soa := rfl
@[simp] theorem Yard.updSoa_notices (y : Yard) (f : Soa → Soa) : (y.updSoa f).notices = y.notices := rfl

/-! ### The updates of one record -/

@[simp] theorem Yard.updHolder_now (y : Yard) (h : Holder) (f : HolderDyn → HolderDyn) :
    (y.updHolder h f).now = y.now := rfl
@[simp] theorem Yard.updHolder_secondMark (y : Yard) (h : Holder) (f : HolderDyn → HolderDyn) :
    (y.updHolder h f).secondMark = y.secondMark := rfl
@[simp] theorem Yard.updHolder_tripPin (y : Yard) (h : Holder) (f : HolderDyn → HolderDyn) :
    (y.updHolder h f).tripPin = y.tripPin := rfl
@[simp] theorem Yard.updHolder_lineSpace (y : Yard) (h : Holder) (f : HolderDyn → HolderDyn) :
    (y.updHolder h f).lineSpace = y.lineSpace := rfl
@[simp] theorem Yard.updHolder_freeDraws (y : Yard) (h : Holder) (f : HolderDyn → HolderDyn) :
    (y.updHolder h f).freeDraws = y.freeDraws := rfl
@[simp] theorem Yard.updHolder_yds (y : Yard) (h : Holder) (f : HolderDyn → HolderDyn) :
    (y.updHolder h f).yds = y.yds := rfl
@[simp] theorem Yard.updHolder_hsu (y : Yard) (h : Holder) (f : HolderDyn → HolderDyn) :
    (y.updHolder h f).hsu = { y.hsu with holders := y.hsu.holders.set h (f (y.hsu.holders.get h)) } := rfl
@[simp] theorem Yard.updHolder_mvs (y : Yard) (h : Holder) (f : HolderDyn → HolderDyn) :
    (y.updHolder h f).mvs = y.mvs := rfl
@[simp] theorem Yard.updHolder_gdc (y : Yard) (h : Holder) (f : HolderDyn → HolderDyn) :
    (y.updHolder h f).gdc = y.gdc := rfl
@[simp] theorem Yard.updHolder_dgu (y : Yard) (h : Holder) (f : HolderDyn → HolderDyn) :
    (y.updHolder h f).dgu = y.dgu := rfl
@[simp] theorem Yard.updHolder_ylc (y : Yard) (h : Holder) (f : HolderDyn → HolderDyn) :
    (y.updHolder h f).ylc = y.ylc := rfl
@[simp] theorem Yard.updHolder_scs (y : Yard) (h : Holder) (f : HolderDyn → HolderDyn) :
    (y.updHolder h f).scs = y.scs := rfl
@[simp] theorem Yard.updHolder_qpr (y : Yard) (h : Holder) (f : HolderDyn → HolderDyn) :
    (y.updHolder h f).qpr = y.qpr := rfl
@[simp] theorem Yard.updHolder_soa (y : Yard) (h : Holder) (f : HolderDyn → HolderDyn) :
    (y.updHolder h f).soa = y.soa := rfl
@[simp] theorem Yard.updHolder_notices (y : Yard) (h : Holder) (f : HolderDyn → HolderDyn) :
    (y.updHolder h f).notices = y.notices := rfl

@[simp] theorem Yard.updDistrict_now (y : Yard) (d : District) (f : DistrictDyn → DistrictDyn) :
    (y.updDistrict d f).now = y.now := rfl
@[simp] theorem Yard.updDistrict_secondMark (y : Yard) (d : District) (f : DistrictDyn → DistrictDyn) :
    (y.updDistrict d f).secondMark = y.secondMark := rfl
@[simp] theorem Yard.updDistrict_tripPin (y : Yard) (d : District) (f : DistrictDyn → DistrictDyn) :
    (y.updDistrict d f).tripPin = y.tripPin := rfl
@[simp] theorem Yard.updDistrict_lineSpace (y : Yard) (d : District) (f : DistrictDyn → DistrictDyn) :
    (y.updDistrict d f).lineSpace = y.lineSpace := rfl
@[simp] theorem Yard.updDistrict_freeDraws (y : Yard) (d : District) (f : DistrictDyn → DistrictDyn) :
    (y.updDistrict d f).freeDraws = y.freeDraws := rfl
@[simp] theorem Yard.updDistrict_yds (y : Yard) (d : District) (f : DistrictDyn → DistrictDyn) :
    (y.updDistrict d f).yds = y.yds := rfl
@[simp] theorem Yard.updDistrict_hsu (y : Yard) (d : District) (f : DistrictDyn → DistrictDyn) :
    (y.updDistrict d f).hsu = y.hsu := rfl
@[simp] theorem Yard.updDistrict_mvs (y : Yard) (d : District) (f : DistrictDyn → DistrictDyn) :
    (y.updDistrict d f).mvs = y.mvs := rfl
@[simp] theorem Yard.updDistrict_gdc (y : Yard) (d : District) (f : DistrictDyn → DistrictDyn) :
    (y.updDistrict d f).gdc = y.gdc := rfl
@[simp] theorem Yard.updDistrict_dgu (y : Yard) (d : District) (f : DistrictDyn → DistrictDyn) :
    (y.updDistrict d f).dgu = { y.dgu with districts := y.dgu.districts.set d (f (y.dgu.districts.get d)) } := rfl
@[simp] theorem Yard.updDistrict_ylc (y : Yard) (d : District) (f : DistrictDyn → DistrictDyn) :
    (y.updDistrict d f).ylc = y.ylc := rfl
@[simp] theorem Yard.updDistrict_scs (y : Yard) (d : District) (f : DistrictDyn → DistrictDyn) :
    (y.updDistrict d f).scs = y.scs := rfl
@[simp] theorem Yard.updDistrict_qpr (y : Yard) (d : District) (f : DistrictDyn → DistrictDyn) :
    (y.updDistrict d f).qpr = y.qpr := rfl
@[simp] theorem Yard.updDistrict_soa (y : Yard) (d : District) (f : DistrictDyn → DistrictDyn) :
    (y.updDistrict d f).soa = y.soa := rfl
@[simp] theorem Yard.updDistrict_notices (y : Yard) (d : District) (f : DistrictDyn → DistrictDyn) :
    (y.updDistrict d f).notices = y.notices := rfl

@[simp] theorem Yard.updRec_now (y : Yard) (q : Slot) (f : QRec → QRec) :
    (y.updRec q f).now = y.now := rfl
@[simp] theorem Yard.updRec_secondMark (y : Yard) (q : Slot) (f : QRec → QRec) :
    (y.updRec q f).secondMark = y.secondMark := rfl
@[simp] theorem Yard.updRec_tripPin (y : Yard) (q : Slot) (f : QRec → QRec) :
    (y.updRec q f).tripPin = y.tripPin := rfl
@[simp] theorem Yard.updRec_lineSpace (y : Yard) (q : Slot) (f : QRec → QRec) :
    (y.updRec q f).lineSpace = y.lineSpace := rfl
@[simp] theorem Yard.updRec_freeDraws (y : Yard) (q : Slot) (f : QRec → QRec) :
    (y.updRec q f).freeDraws = y.freeDraws := rfl
@[simp] theorem Yard.updRec_yds (y : Yard) (q : Slot) (f : QRec → QRec) :
    (y.updRec q f).yds = y.yds := rfl
@[simp] theorem Yard.updRec_hsu (y : Yard) (q : Slot) (f : QRec → QRec) :
    (y.updRec q f).hsu = y.hsu := rfl
@[simp] theorem Yard.updRec_mvs (y : Yard) (q : Slot) (f : QRec → QRec) :
    (y.updRec q f).mvs = y.mvs := rfl
@[simp] theorem Yard.updRec_gdc (y : Yard) (q : Slot) (f : QRec → QRec) :
    (y.updRec q f).gdc = y.gdc := rfl
@[simp] theorem Yard.updRec_dgu (y : Yard) (q : Slot) (f : QRec → QRec) :
    (y.updRec q f).dgu = y.dgu := rfl
@[simp] theorem Yard.updRec_ylc (y : Yard) (q : Slot) (f : QRec → QRec) :
    (y.updRec q f).ylc = y.ylc := rfl
@[simp] theorem Yard.updRec_scs (y : Yard) (q : Slot) (f : QRec → QRec) :
    (y.updRec q f).scs = y.scs := rfl
@[simp] theorem Yard.updRec_qpr (y : Yard) (q : Slot) (f : QRec → QRec) :
    (y.updRec q f).qpr = { y.qpr with recs := y.qpr.recs.set q (f (y.qpr.recs.get q)) } := rfl
@[simp] theorem Yard.updRec_soa (y : Yard) (q : Slot) (f : QRec → QRec) :
    (y.updRec q f).soa = y.soa := rfl
@[simp] theorem Yard.updRec_notices (y : Yard) (q : Slot) (f : QRec → QRec) :
    (y.updRec q f).notices = y.notices := rfl

/-! ### The time base and the notices -/

@[simp] theorem Yard.reach_now (y : Yard) (t : Time) : (y.reach t).now = max y.now t := rfl
@[simp] theorem Yard.reach_secondMark (y : Yard) (t : Time) : (y.reach t).secondMark = y.secondMark := rfl
@[simp] theorem Yard.reach_tripPin (y : Yard) (t : Time) : (y.reach t).tripPin = y.tripPin := rfl
@[simp] theorem Yard.reach_lineSpace (y : Yard) (t : Time) : (y.reach t).lineSpace = y.lineSpace := rfl
@[simp] theorem Yard.reach_freeDraws (y : Yard) (t : Time) : (y.reach t).freeDraws = y.freeDraws := rfl
@[simp] theorem Yard.reach_yds (y : Yard) (t : Time) : (y.reach t).yds = y.yds := rfl
@[simp] theorem Yard.reach_hsu (y : Yard) (t : Time) : (y.reach t).hsu = y.hsu := rfl
@[simp] theorem Yard.reach_mvs (y : Yard) (t : Time) : (y.reach t).mvs = y.mvs := rfl
@[simp] theorem Yard.reach_gdc (y : Yard) (t : Time) : (y.reach t).gdc = y.gdc := rfl
@[simp] theorem Yard.reach_dgu (y : Yard) (t : Time) : (y.reach t).dgu = y.dgu := rfl
@[simp] theorem Yard.reach_ylc (y : Yard) (t : Time) : (y.reach t).ylc = y.ylc := rfl
@[simp] theorem Yard.reach_scs (y : Yard) (t : Time) : (y.reach t).scs = y.scs := rfl
@[simp] theorem Yard.reach_qpr (y : Yard) (t : Time) : (y.reach t).qpr = y.qpr := rfl
@[simp] theorem Yard.reach_soa (y : Yard) (t : Time) : (y.reach t).soa = y.soa := rfl
@[simp] theorem Yard.reach_notices (y : Yard) (t : Time) : (y.reach t).notices = y.notices := rfl

@[simp] theorem raiseNotice_now (k : NoticeKind) (o : Nat) (v : Int) (y : Yard) :
    (raiseNotice k o v y).now = y.now := rfl
@[simp] theorem raiseNotice_secondMark (k : NoticeKind) (o : Nat) (v : Int) (y : Yard) :
    (raiseNotice k o v y).secondMark = y.secondMark := rfl
@[simp] theorem raiseNotice_tripPin (k : NoticeKind) (o : Nat) (v : Int) (y : Yard) :
    (raiseNotice k o v y).tripPin = y.tripPin := rfl
@[simp] theorem raiseNotice_lineSpace (k : NoticeKind) (o : Nat) (v : Int) (y : Yard) :
    (raiseNotice k o v y).lineSpace = y.lineSpace := rfl
@[simp] theorem raiseNotice_freeDraws (k : NoticeKind) (o : Nat) (v : Int) (y : Yard) :
    (raiseNotice k o v y).freeDraws = y.freeDraws := rfl
@[simp] theorem raiseNotice_yds (k : NoticeKind) (o : Nat) (v : Int) (y : Yard) :
    (raiseNotice k o v y).yds = y.yds := rfl
@[simp] theorem raiseNotice_hsu (k : NoticeKind) (o : Nat) (v : Int) (y : Yard) :
    (raiseNotice k o v y).hsu = y.hsu := rfl
@[simp] theorem raiseNotice_mvs (k : NoticeKind) (o : Nat) (v : Int) (y : Yard) :
    (raiseNotice k o v y).mvs = y.mvs := rfl
@[simp] theorem raiseNotice_gdc (k : NoticeKind) (o : Nat) (v : Int) (y : Yard) :
    (raiseNotice k o v y).gdc = y.gdc := rfl
@[simp] theorem raiseNotice_dgu (k : NoticeKind) (o : Nat) (v : Int) (y : Yard) :
    (raiseNotice k o v y).dgu = y.dgu := rfl
@[simp] theorem raiseNotice_ylc (k : NoticeKind) (o : Nat) (v : Int) (y : Yard) :
    (raiseNotice k o v y).ylc = y.ylc := rfl
@[simp] theorem raiseNotice_scs (k : NoticeKind) (o : Nat) (v : Int) (y : Yard) :
    (raiseNotice k o v y).scs = y.scs := rfl
@[simp] theorem raiseNotice_qpr (k : NoticeKind) (o : Nat) (v : Int) (y : Yard) :
    (raiseNotice k o v y).qpr = y.qpr := rfl
@[simp] theorem raiseNotice_soa (k : NoticeKind) (o : Nat) (v : Int) (y : Yard) :
    (raiseNotice k o v y).soa = y.soa := rfl
@[simp] theorem raiseNotice_notices (k : NoticeKind) (o : Nat) (v : Int) (y : Yard) :
    (raiseNotice k o v y).notices = y.notices.raise k o v (y.gdc.clock.map (·.day)) (y.gdc.clock.map (·.period)) := rfl

/-! ### The valves of MVS -/

@[simp] theorem Mvs.setValve_unmanaged (m : Mvs) (v : Valve) (r : ValveRec) : (m.setValve v r).unmanaged = m.unmanaged := by
  unfold Mvs.setValve; split <;> rfl
@[simp] theorem Mvs.setValve_shutPending (m : Mvs) (v : Valve) (r : ValveRec) : (m.setValve v r).shutPending = m.shutPending := by
  unfold Mvs.setValve; split <;> rfl
@[simp] theorem Mvs.setValve_prevTravel (m : Mvs) (v : Valve) (r : ValveRec) : (m.setValve v r).prevTravel = m.prevTravel := by
  unfold Mvs.setValve; split <;> rfl
@[simp] theorem Mvs.setValve_orders (m : Mvs) (v : Valve) (r : ValveRec) : (m.setValve v r).orders = m.orders := by
  unfold Mvs.setValve; split <;> rfl
@[simp] theorem Mvs.setValve_coupled (m : Mvs) (v : Valve) (r : ValveRec) : (m.setValve v r).coupled = m.coupled := by
  unfold Mvs.setValve; split <;> rfl
@[simp] theorem Mvs.setValve_tripped (m : Mvs) (v : Valve) (r : ValveRec) : (m.setValve v r).tripped = m.tripped := by
  unfold Mvs.setValve; split <;> rfl
@[simp] theorem Mvs.setValve_tripCause (m : Mvs) (v : Valve) (r : ValveRec) : (m.setValve v r).tripCause = m.tripCause := by
  unfold Mvs.setValve; split <;> rfl
@[simp] theorem Mvs.setValve_watch (m : Mvs) (v : Valve) (r : ValveRec) : (m.setValve v r).watch = m.watch := by
  unfold Mvs.setValve; split <;> rfl

@[simp] theorem Mvs.valve_setValve (m : Mvs) (v : Valve) (r : ValveRec) : (m.setValve v r).valve v = r := by
  rcases v with ⟨h, s⟩; cases s <;> simp [Mvs.setValve, Mvs.valve]

theorem Mvs.valve_setValve_ne (m : Mvs) {v w : Valve} (r : ValveRec) (hw : w ≠ v) :
    (m.setValve v r).valve w = m.valve w := by
  rcases v with ⟨h, s⟩; rcases w with ⟨k, t⟩
  cases s <;> cases t <;> first
    | rfl
    | (simp only [Mvs.setValve, Mvs.valve]; exact Holders.get_set_ne _ _ fun e => hw (by rw [e]))

/-! ### The check word (R175) -/

@[simp] theorem State.resealed_yard (s : State) : s.resealed.yard = s.yard := by unfold State.resealed; split <;> rfl
@[simp] theorem State.resealed_link (s : State) : s.resealed.link = s.link := by unfold State.resealed; split <;> rfl
@[simp] theorem State.resealed_pending (s : State) : s.resealed.pending = s.pending := by
  unfold State.resealed; split <;> rfl
@[simp] theorem State.resealed_powered (s : State) : s.resealed.powered = s.powered := by
  unfold State.resealed; split <;> rfl

theorem State.resealed_checkWord {s : State} (h : s.powered = true) : s.resealed.checkWord = s.yard.storeCheck := by
  simp [State.resealed, h]

/-- Without power nothing is written. -/
theorem State.resealed_off {s : State} (h : s.powered = false) : s.resealed = s := by simp [State.resealed, h]

theorem concluded_eq_next {s t : State} : concluded s = .next t ↔ t = s.resealed := by
  simp [concluded, eq_comm]

end Sys2Proof.Machine
end

