-- ==== Sys2Proof/Laws/Ops.lean ====
section
/-! SUPPORT. What each shared operation can do, said once: the later proofs cite these lemmas and never unfold the
operations. -/

namespace Sys2Proof.Machine

/-! ### Arithmetic (00 section 4.2) -/

/-- Clamping is bringing in from both ends (R8). -/
theorem clampTo_eq {lo hi : Int} (h : lo ≤ hi) (v : Int) : clampTo lo hi v = min hi (max lo v) := by
  unfold clampTo; split <;> (try split) <;> omega

theorem clampTo_bounds {lo hi : Int} (h : lo ≤ hi) (v : Int) : lo ≤ clampTo lo hi v ∧ clampTo lo hi v ≤ hi := by
  unfold clampTo; split <;> (try split) <;> omega

theorem inRange_iff {lo hi v : Int} : inRange lo hi v = true ↔ lo ≤ v ∧ v ≤ hi := by simp [inRange]

theorem saturate_le {limit n : Nat} (h : n ≤ limit) : saturate limit n ≤ limit := by
  unfold saturate; split <;> omega

theorem saturateBy_le (limit n k : Nat) : saturateBy limit n k ≤ limit := by unfold saturateBy; split <;> omega

/-- Rounding to the nearest integer, a half upward. -/
theorem roundDiv_spec {a b : Int} (h : 0 < b) :
    2 * b * roundDiv a b ≤ 2 * a + b ∧ 2 * a + b < 2 * b * roundDiv a b + 2 * b := by
  unfold roundDiv
  have h1 := Int.mul_ediv_self_le (x := 2 * a + b) (k := 2 * b) (by omega)
  have h2 := Int.lt_mul_ediv_self_add (x := 2 * a + b) (k := 2 * b) (by omega)
  exact ⟨h1, h2⟩

/-! ### Bytes (R173) -/

@[simp] theorem leBytes_length (k n : Nat) : (leBytes k n).length = k := by
  induction k generalizing n with
  | zero => rfl
  | succ k ih => simp [leBytes, ih]

@[simp] theorem signedBytes_length (k : Nat) (v : Int) : (signedBytes k v).length = k := by simp [signedBytes]

@[simp] theorem crcBytes_length (bs : List Byte) : (crcBytes bs).length = 2 := by simp [crcBytes]

theorem ofLe_lt (bs : List Byte) : ofLe bs < 256 ^ bs.length := by
  induction bs with
  | nil => simp [ofLe]
  | cons b bs ih =>
    have := b.isLt
    simp only [ofLe, List.length_cons, pow_succ]
    omega

/-! ### Names and numbers (R173) -/

@[simp] theorem holderOf_number (h : Holder) : holderOf h.number = some h := by cases h <;> rfl

@[simp] theorem districtOf_number (d : District) : districtOf d.number = some d := by cases d <;> rfl

@[simp] theorem slotOf_code (q : Slot) : slotOf q.code = some q := by
  cases q <;> first | rfl | (rename_i x; cases x <;> rfl)

theorem Holder.mem_list (h : Holder) : h ∈ Holder.list := by cases h <;> decide

theorem District.mem_list (d : District) : d ∈ District.list := by cases d <;> decide

theorem isCommitted_of {y : Yard} (h : y.yds.desc = .committed) : y.isCommitted = true := by simp [Yard.isCommitted, h]

theorem not_isCommitted_of {y : Yard} (h : y.yds.desc = .opened) : y.isCommitted = false := by
  simp [Yard.isCommitted, h]

theorem presentHolder_some {d : Yds} {h : Holder} (e : d.holders.get h ≠ none) : d.presentHolder h.number = some h := by
  simp [Yds.presentHolder, Yds.holderPresent, Option.isSome_iff_ne_none, e]

theorem presentHolder_none {d : Yds} {h : Holder} (e : d.holders.get h = none) : d.presentHolder h.number = none := by
  simp [Yds.presentHolder, Yds.holderPresent, e]

theorem presentDistrict_some {d : Yds} {x : District} (e : d.districts.get x ≠ none) :
    d.presentDistrict x.number = some x := by
  simp [Yds.presentDistrict, Yds.districtPresent, Option.isSome_iff_ne_none, e]

theorem presentDistrict_none {d : Yds} {x : District} (e : d.districts.get x = none) :
    d.presentDistrict x.number = none := by
  simp [Yds.presentDistrict, Yds.districtPresent, e]

/-! ### Notices (R168) -/

/-- A notice raised is merged into one of its kind and object, appended, or lost: nothing else can come of it. -/
theorem Notices.raise_cases (q : Notices) (k : NoticeKind) (o : Nat) (v : Int) (day period : Option Nat) :
    ((∃ n ∈ q.queue, n.isFor k o = true) ∧
      q.raise k o v day period = ⟨q.queue.map fun n => if n.isFor k o then n.merge v else n, q.lost⟩) ∨
    ((∀ n ∈ q.queue, n.isFor k o = false) ∧ q.queue.length < 32 ∧
      q.raise k o v day period = ⟨q.queue ++ [⟨k, o, day, period, v, 1⟩], q.lost⟩) ∨
    ((∀ n ∈ q.queue, n.isFor k o = false) ∧ 32 ≤ q.queue.length ∧
      q.raise k o v day period = ⟨q.queue, saturate 65535 q.lost⟩) := by
  unfold Notices.raise
  split
  · next h => exact .inl ⟨by simpa using h, rfl⟩
  · next h =>
    have h : ∀ n ∈ q.queue, n.isFor k o = false := by simpa using h
    split
    · next l => exact .inr (.inl ⟨h, l, rfl⟩)
    · next l => exact .inr (.inr ⟨h, by omega, rfl⟩)

/-! ### The command list (R128) -/

/-- A command put replaces the one pending for its point, is appended, or finds the list full. -/
theorem putInto_cases (cs : List Command) (p : Point) (code : CmdCode) (v : Int) (w : Owner) :
    ((∃ c ∈ cs, c.isFor p = true) ∧
      putInto cs p code v w = (cs.map fun c => if c.isFor p then c.replaceBy code v w else c, true)) ∨
    ((∀ c ∈ cs, c.isFor p = false) ∧ cs.length < 32 ∧
      putInto cs p code v w = (cs ++ [⟨p.outstation, p.channel, code, v, w, 0, false, false⟩], true)) ∨
    ((∀ c ∈ cs, c.isFor p = false) ∧ 32 ≤ cs.length ∧ putInto cs p code v w = (cs, false)) := by
  unfold putInto
  split
  · next h => exact .inl ⟨by simpa using h, rfl⟩
  · next h =>
    have h : ∀ c ∈ cs, c.isFor p = false := by simpa using h
    split
    · next l => exact .inr (.inl ⟨h, l, rfl⟩)
    · next l => exact .inr (.inr ⟨h, by omega, rfl⟩)

/-- Putting a command changes the command list of SCS alone. -/
theorem putCommand_eq (p : Point) (code : CmdCode) (v : Int) (w : Owner) (y : Yard) :
    putCommand p code v w y =
      ({ y with scs := { y.scs with commands := (putInto y.scs.commands p code v w).1 } },
        (putInto y.scs.commands p code v w).2) := rfl

/-! ### The order list (R39) -/

theorem Mvs.updOrder_frame (m : Mvs) (n : Nat) (f : Order → Order) :
    m.updOrder n f = { m with orders := (m.updOrder n f).orders } := rfl

theorem Mvs.dropOrder_frame (m : Mvs) (n : Nat) :
    m.dropOrder n = { m with orders := (m.dropOrder n).orders } := rfl

/-! ### The order a valve belongs to (R34, R37) -/

theorem orderOfValve_bound {y : Yard} {v : Valve} (h : y.yds.bind.valve v ≠ none) :
    orderOfValve y v = y.mvs.activeOrder v.holder := by
  simp [orderOfValve, Option.isSome_iff_ne_none, h]

theorem orderOfValve_unbound {y : Yard} {v : Valve} (h : y.yds.bind.valve v = none) : orderOfValve y v = none := by
  simp [orderOfValve, h]

theorem orderOfValve_none {y : Yard} {v : Valve} :
    orderOfValve y v = none ↔ y.mvs.activeOrder v.holder = none ∨ y.yds.bind.valve v = none := by
  by_cases h : y.yds.bind.valve v = none
  · simp [orderOfValve_unbound h, h]
  · simp [orderOfValve_bound h, h]

/-- A failed valve of no active order leaves its holder UNMANAGED; of an order that closes, the order is abandoned; any other
order that it belongs to closes: nothing else can come of it. -/
theorem valveFails_cases (v : Valve) (y : Yard) :
    let z := setTimer v .idle y
    (orderOfValve z v = none ∧
      valveFails v y = (raiseStuck v (setShutPending [v.holder] false (setUnmanaged [v.holder] true z)), [])) ∨
    ∃ o, orderOfValve z v = some o ∧
      ((o.state = .closing ∧ valveFails v y =
          (raiseStuck v (setUnmanaged (z.mvs.worked o.holder) true (raiseEnded o .valveStuck (z.updMvs (·.dropOrder o.number)))),
            [.activate o.holder])) ∨
        (o.state ≠ .closing ∧ valveFails v y = closeOrder o.number .valveStuck z)) := by
  intro z
  have e : valveFails v y = match orderOfValve z v with
    | some o => if o.state == .closing then
        (raiseStuck v (setUnmanaged (z.mvs.worked o.holder) true (raiseEnded o .valveStuck (z.updMvs (·.dropOrder o.number)))),
          [.activate o.holder])
      else closeOrder o.number .valveStuck z
    | none => (raiseStuck v (setShutPending [v.holder] false (setUnmanaged [v.holder] true z)), []) := rfl
  cases h : orderOfValve z v with
  | none => exact .inl ⟨rfl, by rw [e, h]⟩
  | some o =>
    refine .inr ⟨o, rfl, ?_⟩
    by_cases c : o.state = .closing
    · exact .inl ⟨c, by rw [e, h]; simp [c]⟩
    · exact .inr ⟨c, by rw [e, h]; simp [c]⟩

/-! ### Deeds (log 13) -/

@[simp] theorem workN_nil (n : Nat) (y : Yard) : workN n [] y = y := by cases n <;> rfl

/-- One round, and what follows from it. -/
theorem workN_succ (n : Nat) (ds : List Deed) (y : Yard) :
    workN (n + 1) ds y = workN n (doAll ds y).2 (doAll ds y).1 := by
  cases ds <;> simp [workN, doAll]

/-- The first round of the work is done whole. -/
theorem work_eq (ds : List Deed) (y : Yard) : work ds y = workN 1999 (doAll ds y).2 (doAll ds y).1 := workN_succ 1999 ds y

/-- What every deed keeps, a round keeps. -/
theorem doAll_keeps {P : Yard → Prop} (h : ∀ d y, P y → P (deed d y).1) (ds : List Deed) {y : Yard} (hy : P y) :
    P (doAll ds y).1 := by
  induction ds generalizing y with
  | nil => exact hy
  | cons d ds ih => exact ih (h d y hy)

@[simp] theorem work_nil (y : Yard) : work [] y = y := rfl

/-- What every deed keeps, the work keeps: the one induction over the work. -/
theorem work_keeps {P : Yard → Prop} (h : ∀ d y, P y → P (deed d y).1) (ds : List Deed) {y : Yard} (hy : P y) :
    P (work ds y) := by
  suffices ∀ (n : Nat) (ds : List Deed) (y : Yard), P y → P (workN n ds y) from this 2000 ds y hy
  intro n
  induction n with
  | zero => intro ds y hy; exact hy
  | succ n ih =>
    intro ds y hy
    cases ds with
    | nil => exact hy
    | cons d ds => exact ih _ _ (doAll_keeps h _ hy)

/-- Commanding valves in turn keeps what commanding each keeps. -/
theorem commandAll_keeps {P : Yard → Prop} {p : Commanded} (h : ∀ v y, P y → P (commandValve v p y).1) (vs : List Valve)
    {y : Yard} (hy : P y) : P (commandAll p vs y).1 := by
  induction vs generalizing y with
  | nil => exact hy
  | cons v vs ih => exact ih (h v y hy)

/-! ### Readings and stocks (R23, R24, R29) -/

/-- A holder is worked with the holder whose orders work it (R57). -/
theorem Mvs.mem_worked (m : Mvs) (h : Holder) : h ∈ m.worked (m.orderHolder h) := by
  have hp : ∀ h : Holder, h.leads = false → h.partner.leads = true ∧ h.partner.partner = h ∧ h.partner.pair = h.pair := by
    intro h; cases h <;> decide
  unfold Mvs.worked Mvs.orderHolder
  by_cases c : m.isCoupled h = true
  · by_cases l : h.leads = true
    · simp [c, l]
    · have l : h.leads = false := by simpa using l
      obtain ⟨p1, p2, p3⟩ := hp h l
      have c' : m.isCoupled h.partner = true := by unfold Mvs.isCoupled at *; rw [p3]; exact c
      simp [c, l, p1, p2, c']
  · simp [c]

/-- With a travel none no order of the holder activates (R42). -/
theorem tryActivate_lost {y : Yard} {h : Holder} (ht : (y.hsu.holders.get h).travel = none) :
    tryActivate h y = (y, []) := by
  have e : ((y.mvs.worked (y.mvs.orderHolder h)).all fun x => (travelOf y x).isSome) = false := by
    rw [List.all_eq_false]
    exact ⟨h, Mvs.mem_worked _ _, by simp [travelOf, ht]⟩
  unfold tryActivate
  simp [e]

/-- A reading whose travel is none meets no WHEN (R41). -/
theorem whenMet_lost (h : Holder) (o : Order) : whenMet h none o = false := by
  unfold whenMet
  cases o.start <;> simp

/-- A reading whose travel is none, no order that works the holder being OPENING or RUNNING, leaves the previous travel none and
changes nothing else (R29, R45, R48). -/
theorem mvsReading_lost {y : Yard} {h : Holder} (ht : (y.hsu.holders.get h).travel = none)
    (hr : ∀ o, y.mvs.activeOrder h = some o → o.state = .closing) :
    mvsReading h y = { y with mvs := { y.mvs with prevTravel := y.mvs.prevTravel.set h none } } := by
  have t : travelOf y h = none := by simp [travelOf, ht]
  have o1 : overTop h y = y := by unfold overTop; simp [t]
  have w1 : whenReading h y = y := by
    unfold whenReading
    rw [t]
    have f : (y.mvs.orders.filter (whenMet h none)) = [] := by simp [whenMet_lost]
    have m : (y.mvs.orders.map fun o => if whenMet h none o = true then { o with eligible := true } else o) = y.mvs.orders := by
      simp [whenMet_lost]
    dsimp only [Yard.updMvs]
    rw [f, m, work_eq]
    have : doAll ([] ++ [Deed.activate h]) y = ((tryActivate h y).1, (tryActivate h y).2 ++ []) := rfl
    simp only [List.map_nil]
    rw [show ({ y with mvs := { y.mvs with orders := y.mvs.orders } } : Yard) = y from rfl, this, tryActivate_lost ht]
    simp
  unfold mvsReading
  cases a : y.mvs.activeOrder h with
  | none => dsimp only; rw [o1, w1, t]; rfl
  | some o => simp [hr o a]; rw [o1, w1, t]; rfl

/-- HSU forms the stock of a holder: a computation is handed, or the standing assessment made; while OPEN, or of a holder not
present, nothing happens. -/
theorem formStock_cases (h : Holder) (y : Yard) :
    ((y.yds.desc = .committed ∧ y.yds.holderPresent h = true) ∧
      ((∃ j, liveJob y h = some j ∧ formStock h y = { y with hsu := { y.hsu with stockJobs := y.hsu.stockJobs ++ [j] } }) ∨
        (liveJob y h = none ∧ formStock h y = assess h y))) ∨
    (¬(y.yds.desc = .committed ∧ y.yds.holderPresent h = true) ∧ formStock h y = y) := by
  by_cases c : y.yds.desc = .committed ∧ y.yds.holderPresent h = true
  · refine .inl ⟨c, ?_⟩
    cases j : liveJob y h with
    | none => exact .inr ⟨rfl, by simp [formStock, Yard.isCommitted, c, j]⟩
    | some x => exact .inl ⟨x, rfl, by simp [formStock, Yard.isCommitted, c, j, Yard.updHsu]⟩
  · refine .inr ⟨c, ?_⟩
    rcases not_and_or.1 c with c | c <;> simp [formStock, Yard.isCommitted, c]

/-! ### The yard line (R98, R99, R112) -/

/-- Handing an exchange touches YLC alone (R98). -/
theorem handExchange_frame (e : Exchange) (y : Yard) :
    handExchange e y = { y with ylc := (handExchange e y).ylc } := by
  unfold handExchange takeExchange; split <;> cases e <;> rfl

/-- An exchange handed is taken from IDLE, and waits in every other state (R98). -/
theorem handExchange_waits {e : Exchange} {y : Yard} (h : y.ylc.line ≠ .idle) :
    handExchange e y = { y with ylc := { y.ylc with waiting := y.ylc.waiting ++ [e] } } := by
  simp [handExchange, h, Yard.updYlc]

theorem handExchange_takes {e : Exchange} {y : Yard} (h : y.ylc.line = .idle) :
    handExchange e y = takeExchange e y := by
  simp [handExchange, h]

theorem takeExchange_frame (e : Exchange) (y : Yard) :
    takeExchange e y = { y with ylc := (takeExchange e y).ylc } := by
  cases e <;> rfl

theorem takeWaiting_frame (y : Yard) : takeWaiting y = { y with ylc := (takeWaiting y).ylc } := by
  unfold takeWaiting
  split
  · next e es _ => cases e <;> rfl
  · rfl

theorem longFrom_frame (moment : Time) (y : Yard) :
    longFrom moment y = { y with ylc := (longFrom moment y).ylc } := rfl

theorem beginLong_frame (y : Yard) : beginLong y = { y with ylc := (beginLong y).ylc } := rfl

/-- The end of the guard touches YLC alone (R98). -/
theorem settle_frame (y : Yard) : settle y = { y with ylc := (settle y).ylc } := by
  unfold settle
  split
  · dsimp only
    split
    · rfl
    · rw [takeWaiting_frame]; rfl
  · rfl

theorem release_frame (y : Yard) : release y = { y with ylc := (release y).ylc } := rfl

theorem breakOff_frame (o : ExOutcome) (y : Yard) : breakOff o y = { y with ylc := (breakOff o y).ylc } := rfl

/-- Asking for the long break of LINE RESET touches YLC alone (R112). -/
theorem askLong_frame (y : Yard) : askLong y = { y with ylc := (askLong y).ylc } := by
  unfold askLong
  dsimp only
  split
  · rfl
  · split <;> rfl
  · rw [settle_frame]; rfl
  all_goals rfl

/-! ### The roster (R117) -/

/-- The entry at an address bears it. -/
theorem Scs.entryAt_address {u : Scs} {a : Nat} {e : Entry} (h : u.entryAt a = some e) : e.address = a := by
  simpa using List.find?_some h

/-- An update of one entry that keeps its address is seen at that address alone. -/
theorem Scs.entryAt_updEntry {u : Scs} {a : Nat} {e : Entry} (f : Entry → Entry) (hf : ∀ x, (f x).address = x.address)
    (h : u.entryAt a = some e) : (u.updEntry a f).entryAt a = some (f e) := by
  have key : ∀ l : List Entry, l.find? (·.address == a) = some e →
      (l.map fun x => if x.address == a then f x else x).find? (·.address == a) = some (f e) := by
    intro l
    induction l with
    | nil => simp
    | cons x xs ih =>
      intro hx
      by_cases hxa : x.address = a
      · simp only [List.find?_cons, hxa, beq_self_eq_true, Option.some.injEq] at hx
        subst hx
        simp [hxa, hf]
      · have hx' : xs.find? (·.address == a) = some e := by simpa [List.find?_cons, hxa] using hx
        simpa [List.find?_cons, hxa] using ih hx'
  simpa [Scs.entryAt, Scs.updEntry] using key u.roster (by simpa [Scs.entryAt] using h)

/-- The update of an entry touches the roster alone. -/
theorem updEntryDyn_frame (a : Nat) (f : EntryDyn → EntryDyn) (y : Yard) :
    updEntryDyn a f y = { y with scs := { y.scs with roster := (updEntryDyn a f y).scs.roster } } := rfl

end Sys2Proof.Machine
end

