-- ==== Sys2Proof/Laws/Requests.lean ====
section
/-! SUPPORT. What taking a request does, said once (R162, R164, R166, R167): the later proofs cite these lemmas and never
unfold takeRequest, plain, operational, query or takeQualifier. -/

namespace Sys2Proof.Machine

theorem find_untaken_front {before after : List Request} {r : Request} (hb : ∀ b ∈ before, b.taken = true)
    (hr : r.taken = false) : (before ++ r :: after).find? (fun r => !r.taken) = some r := by
  induction before with
  | nil => simp [hr]
  | cons b bs ih =>
    have h := hb b (by simp)
    simpa [List.find?, h] using ih fun x hx => hb x (by simp [hx])

theorem markTaken_front {before after : List Request} {r : Request} (hb : ∀ b ∈ before, b.taken = true)
    (hr : r.taken = false) : markTaken (before ++ r :: after) = before ++ { r with taken := true } :: after := by
  induction before with
  | nil => simp [markTaken, hr]
  | cons b bs ih =>
    have h := hb b (by simp)
    simpa [markTaken, h] using ih fun x hx => hb x (by simp [hx])

/-- The request at the front is the one the link takes (R164). -/
theorem claim_front {s : State} {r : Request} {before after : List Request} (h : Front s r before after) :
    s.link.claim r.kind r.tag r.payload = some { s.link with queue := before ++ { r with taken := true } :: after } := by
  simp [Link.claim, h.queue, find_untaken_front h.earlier h.untaken, markTaken_front h.earlier h.untaken]

variable {s : State} {kind tag : Byte} {p : List Byte} {before after : List Request}

/-- A request at the front whose form is good is answered as its owner decides (R164, R167). -/
theorem takeRequest_ok {fs : List Field} (h : Front s ⟨kind, tag, p, false⟩ before after) (isOrder : Bool)
    (asks : Option ResetAsk) (owner : RequestWork) :
    takeRequest kind tag p (.ok fs) isOrder asks owner s =
      { s with
        yard := (owner s.link.staging { s.link with queue := before ++ ⟨kind, tag, p, true⟩ :: after } fs s.yard).1
        link := { s.link with
          queue := before ++ ⟨kind, tag, p, true⟩ :: after
          staging := []
          answers := s.link.answers ++
            [⟨kind, tag, (owner s.link.staging { s.link with queue := before ++ ⟨kind, tag, p, true⟩ :: after } fs s.yard).2,
              !isOrder && !s.link.staging.isEmpty, true, asks⟩] } } := by
  simp [takeRequest, h.on, claim_front h]

/-- A request at the front whose form is bad is refused BAD FORM with the field at fault (R162, R165). -/
theorem takeRequest_bad {n : Nat} (h : Front s ⟨kind, tag, p, false⟩ before after) (isOrder : Bool)
    (asks : Option ResetAsk) (owner : RequestWork) :
    takeRequest kind tag p (.bad n) isOrder asks owner s =
      { s with
        link := { s.link with
          queue := before ++ ⟨kind, tag, p, true⟩ :: after
          staging := []
          answers := s.link.answers ++
            [⟨kind, tag, .refuse .badForm [.u8 n], !isOrder && !s.link.staging.isEmpty, true, none⟩] } } := by
  simp [takeRequest, h.on, claim_front h]

/-- A request whose owner needs its fields and the yard alone (R164). -/
theorem plain_ok {form : List Byte → Form} {work : List Field → Yard → Yard × Decision} {fs : List Field}
    (h : Front s ⟨kind, tag, p, false⟩ before after) (hf : form p = .ok fs) :
    plain kind form work tag p s =
      s.answered ⟨kind, tag, p, false⟩ before after (work fs s.yard).1 (work fs s.yard).2 := by
  simp [plain, hf, takeRequest_ok h, State.answered]

theorem plain_bad {form : List Byte → Form} {work : List Field → Yard → Yard × Decision} {n : Nat}
    (h : Front s ⟨kind, tag, p, false⟩ before after) (hf : form p = .bad n) :
    plain kind form work tag p s =
      s.answered ⟨kind, tag, p, false⟩ before after s.yard (.refuse .badForm [.u8 n]) := by
  simp [plain, hf, takeRequest_bad h, State.answered]

/-- An operational request while the description is COMMITTED (R12). -/
theorem operational_ok {form : List Byte → Form} {work : List Field → Yard → Yard × Decision} {fs : List Field}
    (h : Front s ⟨kind, tag, p, false⟩ before after) (hf : form p = .ok fs) (hc : s.yard.yds.desc = .committed) :
    operational kind form work tag p s =
      s.answered ⟨kind, tag, p, false⟩ before after (work fs s.yard).1 (work fs s.yard).2 := by
  simp [operational, plain_ok h hf, Yard.isCommitted, hc]

/-- A query leaves the yard (R171). -/
theorem query_ok {form : List Byte → Form} {data : List Field → Yard → Decision} {fs : List Field}
    (h : Front s ⟨kind, tag, p, false⟩ before after) (hf : form p = .ok fs) :
    query kind form data tag p s = s.answered ⟨kind, tag, p, false⟩ before after s.yard (data fs s.yard) := by
  simp [query, plain_ok h hf]

/-- A WHEN or UNTIL at the front while the description is COMMITTED (R166). -/
theorem takeQualifier_ok {read : List Field → Qualifier} {fs : List Field}
    (h : Front s ⟨kind, tag, p, false⟩ before after) (hc : s.yard.yds.desc = .committed) :
    takeQualifier kind tag p (.ok fs) read s =
      s.staged ⟨kind, tag, p, false⟩ before after (stage (read fs) s.link.staging).1
        (.answer (stage (read fs) s.link.staging).2 []) := by
  simp [takeQualifier, h.on, claim_front h, Yard.isCommitted, hc, State.staged]

/-- A request given to the front of the link while it holds none that waits, and has a place, is taken at once (log 6). -/
theorem claim_arriving {l : Link} (h : ∀ b ∈ l.queue, b.taken = true) (hl : l.queue.length < 4) :
    l.claim kind tag p = some { l with queue := l.queue ++ [⟨kind, tag, p, true⟩] } := by
  have hn : l.queue.find? (fun r => !r.taken) = none := by
    simpa [List.find?_eq_none] using h
  simp [Link.claim, hn, hl]

end Sys2Proof.Machine
end

