-- ==== Sys2Proof/Laws/Store.lean ====
section
/-! SUPPORT. The check word of the machine after a cold start (R175), worked once: the later proofs cite it and never work
the check over the store. -/

namespace Sys2Proof.Machine

/-- The check of a list of bytes with the register brought to a numeral after each of them, which the kernel then works in
as many short steps as there are bytes. -/
def crcForced : List Byte → Check → Check
  | [], r => r
  | b :: bs, r =>
    match (crcByte r b).toNat with
    | 0 => crcForced bs 0#16
    | n + 1 => crcForced bs (BitVec.ofNat 16 (n + 1))

theorem crcForced_eq (bs : List Byte) (r : Check) : crcForced bs r = bs.foldl crcByte r := by
  induction bs generalizing r with
  | nil => rfl
  | cons b bs ih =>
    simp only [crcForced, List.foldl_cons]
    split <;> (rename_i h; rw [ih]; congr 1; apply BitVec.eq_of_toNat_eq; simp [h]; try omega)

theorem cold_store_forced : crcForced (Yard.cold false false).store 0xFFFF#16 = 0xAD1F#16 := by decide +kernel

/-- The check word over the store of a cold start, in the layout of log 4. -/
theorem cold_storeCheck : (Yard.cold false false).storeCheck = 0xAD1F#16 := by
  rw [← cold_store_forced, crcForced_eq]; rfl

/-- The machine after a cold start holds the check of its own store. -/
theorem reset_checkWord : State.reset.checkWord = State.reset.yard.storeCheck := cold_storeCheck.symm

end Sys2Proof.Machine
end

