-- ==== Sys2Proof/Tests/Slice0.lean ====
section
/-! SUPPORT. Small tests of the model on the manual's worked examples and tables, an ill-formed term for each check of
WellFormed, and for every obligation that has hypotheses a state and operands that meet them (witness_<Name>). -/

namespace Sys2Proof.Tests

open Sys2Proof Sys2Proof.Machine

/-! ### Sample states -/

/-- The yard after a cold start. -/
def cold : Yard := State.reset.yard

/-- The next state of a command. -/
def after (c : Instr) (s : State) : State :=
  match exec c s with
  | .next t => t
  | .fault _ => s
  | .refused _ => s

/-- The machine with a yard. -/
def on (y : Yard) : State := { State.reset with yard := y }

/-- A request that waits at the link over a yard. -/
def asked (kind : Byte) (p : List Byte) (y : Yard) : State :=
  { on y with link := { State.reset.link with queue := [⟨kind, 0#8, p, false⟩] } }

def committed (y : Yard) : Yard := { y with yds := { y.yds with desc := .committed } }

/-- H1 of the manual (1.2.2). -/
def recH1 : HolderRec := ⟨3, 400, 300, 200, ⟨some ⟨80000, 7000, 1250⟩, some ⟨86000, 7000, 500⟩, some ⟨92000, 7000, 450⟩, none⟩⟩

/-- A yard with H1 and H2 described, and D1 with a booster, while OPEN. -/
def yard : Yard :=
  { cold with yds := { cold.yds with
    holders := (cold.yds.holders.set .h1 (some recH1)).set .h2 (some recH1)
    districts := cold.yds.districts.set .d1 (some ⟨true, 600, 2000, 1000⟩) } }

/-- The same COMMITTED, with the geometry of both holders and their valves bound. -/
def ready : Yard :=
  { yard with yds := { yard.yds with
    desc := .committed
    geometry := (cold.yds.geometry.set .h1 (some (geometryOf recH1))).set .h2 (some (geometryOf recH1))
    bind := { cold.yds.bind with
      inlet := (cold.yds.bind.inlet.set .h1 (some ⟨3, 0⟩)).set .h2 (some ⟨3, 2⟩)
      outlet := (cold.yds.bind.outlet.set .h1 (some ⟨3, 1⟩)).set .h2 (some ⟨3, 3⟩)
      booster := cold.yds.bind.booster.set .d1 (some ⟨7, 1⟩) } } }

def clockAt (day weekday period second : Nat) (y : Yard) : Yard :=
  { y with gdc := { y.gdc with clock := some ⟨day, weekday, period, second, .working, false⟩ } }

/-- What a request holds at the link: the premises of Gives. -/
def Stands (kind : Byte) (form : List Byte → Form) (fs : List Field) (y : Yard) : Prop :=
  ∃ (s : State) (tag : Byte) (p : List Byte) (before behind : List Request),
    s.yard = y ∧ Front s ⟨kind, tag, p, false⟩ before behind ∧ form p = .ok fs

theorem stands {kind : Byte} {form : List Byte → Form} {fs : List Field} {y : Yard} (p : List Byte)
    (h : form p = .ok fs) : Stands kind form fs y :=
  ⟨asked kind p y, 0#8, p, [], [], rfl, ⟨rfl, rfl, rfl, by simp⟩, h⟩

/-- The premises of GivesOrder. -/
def StandsOrder (kind : Byte) (fs : List Field) (staged : List Qualifier) (y : Yard) : Prop :=
  ∃ (s : State) (tag : Byte) (p : List Byte) (before behind : List Request),
    s.yard = y ∧ s.link.staging = staged ∧ Front s ⟨kind, tag, p, false⟩ before behind ∧ formOf layOrder p = .ok fs

theorem standsOrder {kind : Byte} {fs : List Field} {staged : List Qualifier} {y : Yard} (p : List Byte)
    (h : formOf layOrder p = .ok fs) : StandsOrder kind fs staged y :=
  ⟨{ asked kind p y with link := { (asked kind p y).link with staging := staged } }, 0#8, p, [], [], rfl, rfl,
    ⟨rfl, rfl, rfl, by simp⟩, h⟩

/-! ### Well-formed commands: an ill-formed term for each check -/

theorem test_frame_fits : (Instr.requestFrame (requestFrameOf 0x60#8 1#8 [])).wellFormed = true := by decide
theorem test_frame_short : (Instr.requestFrame [0x01#8, 5#8, 0x60#8]).wellFormed = false := by decide
theorem test_frame_start : (Instr.requestFrame [0x02#8, 2#8, 0x60#8, 0#8, 0#8, 0#8]).wellFormed = false := by decide
theorem test_payload_long : (Instr.holder 0#8 (List.replicate 25 0#8)).wellFormed = false := by decide
theorem test_period_96 : (Instr.meterVolumeResult .make 96).wellFormed = false := by decide
theorem test_reply_long : (Instr.replyComplete 0 (List.replicate 35 0#8)).wellFormed = false := by decide
theorem test_reply_short : (Instr.replyComplete 0 [0#8, 0#8]).wellFormed = false := by decide
theorem test_known_kind : (Instr.unknownKind 0x60#8 0#8 []).wellFormed = false := by decide
theorem test_no_word : decodeTableWord 8 0x60 = none := by decide

/-! ### The worked examples of the manual -/

/-- 1.2.2: the derived geometry of H1. -/
theorem test_geometry : geometryOf recH1 =
    ⟨0, [7000, 14000, 21000], 21000, 20700, 200, [(6600, 7400), (13600, 14400)]⟩ := by decide

def jobH1 (t : Int) : StockJob :=
  ⟨.h1, [⟨80000, 7000, 1250⟩, ⟨86000, 7000, 500⟩, ⟨92000, 7000, 450⟩], [7000, 14000, 21000], t, .live, 124, some .live, 101200⟩

/-- 2.2: the worked stock computation, and the next travels. -/
theorem test_stock : stockResult .cold (jobH1 9500) = ⟨2, 1750, 7833532, false⟩ := by decide
theorem test_stock_zone_edge : (stockResult .cold (jobH1 14000)).zone = 2 ∧ (stockResult .cold (jobH1 14000)).pressure = 1750 ∧
    actualVolume (jobH1 14000).lifts (jobH1 14000).zones 14000 = 11620000 := by decide
theorem test_stock_next_zone : (stockResult .cold (jobH1 14001)).zone = 3 ∧ (stockResult .cold (jobH1 14001)).pressure = 2200 := by
  decide

/-- 2.3: the worked meter volume; 12.5: the remainders of the day close. -/
theorem test_meter_volume : meterVolume .cold 250000 1500 86 100800 = (255293, false) := by decide
theorem test_remainders : meterVolume .cold 7600 1500 86 100800 = (7761, false) ∧
    meterVolume .cold 280 1500 86 100800 = (286, false) := by decide

/-- 6.5.1: the worked check byte of READ to outstation 5, d3 wrong, d1 and d3 wrong. -/
theorem test_check_byte : checkByte 0x25#8 0x00#8 = 0x2F#8 := by decide
theorem test_header_mended : decodeHeader 0x21#8 0x00#8 0x2F#8 = some (0x25#8, 0x00#8, true) := by decide
theorem test_header_lost : decodeHeader 0x20#8 0x00#8 0x2F#8 = none := by decide
/-- 6.5.1: the frame READ sent to outstation 5 is its header and check byte alone. -/
theorem test_read_frame : (Frame.read 5).bytes = [0x25#8, 0x00#8, 0x2F#8] := by decide

/-- 6.5.2: the worked payload check. -/
theorem test_payload_check : crc [0x00#8] = 0x0F87#16 ∧ crcBytes [0x00#8] = [0x87#8, 0x0F#8] := by decide

/-- 4.6: the worked ramp of D3. -/
def programmeD3 : Programme := ⟨1250, ⟨some ⟨8, 2, 4, 3, 1750⟩, some ⟨14, 1, 2, 0, 1600⟩, none⟩⟩
theorem test_ramp_working : (List.range 17).map (profileValue programmeD3 4 .working) =
    [1250, 1250, 1250, 1250, 1250, 1250, 1417, 1583, 1750, 1750, 1750, 1750, 1625, 1500, 1600, 1600, 1250] := by decide
theorem test_ramp_rest : (List.range' 9 12).map (profileValue programmeD3 4 .rest) =
    [1250, 1417, 1583, 1750, 1750, 1750, 1750, 1625, 1500, 1600, 1600, 1250] := by decide
theorem test_ramp_clipped : [94, 95, 0].map (profileValue ⟨1250, ⟨some ⟨92, 2, 4, 3, 1750⟩, none, none⟩⟩ 4 .rest) =
    [1417, 1583, 1250] := by decide

/-! ### The remaining tables of the manual -/

/-- 10.3: with two qualifiers staged, a third takes the place of the later, with the indication REPLACED. -/
theorem test_staging_replaced :
    let s := { asked 0x41#8 [1#8, 0x40#8, 0x54#8, 0x89#8, 0x00#8] ready with link :=
      { (asked 0x41#8 [1#8, 0x40#8, 0x54#8, 0x89#8, 0x00#8] ready).link with
        staging := [.untilTravel 8000, .whenTravel 3 true 12000] } }
    let t := after (.untilReq 0#8 [1#8, 0x40#8, 0x54#8, 0x89#8, 0x00#8]) s
    t.link.staging = [.untilTravel 8000, .untilStock 9000000] ∧
      t.link.answers = [⟨0x41#8, 0#8, .answer .replaced [], false, true, none⟩] := by decide

/-- A yard whose H1 stands at a travel, both its valves reporting SHUT (3.9). -/
def atTravel (t : Int) : Yard :=
  { ready with
    hsu := { ready.hsu with holders := ready.hsu.holders.set .h1 { HolderDyn.fresh with travel := some ⟨t, .live⟩ } }
    mvs := { ready.mvs with
      inlets := ready.mvs.inlets.set .h1 ⟨.none, .shut, .idle⟩
      outlets := ready.mvs.outlets.set .h1 ⟨.none, .shut, .idle⟩ } }

/-- The payload of FILL or DRAW 41 for H1 without a start period. -/
def pay41 : List Byte := [41#8, 0#8, 1#8, 0#8, 0#8, 0#8]

/-- 3.9, first event: FILL 41 with UNTIL TRAVEL 8,000 at 5,900 mm is OPENING, inlet OPEN with a command put, outlet SHUT. -/
theorem test_fill_41 :
    let s := { asked 0x42#8 pay41 (atTravel 5900) with link :=
      { (asked 0x42#8 pay41 (atTravel 5900)).link with staging := [.untilTravel 8000] } }
    let y := (after (.fill 0#8 pay41) s).yard
    y.mvs.orders.map (fun o => (o.number, o.state, o.finish)) = [(41, .opening, .untilTravel 8000)] ∧
      y.mvs.inlets.h1 = ⟨.opened, .shut, .idle⟩ ∧ y.mvs.outlets.h1 = ⟨.shut, .shut, .idle⟩ ∧
      y.scs.commands.map (fun c => (c.outstation, c.channel, c.code)) = [(3, 0, .valveOpen)] := by decide

/-- 12.5: the permille of the worked balance. -/
theorem test_permille : roundAway 127475000 41357761 = 3 := by decide
theorem test_half_away : roundAway (-5) 2 = -3 ∧ roundAway 5 2 = 3 ∧ roundDiv (-5) 2 = -2 := by decide

/-! ### States and operands that meet the hypotheses of each obligation -/

theorem witness_StepRunsFrontCommand :
    ({ State.reset with pending := [.clockSecond, .periodEnd] } : State).pending = .clockSecond :: [.periodEnd] ∧
      State.reset.pending = [] := by decide

theorem witness_FieldsReadAsWritten :
    layoutAdmits layHolder [some 255, some 1, none, some (-2147483648), some 2147483647, none] = true ∧
    layoutAdmits [.u16, .optU16, .optChoice 3, .optFlag] [some 65535, some 65535, some 2, some 0] = true ∧
    (layoutAdmits layPeakUsed [some 8, some 3, some 1, some 95, some 8, some 32, some 0, some 500] = true ∧
      layoutAdmits layPeakFree [some 8, some 0, some 0] = true) ∧
    (layoutAdmits layFeed [some 1, some 5, some 0, some (-1), some 301] = true ∧
      layoutAdmits layLoss [none, some 2000] = true) ∧
    (layoutAdmits layUntilPeriod [some 2, some 95] = true ∧ layoutAdmits layUntilFigure [some 1, some 1000000000] = true ∧
      layoutAdmits layUntilFigure [some 0, some 60500] = true) := by decide

def queued (n : Nat) (l : Link) : Link := { l with queue := List.replicate n ⟨0x60#8, 0#8, [], false⟩ }

def turnedAway (n : Nat) (l : Link) : Link :=
  { l with answers := List.replicate n ⟨0x60#8, 0#8, .refuse .queueFull [.u8 0], false, false, none⟩ }

theorem witness_GoodFrameReachesQueue :
    let s (l : Link) : State := { State.reset with link := l }
    let payload : List Byte := List.replicate 24 0xFF#8
    payload.length ≤ 24 ∧
    ((s (queued 3 .fresh)).powered = true ∧ (queued 3 .fresh).recv = .hunting ∧ (queued 3 .fresh).queue.length < 4) ∧
    ((turnedAway 7 (queued 4 .fresh)).recv = .hunting ∧ 4 ≤ (turnedAway 7 (queued 4 .fresh)).queue.length ∧
      (turnedAway 7 (queued 4 .fresh)).refusalsWaiting < 8) ∧
    ((turnedAway 8 (queued 4 .fresh)).recv = .hunting ∧ 4 ≤ (turnedAway 8 (queued 4 .fresh)).queue.length ∧
      8 ≤ (turnedAway 8 (queued 4 .fresh)).refusalsWaiting ∧
      (turnedAway 8 (queued 4 .fresh)).counts.overrun < 65535) := by decide

theorem witness_BadFrameDiscarded :
    State.reset.powered = true ∧ State.reset.link.recv = .hunting ∧ State.reset.link.counts.check < 65535 ∧
    ([] : List Byte).length ≤ 24 ∧
    [0#8, 0#8] ≠ crcBytes (BitVec.ofNat 8 (([] : List Byte).length + 2) :: 0x60#8 :: 1#8 :: []) ∧
    State.reset.link.counts.length < 65535 ∧ ((1#8 : Byte).toNat < 2 ∨ 26 < (1#8 : Byte).toNat) ∧
    ((27#8 : Byte).toNat < 2 ∨ 26 < (27#8 : Byte).toNat) ∧
    ({ Link.fresh with recv := .inFrame [] 0 } : Link).counts.gap < 65535 ∧
    ([0x60#8] : List Byte).length + 2 < (2#8 : Byte).toNat + 3 ∧ max State.reset.yard.now 505 ≤ 0 + 505 := by
  decide +kernel

theorem witness_AnswerSentFreesPlace :
    (turnedAway 1 .fresh).answers = ⟨0x60#8, 0#8, .refuse .queueFull [.u8 0], false, false, none⟩ :: [] ∧
      State.reset.powered = true := by decide

theorem front (kind : Byte) (p : List Byte) (y : Yard) : Front (asked kind p y) ⟨kind, 0#8, p, false⟩ [] [] :=
  ⟨rfl, rfl, rfl, by simp⟩

theorem witness_EveryRequestAnswered :
    (Instr.readStatus 0#8 []).request = some (0x60#8, 0#8, []) ∧ (Instr.readStatus 0#8 []).eventFits = true ∧
      Front (asked 0x60#8 [] cold) ⟨0x60#8, 0#8, [], false⟩ [] [] :=
  ⟨rfl, rfl, front ..⟩

theorem witness_BadFormRefused :
    ((Instr.readStatus 0#8 [1#8]).request = some (0x60#8, 0#8, [1#8]) ∧ (Instr.readStatus 0#8 [1#8]).form = .bad 0 ∧
      Front (asked 0x60#8 [1#8] cold) ⟨0x60#8, 0#8, [1#8], false⟩ [] []) ∧
    (Instr.forceDay 0#8 [1#8, 2#8]).form = .bad 2 ∧
    (catalogued 0x99#8 = false ∧ Front (asked 0x99#8 [] cold) ⟨0x99#8, 0#8, [], false⟩ [] []) :=
  ⟨⟨rfl, by decide, front ..⟩, by decide, rfl, front ..⟩

theorem witness_QualifiersStaged :
    ((Instr.untilReq 0#8 [3#8]).qualifies = true ∧ (Instr.untilReq 0#8 [3#8]).request = some (0x41#8, 0#8, [3#8]) ∧
      (Instr.untilReq 0#8 [3#8]).form = .bad 0 ∧
      Front (asked 0x41#8 [3#8] cold) ⟨0x41#8, 0#8, [3#8], false⟩ [] []) ∧
    ((Instr.untilReq 0#8 [2#8, 95#8]).form = .ok [some 2, some 95] ∧ cold.yds.desc = .opened ∧
      Front (asked 0x41#8 [2#8, 95#8] cold) ⟨0x41#8, 0#8, [2#8, 95#8], false⟩ [] []) ∧
    (let w : Instr := .whenReq 0#8 [3#8, 0#8, 0xE0#8, 0x2E#8, 0#8, 0#8];
      w.form = .ok [some 3, some 0, some 12000] ∧ w.carries [some 3, some 0, some 12000] (.whenTravel 3 true 12000) ∧
      (committed cold).yds.desc = .committed ∧
      Front (asked 0x40#8 [3#8, 0#8, 0xE0#8, 0x2E#8, 0#8, 0#8] (committed cold))
        ⟨0x40#8, 0#8, [3#8, 0#8, 0xE0#8, 0x2E#8, 0#8, 0#8], false⟩ [] [] ∧
      (asked 0x40#8 [3#8, 0#8, 0xE0#8, 0x2E#8, 0#8, 0#8] (committed cold)).link.staging.length < 2) ∧
    ((Instr.untilReq 0#8 [0#8, 0x40#8, 0x1F#8, 0#8, 0#8]).carries [some 0, some 8000] (.untilTravel 8000) ∧
      (Instr.untilReq 0#8 [1#8, 0x40#8, 0x1F#8, 0#8, 0#8]).carries [some 1, some 8000] (.untilStock 8000) ∧
      (Instr.untilReq 0#8 [2#8, 95#8]).carries [some 2, some 95] (.untilPeriod 95)) ∧
    formUntil [0#8, 0x40#8, 0x1F#8, 0#8, 0#8] = .ok [some 0, some 8000] ∧
    formUntil [1#8, 0x40#8, 0x1F#8, 0#8, 0#8] = .ok [some 1, some 8000] :=
  ⟨⟨rfl, rfl, by decide, front ..⟩, ⟨by decide, rfl, front ..⟩,
    ⟨by decide, ⟨3, true, 12000, rfl, rfl⟩, rfl, front .., by decide⟩,
    ⟨.inl ⟨_, rfl, rfl⟩, .inr (.inl ⟨_, rfl, rfl⟩), .inr (.inr ⟨95, rfl, rfl⟩)⟩, by decide, by decide⟩

theorem witness_NotCommittedRefused :
    ((Instr.couple 0#8 [1#8]).operational = true ∧ (Instr.couple 0#8 [1#8]).request = some (0x46#8, 0#8, [1#8]) ∧
      (Instr.couple 0#8 [1#8]).form = .ok [some 1] ∧ cold.yds.desc = .opened ∧
      Front (asked 0x46#8 [1#8] cold) ⟨0x46#8, 0#8, [1#8], false⟩ [] []) ∧
    ((Instr.couple 0#8 [1#8]).eventFits = true ∧ (committed cold).yds.desc = .committed ∧
      Front (asked 0x46#8 [1#8] (committed cold)) ⟨0x46#8, 0#8, [1#8], false⟩ [] []) ∧
    ((Instr.readOrders 0#8 []).operational = false ∧ (Instr.readOrders 0#8 []).eventFits = true ∧
      Front (asked 0x62#8 [] cold) ⟨0x62#8, 0#8, [], false⟩ [] []) :=
  ⟨⟨rfl, rfl, by decide, rfl, front ..⟩, ⟨rfl, rfl, front ..⟩, ⟨rfl, rfl, front ..⟩⟩

theorem witness_FixedWhileCommitted :
    (Instr.commit 0#8 []).structural = true ∧ (Instr.commit 0#8 []).request = some (0x18#8, 0#8, []) ∧
      (Instr.commit 0#8 []).form = .ok [] ∧ (committed cold).yds.desc = .committed ∧
      Front (asked 0x18#8 [] (committed cold)) ⟨0x18#8, 0#8, [], false⟩ [] [] :=
  ⟨rfl, rfl, rfl, rfl, front ..⟩

theorem witness_HolderDescribed :
    cold.yds.desc = .opened ∧ (∀ v ∈ (some 100 : Option Int), 100 ≤ v ∧ v ≤ 1000) ∧
    (∀ v ∈ (none : Option Int), 50 ≤ v ∧ v ≤ 1000) ∧
    (yard.yds.desc = .opened ∧ yard.yds.holders.get .h1 = some recH1 ∧
      Stands 0x10#8 (formOf layHolder) [some (Holder.number .h1 : Int), some 1, some (4 : Nat), some 500, some 100, none] yard) ∧
    (cold.yds.holders.get .h6 = none ∧
      Stands 0x10#8 (formOf layHolder) [some (Holder.number .h6 : Int), some 1, some (1 : Nat), some 50, some 100, none] cold) ∧
    Stands 0x10#8 (formOf layHolder) [some (Holder.number .h1 : Int), some 0, none, none, none, none] yard ∧
    (((∀ v ∈ (some 5 : Option Int), v < 1 ∨ 4 < v) ∨ (∀ v ∈ (some 50 : Option Int), v < 50 ∨ 500 < v)) ∧
      Stands 0x10#8 (formOf layHolder) [some (Holder.number .h1 : Int), some 1, some 5, some 50, none, none] cold) ∧
    ((∀ v ∈ (none : Option Int), v < 50 ∨ 500 < v) ∧
      Stands 0x10#8 (formOf layHolder) [some (Holder.number .h1 : Int), some 1, some 4, none, none, none] cold) ∧
    (((∃ v ∈ (some 99 : Option Int), v < 100 ∨ 1000 < v) ∧ ∃ v ∈ (some 1001 : Option Int), v < 50 ∨ 1000 < v) ∧
      Stands 0x10#8 (formOf layHolder) [some (Holder.number .h1 : Int), some 1, some 4, some 50, some 99, some 1001] cold) :=
  ⟨by decide, by simp, by simp,
    ⟨by decide, by decide, stands (writeFields layHolder [some 1, some 1, some 4, some 500, some 100, none]) (by decide)⟩,
    ⟨by decide, stands (writeFields layHolder [some 6, some 1, some 1, some 50, some 100, none]) (by decide)⟩,
    stands (writeFields layHolder [some 1, some 0, none, none, none, none]) (by decide),
    ⟨by simp, stands (writeFields layHolder [some 1, some 1, some 5, some 50, none, none]) (by decide)⟩,
    ⟨by simp, stands (writeFields layHolder [some 1, some 1, some 4, none, none, none]) (by decide)⟩,
    ⟨by simp, stands (writeFields layHolder [some 1, some 1, some 4, some 50, some 99, some 1001]) (by decide)⟩⟩

theorem witness_LiftsAndVapourTable :
    (yard.yds.desc = .opened ∧ yard.yds.holders.get .h1 = some recH1 ∧ recH1.count ≤ 4 ∧
      (1 ≤ 3 ∧ 3 ≤ recH1.count ∧ (100 : Int) ≤ 400000 ∧ (500 : Int) ≤ 15000 ∧ (0 : Int) ≤ 2000) ∧
      Stands 0x11#8 (formOf layLift) [some (Holder.number .h1 : Int), some (3 : Nat), some 400000, some 500, some 2000] yard) ∧
    (¬(1 ≤ 4 ∧ 4 ≤ recH1.count) ∧
      Stands 0x11#8 (formOf layLift) [some (Holder.number .h1 : Int), some (4 : Nat), some 100, some 15000, some 0] yard) ∧
    (cold.yds.holders.get .h1 = none ∧
      Stands 0x11#8 (formOf layLift) [some (Holder.number .h1 : Int), some (1 : Nat), some 100, some 500, some 0] cold) ∧
    (let e : Vapour := ⟨0, 0, 1, 2, 3, 4, 5, 6, 10000⟩;
      (e.e0 ≤ e.e1 ∧ e.e1 ≤ e.e2 ∧ e.e2 ≤ e.e3 ∧ e.e3 ≤ e.e4 ∧ e.e4 ≤ e.e5 ∧ e.e5 ≤ e.e6 ∧ e.e6 ≤ e.e7 ∧ e.e7 ≤ e.e8 ∧
        e.e8 ≤ 10000) ∧
      (∀ h ∈ ready.yds.presentHolders, (ready.hsu.holders.get h).travel ≠ none → (liveJob ready h).isSome = true) ∧
      (∀ h ∈ ready.travelless, ∀ o ∈ ready.mvs.orders, h ∈ ready.mvs.worked o.holder → o.state = .waiting ∨ o.state = .closing) ∧
      ready.yds.desc = .committed) ∧
    Stands 0x12#8 (formOf layVapour) [some (0 : Nat), some (0 : Nat), some (1 : Nat), some (2 : Nat), some (3 : Nat),
      some (4 : Nat), some (5 : Nat), some (6 : Nat), some (10000 : Nat)] ready ∧
    (let e : Vapour := ⟨0, 0, 1, 2, 3, 4, 5, 6, 10001⟩; ¬(e.e8 ≤ 10000)) ∧
    Stands 0x12#8 (formOf layVapour) [some (0 : Nat), some (0 : Nat), some (1 : Nat), some (2 : Nat), some (3 : Nat),
      some (4 : Nat), some (5 : Nat), some (6 : Nat), some (10001 : Nat)] ready :=
  ⟨⟨by decide, by decide, by decide, by decide,
      stands (writeFields layLift [some 1, some 3, some 400000, some 500, some 2000]) (by decide)⟩,
    ⟨by decide, stands (writeFields layLift [some 1, some 4, some 100, some 15000, some 0]) (by decide)⟩,
    ⟨by decide, stands (writeFields layLift [some 1, some 1, some 100, some 500, some 0]) (by decide)⟩,
    by decide,
    stands (writeFields layVapour [some 0, some 0, some 1, some 2, some 3, some 4, some 5, some 6, some 10000]) (by decide),
    by decide,
    stands (writeFields layVapour [some 0, some 0, some 1, some 2, some 3, some 4, some 5, some 6, some 10001]) (by decide)⟩

/-- H1 with a travel, a temperature and a barometer, so that its stock is recomputed (R7). -/
def sampled : Yard :=
  { ready with hsu := { ready.hsu with
    baro := some ⟨101200, .live⟩
    holders := ready.hsu.holders.set .h1 { HolderDyn.fresh with
      travel := some ⟨9500, .live⟩, temp := some ⟨124, .live⟩ } } }

/-- The same with H2 GOOD though its travel is lost, its computation having returned late (log 41), its order CLOSING. -/
def lostTravel : Yard :=
  { sampled with
    hsu := { sampled.hsu with
      holders := sampled.hsu.holders.set .h2 { HolderDyn.fresh with stock := some 5000, status := .good } }
    mvs := { sampled.mvs with
      orders := [.mk 42 .h2 .draw .absent .absent .unset 0 false false false .closing (some .readingLost)]
      prevTravel := sampled.mvs.prevTravel.set .h2 (some 9500) } }

theorem witness_vapour_recomputes : lostTravel.TravellessAtRest ∧ lostTravel.travelless = [.h2] ∧
    lostTravel.yds.presentHolders.filterMap (liveJob lostTravel) ≠ [] ∧
    ∀ h ∈ lostTravel.yds.presentHolders, (lostTravel.hsu.holders.get h).travel ≠ none →
      (liveJob lostTravel h).isSome = true :=
  ⟨by unfold Yard.TravellessAtRest; decide, by decide, by decide, by decide⟩

/-- R23, R24: a BARO sample and a VAPOUR TABLE recompute H1 and leave H2, whose travel is lost, its stock UNKNOWN. -/
theorem test_baro_assesses :
    ∀ y ∈ [hsuSample .baro ⟨100000, .live⟩ lostTravel, hsuVapour lostTravel],
      y.hsu.stockJobs.map (·.holder) = [.h1] ∧ y.hsu.holders.h2.status = .unknown ∧ y.hsu.holders.h2.stock = some 5000 ∧
        y.mvs.orders = lostTravel.mvs.orders := by decide

theorem witness_DistrictDescribed :
    ((cold.yds.desc = .opened ∧ cold.yds.districts.get .d8 = none ∧ (500 : Int) ≤ 500 ∧ (500 : Int) ≤ 3000 ∧
        (500 : Int) ≤ 5000 ∧ (1 : Int) ≤ 10000000) ∧
      Stands 0x13#8 (formOf layDistrict) [some (District.number .d8 : Int), some 1, some (if true then 1 else 0), some 500,
        some 5000, some 10000000] cold) ∧
    ((yard.yds.desc = .opened ∧ yard.yds.districts.get .d1 = some ⟨true, 600, 2000, 1000⟩) ∧
      Stands 0x13#8 (formOf layDistrict) [some (District.number .d1 : Int), some 1, some (if true then 1 else 0), some 3000,
        some 3000, some 1] yard ∧
      Stands 0x13#8 (formOf layDistrict) [some (District.number .d1 : Int), some 1, some (if false then 1 else 0), some 3000,
        some 3000, some 1] yard) ∧
    ((∃ v ∈ (some 2999 : Option Int), v < (some 3000 : Option Int).getD 0 ∨ 5000 < v) ∧
      Stands 0x13#8 (formOf layDistrict) [some (District.number .d1 : Int), some 1, some 0, some 3000, some 2999, some 1]
        yard) ∧
    ((∀ v ∈ (none : Option Int), v < 1 ∨ 10000000 < v) ∧
      Stands 0x13#8 (formOf layDistrict) [some (District.number .d8 : Int), some 1, some 0, some 500, some 500, none] cold) ∧
    Stands 0x13#8 (formOf layDistrict) [some (District.number .d1 : Int), some 0, none, none, none, none] yard :=
  ⟨⟨by decide, stands (writeFields layDistrict [some 8, some 1, some 1, some 500, some 5000, some 10000000]) (by decide)⟩,
    ⟨by decide, stands (writeFields layDistrict [some 1, some 1, some 1, some 3000, some 3000, some 1]) (by decide),
      stands (writeFields layDistrict [some 1, some 1, some 0, some 3000, some 3000, some 1]) (by decide)⟩,
    ⟨by simp, stands (writeFields layDistrict [some 1, some 1, some 0, some 3000, some 2999, some 1]) (by decide)⟩,
    ⟨by simp, stands (writeFields layDistrict [some 8, some 1, some 0, some 500, some 500, none]) (by decide)⟩,
    stands (writeFields layDistrict [some 1, some 0, none, none, none, none]) (by decide)⟩

def entry (a : Nat) (sleeper : Bool) : Entry := ⟨a, .actuator, sleeper, .all (some .valve), .fresh⟩

/-- A yard with a roster. -/
def rostered (y : Yard) (es : List Entry) : Yard := { y with scs := { y.scs with roster := es } }

def fullRoster : List Entry := (List.range' 1 24).map (entry · false)

theorem witness_RosterDescribed :
    (cold.yds.desc = .opened ∧ 1 ≤ 30 ∧ cold.scs.roster.Pairwise (fun x z => x.address < z.address) ∧
      cold.scs.roster.length < 24 ∧ (∀ e ∈ cold.scs.roster, e.address ≠ 30) ∧
      Stands 0x14#8 (formOf layOutstation) [some (30 : Nat), some 1, some (OutstationKind.code .recorder : Int),
        some (if true then 1 else 0)] cold) ∧
    ((rostered cold [entry 1 false]).scs.roster.Pairwise (fun x z => x.address < z.address) ∧
      (∃ e ∈ (rostered cold [entry 1 false]).scs.roster, e.address = 1) ∧
      Stands 0x14#8 (formOf layOutstation) [some (1 : Nat), some 1, some (OutstationKind.code .gauge : Int),
        some (if false then 1 else 0)] (rostered cold [entry 1 false])) ∧
    ((rostered cold fullRoster).scs.roster.Pairwise (fun x z => x.address < z.address) ∧
      24 ≤ (rostered cold fullRoster).scs.roster.length ∧
      (∀ e ∈ (rostered cold fullRoster).scs.roster, e.address ≠ 25) ∧
      Stands 0x14#8 (formOf layOutstation) [some (25 : Nat), some 1, some (OutstationKind.code .gauge : Int),
        some (if false then 1 else 0)] (rostered cold fullRoster)) ∧
    (Stands 0x15#8 (formOf layPoint) [some (1 : Nat), some (3 : Nat), some 1, some (pointKindCode (some .governor) : Int)]
        (rostered cold [entry 1 false]) ∧
      Stands 0x15#8 (formOf layPoint) [some (1 : Nat), some (0 : Nat), some 0, none] (rostered cold [entry 1 false])) ∧
    Stands 0x15#8 (formOf layPoint) [some (30 : Nat), some (0 : Nat), some 0, none] cold ∧
    ((∀ c ∈ (rostered cold [entry 1 false]).scs.commands, c.outstation ≠ 1) ∧
      Stands 0x14#8 (formOf layOutstation) [some (1 : Nat), some 0, none, none] (rostered cold [entry 1 false])) :=
  ⟨⟨by decide, by decide, by decide, by decide, by decide,
      stands (writeFields layOutstation [some 30, some 1, some 2, some 1]) (by decide)⟩,
    ⟨by decide, by decide, stands (writeFields layOutstation [some 1, some 1, some 0, some 0]) (by decide)⟩,
    ⟨by decide, by decide, by decide, stands (writeFields layOutstation [some 25, some 1, some 0, some 0]) (by decide)⟩,
    ⟨stands (writeFields layPoint [some 1, some 3, some 1, some 4]) (by decide),
      stands (writeFields layPoint [some 1, some 0, some 0, none]) (by decide)⟩,
    stands (writeFields layPoint [some 30, some 0, some 0, none]) (by decide),
    ⟨by decide, stands (writeFields layOutstation [some 1, some 0, none, none]) (by decide)⟩⟩

theorem witness_BindingsAndLineSettings :
    (yard.yds.desc = .opened ∧ bindingOf 49 = some (.valve ⟨.h2, .inlet⟩) ∧ yard.yds.holderPresent .h2 = true ∧
      (∀ q ∈ (some ⟨30, 3⟩ : Option Point), 1 ≤ q.outstation ∧ q.outstation ≤ 30 ∧ q.channel ≤ 3) ∧
      Stands 0x16#8 (formOf layBind) [some (49 : Nat), some 0, (some ⟨30, 3⟩ : Option Point).map fun q =>
        ((q.outstation + 256 * q.channel : Nat) : Int)] yard) ∧
    (bindingOf 59 = some (.governor .d1) ∧ bindingOf 60 = some (.booster .d1) ∧ yard.yds.districtPresent .d1 = true ∧
      Stands 0x16#8 (formOf layBind) [some (59 : Nat), some 0, (none : Option Point).map fun q =>
        ((q.outstation + 256 * q.channel : Nat) : Int)] yard ∧
      Stands 0x16#8 (formOf layBind) [some (60 : Nat), some 0, (some ⟨1, 0⟩ : Option Point).map fun q =>
        ((q.outstation + 256 * q.channel : Nat) : Int)] yard) ∧
    (bindingOf 0 = some (.slot .baro) ∧ yard.yds.slotPresent .baro = true ∧ Slot.isMeter .baro = false ∧
      (yard.yds.bind.slots.get .baro).primary ≠ some ⟨1, 0⟩ ∧ (yard.yds.bind.slots.get .baro).standby ≠ some ⟨1, 0⟩ ∧
      Stands 0x16#8 (formOf layBind) [some (0 : Nat), some (if true then 1 else 0), some ((1 + 256 * 0 : Nat) : Int)] yard) ∧
    (bindingOf 4 = some (.slot .makeMeter) ∧ yard.yds.slotPresent .makeMeter = true ∧ Slot.makeMeter = meterSlot .make ∧
      (yard.yds.bind.slots.get .makeMeter).primary ≠ some ⟨30, 3⟩ ∧ (yard.yds.bind.slots.get .makeMeter).standby ≠ some ⟨30, 3⟩ ∧
      Stands 0x16#8 (formOf layBind) [some (4 : Nat), some (if false then 1 else 0), some ((30 + 256 * 3 : Nat) : Int)] yard) ∧
    (¬(1 ≤ 31 ∧ 31 ≤ 30 ∧ 0 ≤ 3) ∧ 31 < 256 ∧
      Stands 0x16#8 (formOf layBind) [some (0 : Nat), some (if false then 1 else 0), some ((31 + 256 * 0 : Nat) : Int)] yard) ∧
    (bindingOf 12 = some (.slot (.gasTemp .h2)) ∧ yard.yds.bindingPresent (.slot (.gasTemp .h3)) = false ∧
      bindingOf 13 = some (.slot (.gasTemp .h3)) ∧ Stands 0x16#8 (formOf layBind) [some (13 : Nat), some 0, none] yard) ∧
    ((10 : Int) ≤ 10 ∧ Stands 0x17#8 (formOf layLine) [some 600, some 10] cold ∧
      Stands 0x17#8 (formOf layLine) [some 2400, some 250] cold) ∧
    (((1201 : Int) ≠ 600 ∧ (1201 : Int) ≠ 1200 ∧ (1201 : Int) ≠ 2400) ∧
      Stands 0x17#8 (formOf layLine) [some 1201, some 50] cold ∧ Stands 0x17#8 (formOf layLine) [some 600, some 251] cold ∧
      Stands 0x17#8 (formOf layLine) [some 600, some 9] cold) :=
  ⟨⟨by decide, by decide, by decide, by simp,
      stands (writeFields layBind [some 49, some 0, some 798]) (by decide)⟩,
    ⟨by decide, by decide, by decide, stands (writeFields layBind [some 59, some 0, none]) (by decide),
      stands (writeFields layBind [some 60, some 0, some 1]) (by decide)⟩,
    ⟨by decide, by decide, by decide, by decide, by decide,
      stands (writeFields layBind [some 0, some 1, some 1]) (by decide)⟩,
    ⟨by decide, by decide, by decide, by decide, by decide,
      stands (writeFields layBind [some 4, some 0, some 798]) (by decide)⟩,
    ⟨by decide, by decide, stands (writeFields layBind [some 0, some 0, some 31]) (by decide)⟩,
    ⟨by decide, by decide, by decide, stands (writeFields layBind [some 13, some 0, none]) (by decide)⟩,
    ⟨by decide, stands (writeFields layLine [some 600, some 10]) (by decide),
      stands (writeFields layLine [some 2400, some 250]) (by decide)⟩,
    ⟨by decide, stands (writeFields layLine [some 1201, some 50]) (by decide),
      stands (writeFields layLine [some 600, some 251]) (by decide), stands (writeFields layLine [some 600, some 9]) (by decide)⟩⟩

theorem witness_GeometryAndCommitChecks :
    (let ls : List Lift := [⟨80000, 7000, 1250⟩, ⟨86000, 7000, 500⟩, ⟨92000, 7000, 450⟩];
      recH1.lifts.toList.take recH1.count = ls.map some ∧ ls.length = recH1.count ∧ 1 ≤ recH1.count ∧ 2 < recH1.count) ∧
    commitFault cold = none := by decide

/-- The ready yard with an order of H1 in some state. -/
def ordered (k : OrderKind) (st : OrderState) (y : Yard) : Yard :=
  { y with mvs := { y.mvs with orders := [.mk 41 .h1 k .absent .absent .unset 0 true false false st none] } }

theorem witness_CommitAndRecommission :
    (cold.yds.desc = .opened ∧ commitFault cold = none ∧ cold.gdc.clock = none ∧ Stands 0x18#8 (formOf []) [] cold) ∧
    (yard.yds.desc = .opened ∧ commitFault yard = some ⟨.holder, 1, 1⟩ ∧ yard.yds.districts.get .d1 ≠ none ∧
      Stands 0x18#8 (formOf []) [] yard) ∧
    (ready.yds.desc = .committed ∧ (clockAt 1 0 0 0 ready).gdc.clock ≠ none ∧ (ordered .fill .waiting ready).mvs.orders ≠ [] ∧
      Stands 0x19#8 (formOf []) [] (clockAt 1 0 0 0 ready)) ∧
    (ready.gdc.clock = none ∧ ready.mvs.orders = [] ∧ ready.yds.districts.get .d1 = some ⟨true, 600, 2000, 1000⟩ ∧
      Stands 0x19#8 (formOf []) [] ready) ∧
    Stands 0x19#8 (formOf []) [] cold :=
  ⟨⟨by decide, by decide, by decide, stands [] rfl⟩, ⟨by decide, by decide, by decide, stands [] rfl⟩,
    ⟨by decide, by decide, by decide, stands [] rfl⟩, ⟨by decide, by decide, by decide, stands [] rfl⟩, stands [] rfl⟩

/-- H1 and H2 both drawn, with their pressures. -/
def drawingBoth (p1 p2 : Int) : Yard :=
  { ready with
    mvs := { ready.mvs with orders := [.mk 41 .h1 .draw .absent .absent .unset 0 false false false .running none,
      .mk 42 .h2 .draw .absent .absent .unset 0 false false false .running none] }
    hsu := { ready.hsu with
      holders := (ready.hsu.holders.set .h1 { HolderDyn.fresh with pressure := p1 }).set .h2 { HolderDyn.fresh with
        pressure := p2 } } }

/-- R58: H1 lags behind H2 by more than its threshold. -/
theorem test_lag : (lagTest (drawingBoth 0 5000)).mvs.orders.map (·.lagOwn) = [true, false] ∧
    ((lagTest (drawingBoth 0 5000)).notices.queue.map fun n => (n.kind, n.object, n.datum)) =
      [(.coldStarted, 0, 0), (.laggingHolder, 1, 5000)] := by decide

theorem witness_LimitsAndProgrammeSet :
    (ready.yds.holders.get .h1 ≠ none ∧ (∀ o ∈ (ordered .draw .waiting ready).mvs.orders, o.state ≠ .running) ∧
      Stands 0x20#8 (formOf layLimits) [some (Holder.number .h1 : Int), some 49, some 1001] ready) ∧
    ((drawingBoth 0 5000).mvs.orders.length ≤ 16 ∧ (drawingBoth 0 5000).mvs.coupled = .all false ∧
      2 ≤ (Holder.list.filter fun h => (drawingBoth 0 5000).mvs.orders.any fun o =>
        decide (o.holder = h ∧ o.state = .running ∧ o.kind ≠ .fill)).length ∧
      (Holder.list.filter fun h => (ordered .draw .running ready).mvs.orders.any fun o =>
        decide (o.holder = h ∧ o.state = .running ∧ o.kind ≠ .fill)).length < 2 ∧
      ((drawingBoth 0 5000).yds.limits.get .h1).lagThreshold < 5000 - contribution (drawingBoth 0 5000) .h1 ∧
      Stands 0x20#8 (formOf layLimits) [some (Holder.number .h1 : Int), some 50, some 1000] (drawingBoth 0 5000)) ∧
    (drawingBoth 0 5000).mvs.Lawful ∧
    (cold.yds.holders.get .h1 = none ∧ Stands 0x20#8 (formOf layLimits) [some (Holder.number .h1 : Int), some 50, some 50] cold) ∧
    (ready.yds.districts.get .d1 ≠ none ∧ Stands 0x21#8 (formOf layProfile) [some (District.number .d1 : Int), some 500] ready) ∧
    (cold.yds.districts.get .d1 = none ∧ Stands 0x21#8 (formOf layProfile) [some (District.number .d1 : Int), some 500] cold) ∧
    (1 ≤ 3 ∧ 3 ≤ 3 ∧ Stands 0x22#8 formPeak [some (District.number .d1 : Int), some (3 : Nat), some 1, some 96, some 8, some 0,
      some 9, some 499] ready) ∧
    Stands 0x22#8 formPeak [some (District.number .d1 : Int), some (1 : Nat), some 0] ready ∧
    ((0 = 0 ∨ 3 < 0) ∧ Stands 0x22#8 formPeak [some (District.number .d1 : Int), some (0 : Nat), some 0] ready) ∧
    ((4 = 0 ∨ 3 < 4) ∧ Stands 0x22#8 formPeak [some (District.number .d1 : Int), some (4 : Nat), some 0] ready ∧
      Stands 0x22#8 formPeak [some (District.number .d1 : Int), some (4 : Nat), some 1, some 95, some 8, some 32, some 8,
        some 500] cold) :=
  ⟨⟨by decide, by decide, stands (writeFields layLimits [some 1, some 49, some 1001]) (by decide)⟩,
    ⟨by decide, by decide, by decide, by decide, by decide, stands (writeFields layLimits [some 1, some 50, some 1000]) (by decide)⟩,
    ⟨by decide, by decide, by decide, by decide⟩,
    ⟨by decide, stands (writeFields layLimits [some 1, some 50, some 50]) (by decide)⟩,
    ⟨by decide, stands (writeFields layProfile [some 1, some 500]) (by decide)⟩,
    ⟨by decide, stands (writeFields layProfile [some 1, some 500]) (by decide)⟩,
    ⟨by decide, by decide,
      stands (writeFields layPeakUsed [some 1, some 3, some 1, some 96, some 8, some 0, some 9, some 499]) (by decide)⟩,
    stands (writeFields layPeakFree [some 1, some 1, some 0]) (by decide),
    ⟨by decide, stands (writeFields layPeakFree [some 1, some 0, some 0]) (by decide)⟩,
    ⟨by decide, stands (writeFields layPeakFree [some 1, some 4, some 0]) (by decide),
      stands (writeFields layPeakUsed [some 1, some 4, some 1, some 95, some 8, some 32, some 8, some 500]) (by decide)⟩⟩

theorem witness_GoverningSettingsStored :
    ready.yds.districts.get .d1 ≠ none ∧ cold.yds.districts.get .d1 = none ∧
    Stands 0x23#8 (formOf layTrim) [some (District.number .d1 : Int), some 199, some 1001, some 4, some 501] ready ∧
    Stands 0x24#8 formFeed [some (District.number .d1 : Int), some 5, some 2000, some (-1), some 301] ready ∧
    Stands 0x24#8 formFeed [none, some 2001] cold ∧
    Stands 0x23#8 (formOf layTrim) [some (District.number .d1 : Int), some 200, some 0, some 5, some 0] cold ∧
    Stands 0x24#8 formFeed [some (District.number .d1 : Int), some 5, some 0, some 0, some 10] cold :=
  ⟨by decide, by decide, stands (writeFields layTrim [some 1, some 199, some 1001, some 4, some 501]) (by decide),
    stands (writeFields layFeed [some 1, some 5, some 2000, some (-1), some 301]) (by decide),
    stands (writeFields layLoss [none, some 2001]) (by decide),
    stands (writeFields layTrim [some 1, some 200, some 0, some 5, some 0]) (by decide),
    stands (writeFields layFeed [some 1, some 5, some 0, some 0, some 10]) (by decide)⟩

theorem witness_YardSettingsStored :
    Stands 0x25#8 (formOf layObject) [some 9] cold ∧
    Stands 0x26#8 (formOf layPattern) [some 1, some 0, some 0, some 0, some 0, some 0, some 1] cold ∧
    Stands 0x27#8 (formOf layMark) [some 96] cold ∧ Stands 0x27#8 (formOf layMark) [none] cold ∧
    Stands 0x28#8 (formOf layCv) [some 9999, some 0] cold ∧ Stands 0x29#8 (formOf layFigure) [some 201] cold ∧
    Stands 0x2A#8 (formOf layFigure) [some 4] cold ∧ Stands 0x2C#8 (formOf layFigure) [some 601] cold :=
  ⟨stands (writeFields layObject [some 9]) (by decide),
    stands (writeFields layPattern [some 1, some 0, some 0, some 0, some 0, some 0, some 1]) (by decide),
    stands (writeFields layMark [some 96]) (by decide), stands (writeFields layMark [none]) (by decide),
    stands (writeFields layCv [some 9999, some 0]) (by decide), stands (writeFields layFigure [some 201]) (by decide),
    stands (writeFields layFigure [some 4]) (by decide), stands (writeFields layFigure [some 601]) (by decide)⟩

/-- A quantity with a LIVE value. -/
def live (q : Slot) (v : Int) (y : Yard) : Yard :=
  y.updRec q fun r => { r with value := some v, source := .live }

theorem witness_SubstituteStored :
    (ready.yds.slotPresent .outletPress = true ∧ Slot.isMeter .outletPress = false ∧
      ((live .outletPress (-50000) ready).qpr.recs.get .outletPress).source = .live ∧
      Stands 0x2B#8 (formOf laySubstitute) [some (Slot.code .outletPress : Int), some (-60000), some 60000, some 9, some 60001,
        none] (live .outletPress (-50000) ready)) ∧
    (∀ v ∈ ((live .outletPress (-50000) ready).qpr.recs.get .outletPress).value,
      min 50000 (max (-50000) (-60000)) ≤ v ∧ v ≤ min 50000 (max (min 50000 (max (-50000) (-60000))) 60000)) ∧
    (ready.yds.slotPresent (.meter .d1) = true ∧ Slot.isMeter (.meter .d1) = true ∧
      ((live (.meter .d1) 999999 ready).qpr.recs.get (.meter .d1)).source = .live ∧
      Stands 0x2B#8 (formOf laySubstitute) [some (Slot.code (.meter .d1) : Int), some 0, some 0, some 8, none, some 0]
        (live (.meter .d1) 999999 ready)) ∧
    Stands 0x2B#8 (formOf laySubstitute) [some (Slot.code (.meter .d1) : Int), some 0, some 0, some 8, some 1, none] ready ∧
    (cold.yds.slotPresent (.travel .h6) = false ∧
      Stands 0x2B#8 (formOf laySubstitute) [some (Slot.code (.travel .h6) : Int), some 0, some 0, some 8, none, none] cold) :=
  ⟨⟨by decide, by decide, by decide,
      stands (writeFields laySubstitute [some 2, some (-60000), some 60000, some 9, some 60001, none]) (by decide)⟩,
    by decide,
    ⟨by decide, by decide, by decide, stands (writeFields laySubstitute [some 39, some 0, some 0, some 8, none, some 0]) (by decide)⟩,
    stands (writeFields laySubstitute [some 39, some 0, some 0, some 8, some 1, none]) (by decide),
    ⟨by decide, stands (writeFields laySubstitute [some 10, some 0, some 0, some 8, none, none]) (by decide)⟩⟩

/-! The clock. -/

def withResume (r : Resume) (y : Yard) : Yard := { y with gdc := { y.gdc with resume := some r } }

theorem witness_ClockSet :
    ((¬(0 : Nat) ≥ 1) ∧ Stands 0x30#8 (formOf layTime) [some (0 : Nat), some (7 : Nat), some (96 : Nat), some (900 : Nat)] cold) ∧
    ((clockAt 65535 6 95 899 cold).gdc.clock = some ⟨65535, 6, 95, 899, .working, false⟩ ∧
      Stands 0x30#8 (formOf layTime) [some (65535 : Nat), some (6 : Nat), some (95 : Nat), some (0 : Nat)]
        (clockAt 65535 6 95 899 cold)) ∧
    (¬(65535 = 65535 ∧ 6 = 6 ∧ 95 = 94) ∧
      Stands 0x30#8 (formOf layTime) [some (65535 : Nat), some (6 : Nat), some (94 : Nat), some (0 : Nat)]
        (clockAt 65535 6 95 899 cold)) ∧
    (ready.gdc.clock = none ∧ ready.gdc.resume = none ∧ ready.yds.districts.get .d1 ≠ none ∧ ready.yds.desc = .committed ∧
      Stands 0x30#8 (formOf layTime) [some (1 : Nat), some (0 : Nat), some (0 : Nat), some (899 : Nat)] ready) ∧
    (yard.gdc.clock = none ∧ yard.gdc.resume = none ∧ yard.yds.desc = .opened) :=
  ⟨⟨by decide, stands (writeFields layTime [some 0, some 7, some 96, some 900]) (by decide)⟩,
    ⟨by decide, stands (writeFields layTime [some 65535, some 6, some 95, some 0]) (by decide)⟩,
    ⟨by decide, stands (writeFields layTime [some 65535, some 6, some 94, some 0]) (by decide)⟩,
    ⟨by decide, by decide, by decide, by decide, stands (writeFields layTime [some 1, some 0, some 0, some 899]) (by decide)⟩,
    by decide, by decide, by decide⟩

/-- A current day of the accounts. -/
def dayOf (n : Nat) : Day := .opened n 0 .working ⟨false, false, false, false⟩ (some (0, false))

def withDay (n : Nat) (y : Yard) : Yard := { y with soa := { y.soa with current := some (dayOf n) } }

theorem witness_ClockResumed :
    ((32767 : Int) < ((32769 : Int) - (1 : Nat)) % 65535 ∧
      (withResume ⟨1, 0, .working, some 3⟩ ready).gdc.resume = some ⟨1, 0, .working, some 3⟩ ∧
      (withResume ⟨1, 0, .working, some 3⟩ ready).gdc.clock = none ∧
      Stands 0x30#8 (formOf layTime) [some (32769 : Nat), some (0 : Nat), some (0 : Nat), some (0 : Nat)]
        (withResume ⟨1, 0, .working, some 3⟩ ready)) ∧
    (((1 : Int) - (1 : Nat)) % 65535 = 0 ∧ 3 ≤ 3 ∧
      Stands 0x30#8 (formOf layTime) [some (1 : Nat), some (0 : Nat), some (3 : Nat), some (0 : Nat)]
        (withResume ⟨1, 0, .working, some 3⟩ ready)) ∧
    ((some 3 = some 3 ∧ 4 = 3 + 1) ∧ 4 ≤ 95 ∧
      Stands 0x30#8 (formOf layTime) [some (1 : Nat), some (0 : Nat), some (95 : Nat), some (899 : Nat)]
        (withResume ⟨1, 0, .working, some 3⟩ ready)) ∧
    ((withResume ⟨1, 0, .working, none⟩ ready).gdc.resume = some ⟨1, 0, .working, none⟩ ∧
      Stands 0x30#8 (formOf layTime) [some (1 : Nat), some (0 : Nat), some (0 : Nat), some (0 : Nat)]
        (withResume ⟨1, 0, .working, none⟩ ready)) ∧
    ((1 : Int) ≤ ((1 : Int) - (65535 : Nat)) % 65535 ∧ ((1 : Int) - (65535 : Nat)) % 65535 ≤ 32767 ∧
      (withDay 65535 (withResume ⟨65535, 0, .working, some 3⟩ ready)).soa.current = some (dayOf 65535) ∧
      Stands 0x30#8 (formOf layTime) [some (1 : Nat), some (0 : Nat), some (0 : Nat), some (0 : Nat)]
        (withDay 65535 (withResume ⟨65535, 0, .working, some 3⟩ ready))) :=
  ⟨⟨by decide, by decide, by decide, stands (writeFields layTime [some 32769, some 0, some 0, some 0]) (by decide)⟩,
    ⟨by decide, by decide, stands (writeFields layTime [some 1, some 0, some 3, some 0]) (by decide)⟩,
    ⟨by decide, by decide, stands (writeFields layTime [some 1, some 0, some 95, some 899]) (by decide)⟩,
    ⟨by decide, stands (writeFields layTime [some 1, some 0, some 0, some 0]) (by decide)⟩,
    ⟨by decide, by decide, rfl, stands (writeFields layTime [some 1, some 0, some 0, some 0]) (by decide)⟩⟩

def emptyRecord (day period : Nat) : PeriodRec := ⟨day, period, false, false, false, 0, .make fun _ => .empty⟩

def withRecord (r : PeriodRec) (y : Yard) : Yard := { y with qpr := { y.qpr with current := some r } }

theorem witness_ClockStoppedDayForced :
    (cold.gdc.clock = none ∧ Stands 0x31#8 (formOf []) [] cold) ∧
    ((withRecord (emptyRecord 1 95) (clockAt 1 0 95 0 ready)).gdc.clock = some ⟨1, 0, 95, 0, .working, false⟩ ∧
      (withRecord (emptyRecord 1 95) (clockAt 1 0 95 0 ready)).qpr.current = some (emptyRecord 1 95) ∧
      Stands 0x31#8 (formOf []) [] (withRecord (emptyRecord 1 95) (clockAt 1 0 95 0 ready))) ∧
    (ready.yds.desc = .committed ∧ ready.gdc.clock = none ∧
      Stands 0x32#8 (formOf layForce) [some (if false then 1 else 0), some (if DayType.working = .rest then 1 else 0)] ready) ∧
    ((clockAt 1 0 95 0 ready).yds.desc = .committed ∧
      Stands 0x32#8 (formOf layForce) [some 1, some (if DayType.rest = .rest then 1 else 0)] (clockAt 1 0 95 0 ready)) ∧
    ((clockAt 1 0 95 0 ready).yds.periodMark = none ∧
      Stands 0x32#8 (formOf layForce) [some 0, some (if DayType.rest = .rest then 1 else 0)] (clockAt 1 0 95 0 ready)) ∧
    (let y : Yard := { clockAt 1 0 95 0 ready with yds := { ready.yds with periodMark := some 91 } };
      y.yds.periodMark = some 91 ∧ 95 = 91 + y.yds.lag ∧ y.gdc.markDay ≠ some 1 ∧ y.yds.desc = .committed) :=
  ⟨⟨by decide, stands [] rfl⟩, ⟨by decide, rfl, stands [] rfl⟩,
    ⟨by decide, by decide, stands (writeFields layForce [some 0, some 0]) (by decide)⟩,
    ⟨by decide, stands (writeFields layForce [some 1, some 1]) (by decide)⟩,
    ⟨by decide, stands (writeFields layForce [some 0, some 1]) (by decide)⟩, by decide⟩

theorem witness_SecondsPass :
    ((on (clockAt 1 0 0 898 ready)).powered = true ∧
      (on (clockAt 1 0 0 898 ready)).yard.gdc.clock = some ⟨1, 0, 0, 898, .working, false⟩ ∧ 898 < 899) ∧
    ((on ready).yard.gdc.clock = none ∧ (on ready).yard.yds.slotPresent .baro = true ∧
      (on ready).yard.yds.slotPresent (.travel .h6) = false) := by decide

/-- D1 with its far point bound, and a record of an hour with samples of it. -/
def farBound : Yard :=
  { ready with yds := { ready.yds with bind := { ready.yds.bind with
    slots := ready.yds.bind.slots.set (.farPress .d1) ⟨some ⟨5, 0⟩, none⟩ } } }

def farRecord (low : Int) : PeriodRec :=
  { emptyRecord 1 0 with entries := (emptyRecord 1 0).entries.set (.farPress .d1) { PEntry.empty with count := 3, low := some low } }

/-- R87: one step up below the band about the far target, the trim held within the max trim. -/
theorem test_far_trim :
    let set := farBound.yds.trimSet.get .d1
    ((dguRecord (farRecord (set.farTarget - set.farBand - 1)) farBound).dgu.districts.get .d1).trim = min set.maxTrim set.step ∧
      ((dguRecord (farRecord (set.farTarget - set.farBand)) farBound).dgu.districts.get .d1).trim = 0 := by decide

theorem witness_PeriodAdvances :
    (farBound.yds.desc = .committed ∧ farBound.yds.districts.get .d1 ≠ none ∧
      farBound.yds.bind.slots.farPress.get .d1 ≠ ⟨none, none⟩ ∧ 0 < ((farRecord 700).entries.farPress.get .d1).count ∧
      ((farRecord 700).entries.farPress.get .d1).low = some 700 ∧ 0 ≤ (farBound.yds.trimSet.get .d1).maxTrim ∧
      ((emptyRecord 1 0).entries.farPress.get .d1).count = 0 ∧
      ¬(ready.yds.bind.slots.farPress.get .d1 ≠ ⟨none, none⟩) ∧ yard.yds.desc = .opened) ∧
    (let s := on (withRecord (emptyRecord 65535 94) (clockAt 65535 6 94 899 ready));
      s.powered = true ∧ s.yard.gdc.clock = some ⟨65535, 6, 94, 899, .working, false⟩ ∧ 94 < 95 ∧
      s.yard.qpr.current = some (emptyRecord 65535 94) ∧ s.yard.yds.districts.get .d1 ≠ none) ∧
    (let s := on (withRecord (emptyRecord 65535 95) (clockAt 65535 6 95 899 ready));
      s.powered = true ∧ s.yard.gdc.clock = some ⟨65535, 6, 95, 899, .working, false⟩) :=
  ⟨by decide, ⟨by decide, by decide, by decide, rfl, by decide⟩, by decide, by decide⟩

theorem witness_ProfileFollowsPeak :
    let p : Peak := ⟨8, 2, 4, 3, 1750⟩;
    let g : Programme := ⟨1250, Three.set (.all none) 1 (some p)⟩;
    g.peaks = Three.set (.all none) 1 (some p) ∧ (Programme.cold).peaks = .all none ∧
    (1 ≤ 1 ∧ 1 ≤ p.lead ∧ 6 + p.lead + 1 = p.start + 1) ∧ (1 ≤ 2 ∧ 2 ≤ p.lead ∧ 7 + p.lead + 1 = p.start + 2) ∧
    (p.start ≤ 8 ∧ 8 < p.start + p.hold) ∧ (p.start ≤ 11 ∧ 11 < p.start + p.hold) ∧
    (1 ≤ 3 ∧ 3 ≤ p.trail ∧ 14 + 1 = p.start + p.hold + 3) ∧ (5 + p.lead < p.start ∨ p.start + p.hold + p.trail ≤ 5) ∧
    p.start + p.hold + p.trail ≤ 15 ∧
    yard.yds.districts.get .d1 ≠ none ∧ cold.yds.districts.get .d1 = none := by decide

/-! The movements. -/

theorem witness_OrderAccepted :
    (ready.yds.desc = .committed ∧ ready.yds.holders.get .h1 ≠ none ∧ ready.yds.holders.get .h2 ≠ none ∧
      (ready.mvs.isCoupled .h1 = true → Holder.leads .h1 = true) ∧ 1 ≤ 999 ∧ (∀ o ∈ ready.mvs.orders, o.number ≠ 999) ∧
      (0 : Int) ≤ 60500 ∧ (OrderKind.fills .float = true → ready.mvs.tripped = false) ∧ ready.mvs.orders.length < 16 ∧
      (∀ u ∈ ready.mvs.worked .h1, (OrderKind.fills .float = true → ready.yds.bind.inlet.get u ≠ none) ∧
        (OrderKind.draws .float = true → ready.yds.bind.outlet.get u ≠ none)) ∧
      ready.yds.geometry.get .h1 = some (geometryOf recH1) ∧ (geometryOf recH1).topStop < 60500 ∧
      (0 : Int) < (geometryOf recH1).landing ∧ (clockAt 1 0 94 0 ready).gdc.clock ≠ none ∧
      (clockAt 1 0 94 0 ready).gdc.clock = some ⟨1, 0, 94, 0, .working, false⟩ ∧ 94 ≠ 95) ∧
    StandsOrder (orderRow .float).1 [some (999 : Nat), some (Holder.number .h1 : Int), (none : Option Nat).map fun p => (p : Int),
      some (0 : Nat)] [.whenTravel (Holder.number .h2) true 60500] ready ∧
    StandsOrder (orderRow .fill).1 [some (999 : Nat), some (Holder.number .h1 : Int), (none : Option Nat).map fun p => (p : Int),
      some (0 : Nat)] [.whenTravel (Holder.number .h2) false 0, .untilTravel 60500] ready ∧
    StandsOrder (orderRow .draw).1 [some (999 : Nat), some (Holder.number .h1 : Int), (some 95 : Option Nat).map fun p => (p : Int),
      some (31 : Nat)] [] (clockAt 1 0 94 0 ready) :=
  ⟨by decide, standsOrder (writeFields layOrder [some 999, some 1, none, some 0]) (by decide),
    standsOrder (writeFields layOrder [some 999, some 1, none, some 0]) (by decide),
    standsOrder (writeFields layOrder [some 999, some 1, some 95, some 31]) (by decide)⟩

def coupled (y : Yard) : Yard := { y with mvs := { y.mvs with coupled := y.mvs.coupled.set 1 true } }

def tripped (y : Yard) : Yard := { y with mvs := { y.mvs with tripped := true } }

/-- A full order list of waiting orders. -/
def crowded (y : Yard) : Yard :=
  { y with mvs := { y.mvs with
    orders := (List.range' 1 16).map fun n => .mk n .h2 .draw (.atPeriod 5) .absent .unset 0 false false false .waiting none } }

theorem witness_OrderRefused :
    ((∀ g : Holder, g.number = 3 → ready.yds.holders.get g = none) ∧ ready.yds.holders.get .h1 ≠ none ∧
      StandsOrder (orderRow .fill).1 [some (1 : Nat), some (Holder.number .h1 : Int), (none : Option Nat).map fun v => (v : Int),
        some 0] [.whenTravel 3 true 100] ready) ∧
    ((ready.mvs.isCoupled .h1 = true → Holder.leads .h1 = true) ∧ (some 95 : Option Nat) ≠ none ∧
      StandsOrder (orderRow .float).1 [some (1 : Nat), some (Holder.number .h1 : Int), (none : Option Nat).map fun v => (v : Int),
        some 0] [.untilTravel 100] ready ∧
      StandsOrder (orderRow .draw).1 [some (1 : Nat), some (Holder.number .h1 : Int), none, some (1 : Nat)] [] ready ∧
      StandsOrder (orderRow .draw).1 [some (1 : Nat), some (Holder.number .h1 : Int), (some 95 : Option Nat).map fun v => (v : Int),
        some 0] [.whenTravel (Holder.number .h2) true 100] ready ∧
      StandsOrder (orderRow .draw).1 [some (1 : Nat), some (Holder.number .h1 : Int), (some 95 : Option Nat).map fun v => (v : Int),
        some 0] [.untilPeriod 95] ready ∧
      StandsOrder (orderRow .draw).1 [some (1 : Nat), some (Holder.number .h1 : Int), (none : Option Nat).map fun v => (v : Int),
        some 0] [.untilPeriod 95] ready) ∧
    (cold.yds.holders.get .h3 = none ∧ (committed cold).yds.desc = .committed ∧
      StandsOrder (orderRow .fill).1 [some (1 : Nat), some (Holder.number .h3 : Int), (none : Option Nat).map fun v => (v : Int),
        some 0] [] (committed cold)) ∧
    ((coupled ready).yds.holders.get .h2 ≠ none ∧ (coupled ready).mvs.isCoupled .h2 = true ∧ Holder.leads .h2 = false ∧
      StandsOrder (orderRow .draw).1 [some (1 : Nat), some (Holder.number .h2 : Int), (none : Option Nat).map fun v => (v : Int),
        some 0] [] (coupled ready)) ∧
    ((ready.mvs.isCoupled .h1 = true → Holder.leads .h1 = true) ∧ (0 < 1 ∨ 999 < 0) ∧
      StandsOrder (orderRow .float).1 [some (0 : Nat), some (Holder.number .h1 : Int), (some 95 : Option Nat).map fun v => (v : Int),
        some 0] [] ready) ∧
    ((∀ v ∈ (some 95 : Option Nat), v ≤ 95) ∧
      (∀ u ∈ ready.mvs.worked .h1, (OrderKind.fills .float = true → ready.yds.bind.inlet.get u ≠ none) ∧
        (OrderKind.draws .float = true → ready.yds.bind.outlet.get u ≠ none)) ∧
      (some 95 : Option Nat) ≠ none ∧ ready.gdc.clock = none ∧
      StandsOrder (orderRow .float).1 [some (999 : Nat), some (Holder.number .h1 : Int),
        (some 95 : Option Nat).map fun v => (v : Int), some 0] [] ready) ∧
    (OrderKind.fills .fill = true ∧ (tripped ready).mvs.tripped = true ∧ (tripped ready).yds.holders.get .h1 ≠ none ∧
      StandsOrder (orderRow .fill).1 [some (17 : Nat), some (Holder.number .h1 : Int), (none : Option Nat).map fun v => (v : Int),
        some 0] [] (tripped ready)) ∧
    ((OrderKind.fills .draw = true → (crowded ready).mvs.tripped = false) ∧ 16 ≤ (crowded ready).mvs.orders.length ∧
      (∀ o ∈ (crowded ready).mvs.orders, o.number ≠ 17) ∧
      (∀ u ∈ (crowded ready).mvs.worked .h1, OrderKind.draws .draw = true → (crowded ready).yds.bind.outlet.get u ≠ none) ∧
      StandsOrder (orderRow .draw).1 [some (17 : Nat), some (Holder.number .h1 : Int), (none : Option Nat).map fun v => (v : Int),
        some 0] [] (crowded ready)) :=
  ⟨⟨by intro g; cases g <;> decide, by decide,
      standsOrder (writeFields layOrder [some 1, some 1, none, some 0]) (by decide)⟩,
    ⟨by decide, by decide, standsOrder (writeFields layOrder [some 1, some 1, none, some 0]) (by decide),
      standsOrder (writeFields layOrder [some 1, some 1, none, some 1]) (by decide),
      standsOrder (writeFields layOrder [some 1, some 1, some 95, some 0]) (by decide),
      standsOrder (writeFields layOrder [some 1, some 1, some 95, some 0]) (by decide),
      standsOrder (writeFields layOrder [some 1, some 1, none, some 0]) (by decide)⟩,
    ⟨by decide, by decide, standsOrder (writeFields layOrder [some 1, some 3, none, some 0]) (by decide)⟩,
    ⟨by decide, by decide, by decide, standsOrder (writeFields layOrder [some 1, some 2, none, some 0]) (by decide)⟩,
    ⟨by decide, by decide, standsOrder (writeFields layOrder [some 0, some 1, some 95, some 0]) (by decide)⟩,
    ⟨by simp, by decide, by decide, by decide, standsOrder (writeFields layOrder [some 999, some 1, some 95, some 0]) (by decide)⟩,
    ⟨by decide, by decide, by decide, standsOrder (writeFields layOrder [some 17, some 1, none, some 0]) (by decide)⟩,
    ⟨by decide, by decide, by decide, by decide, standsOrder (writeFields layOrder [some 17, some 1, none, some 0]) (by decide)⟩⟩

/-- An order of H1 in OPENING whose used valve stands in some way. -/
def opening (k : OrderKind) (v : ValveRec) : Yard :=
  let y := ordered k .opening ready
  { y with mvs := { y.mvs with outlets := y.mvs.outlets.set .h1 v } }

theorem witness_FillOpensInlet :
    (let y := opening .draw ⟨.opened, .moving, .running 0 120⟩;
      (∃ o, y.mvs.orders = [] ++ o :: [] ∧ o.state = .opening ∧ o.kind = .draw ∧ o.holder = .h1) ∧
      y.mvs.isCoupled .h1 = false ∧ (∀ x ∈ ([] ++ [] : List Order), x.state ≠ .running) ∧
      y.mvs.valve ⟨.h1, .outlet⟩ = ⟨.opened, .moving, .running 0 120⟩ ∧ y.mvs.shutPending.get .h1 = false) ∧
    (let y := atTravel 6600;
      let g := geometryOf recH1;
      (y.yds.desc = .committed ∧ y.yds.holders.get .h1 ≠ none ∧ y.mvs.isCoupled .h1 = false ∧ 1 ≤ 1 ∧ 1 ≤ 999 ∧
        (∀ o ∈ y.mvs.orders, o.number ≠ 1 ∧ o.holder ≠ .h1) ∧ y.mvs.orders.length < 16 ∧ y.mvs.tripped = false ∧
        (y.hsu.holders.get .h1).travel = some ⟨6600, .live⟩ ∧ y.yds.geometry.get .h1 = some g ∧ (6600 : Int) < g.topStop ∧
        y.yds.bind.inlet.get .h1 = some ⟨3, 0⟩ ∧ y.yds.bind.outlet.get .h1 = some ⟨3, 1⟩ ∧
        y.mvs.inlets.get .h1 = ⟨.none, .shut, .idle⟩ ∧ y.mvs.outlets.get .h1 = ⟨.none, .shut, .idle⟩ ∧
        (∀ c ∈ y.scs.commands, ¬(c.outstation = 3 ∧ c.channel = 0)) ∧ y.scs.commands.length < 32 ∧
        (∀ x ∈ [(60500 : Int)], 0 ≤ x ∧ x ≤ 60500) ∧
        (∃ b ∈ g.bands, b.1 ≤ (6600 : Int) ∧ 6600 ≤ b.2) ∧ ¬(∃ b ∈ g.bands, b.1 ≤ (6599 : Int) ∧ 6599 ≤ b.2)) ∧
      StandsOrder 0x42#8 [some (1 : Nat), some (Holder.number .h1 : Int), none, some 0]
        ((some 60500 : Option Int).toList.map .untilTravel) y) :=
  ⟨⟨⟨_, rfl, rfl, rfl, rfl⟩, by decide⟩, by decide, standsOrder (writeFields layOrder [some 1, some 1, none, some 0]) (by decide)⟩

/-- An order of H1 in CLOSING, the inlet SHUT and the outlet on its way. -/
def closingOf (k : OrderKind) (standing : Nat) (r : EndReason) : Yard :=
  { ready with mvs := { ready.mvs with
    orders := [.mk 41 .h1 k (.atPeriod 0) .absent .unset standing false false false .closing (some r)]
    inlets := ready.mvs.inlets.set .h1 ⟨.shut, .shut, .idle⟩
    outlets := ready.mvs.outlets.set .h1 ⟨.shut, .moving, .idle⟩ } }

/-- R50: a standing order that has met its landing point waits again, its count one less. -/
theorem test_standing_kept :
    ((valveReport ⟨.h1, .outlet⟩ .shut (closingOf .draw 5 .landing)).mvs.orders.map fun o => (o.state, o.standing)) =
      [(.waiting, 4)] ∧ (valveReport ⟨.h1, .outlet⟩ .shut (closingOf .draw 5 .cancelled)).mvs.orders = [] := by decide

def order41 (k : OrderKind) : Order := .mk 41 .h1 k .absent .absent .unset 0 false false false .running none

/-- The used valves of an order of H1 with their points. -/
def points41 (k : OrderKind) : List (Valve × Point) := k.used.map fun s => (⟨.h1, s⟩, ⟨3, if s = .inlet then 0 else 1⟩)

/-- H1 at a travel with an order RUNNING whose valves have reported nothing. -/
def working (k : OrderKind) (travel : Option Int) : Yard :=
  { ready with
    mvs := { ready.mvs with orders := [order41 k] }
    hsu := { ready.hsu with holders := ready.hsu.holders.set .h1 { HolderDyn.fresh with
      travel := travel.map (⟨·, .live⟩), stock := some 9000000, status := .good } } }

theorem canShut_still (k : OrderKind) : (working k none).CanShut [] [] (order41 k) (points41 k) := by
  cases k <;> constructor <;> decide

/-- Wherever H1 stands, its order can be shut. -/
theorem canShut (k : OrderKind) (travel : Option Int) : (working k travel).CanShut [] [] (order41 k) (points41 k) :=
  { canShut_still k with }

/-- H1 at a travel, both its valves reporting SHUT, with an order of it that waits. -/
def starting (k : OrderKind) (start : StartCond) (travel : Int) (eligible : Bool) : Yard :=
  { clockAt 3 1 7 0 (atTravel travel) with mvs := { (atTravel travel).mvs with
    orders := [.mk 41 .h1 k start .absent .unset 0 eligible false false .waiting none] } }

def order41At (k : OrderKind) (start : StartCond) (eligible : Bool) : Order :=
  .mk 41 .h1 k start .absent .unset 0 eligible false false .waiting none

/-- A holder with an accepted travel lies inside a cupping band as that travel does. -/
theorem inBand_iff {y : Yard} {h : Holder} {t : Int} {g : Geometry} (ht : (y.hsu.holders.get h).travel.map (·.value) = some t)
    (hg : y.yds.geometry.get h = some g) : y.InBand h ↔ ∃ b ∈ g.bands, b.1 ≤ t ∧ t ≤ b.2 :=
  ⟨fun ⟨_, _, h1, h2, hb⟩ => by cases ht.symm.trans h1; cases hg.symm.trans h2; exact hb, fun hb => ⟨t, g, ht, hg, hb⟩⟩

theorem canOpen_still (k : OrderKind) :
    (starting k .absent 6600 false).CanOpen [] [] (order41At k .absent false) .cracked (points41 k) ∧
      (starting k .absent 6599 false).CanOpen [] [] (order41At k .absent false) .opened (points41 k) := by
  refine ⟨⟨rfl, rfl, by simp, by simp, nofun, rfl, fun h hh => ?_, .inl ⟨rfl, .h1, List.mem_singleton.2 rfl,
      (inBand_iff (t := 6600) (g := geometryOf recH1) rfl rfl).2 (by decide)⟩, fun _ _ => nofun, ?_, ?_, ?_, ?_, ?_, ?_, ?_⟩,
    ⟨rfl, rfl, by simp, by simp, nofun, rfl, fun h hh => ?_, .inr ⟨rfl, fun h hh hb => ?_⟩, fun _ _ => nofun,
      ?_, ?_, ?_, ?_, ?_, ?_, ?_⟩⟩
  case refine_1 | refine_9 =>
    obtain rfl := List.mem_singleton.1 hh
    exact ⟨_, geometryOf recH1, rfl, rfl, fun _ => by decide, fun _ => by decide⟩
  case refine_10 =>
    obtain rfl := List.mem_singleton.1 hh
    exact absurd ((inBand_iff (t := 6599) (g := geometryOf recH1) rfl rfl).1 hb) (by decide)
  case refine_5 | refine_14 =>
    intro h hh side
    obtain rfl := List.mem_singleton.1 hh
    cases side <;> rfl
  all_goals cases k <;> decide

/-- Whatever its start condition, an order of H1 that waits can activate. -/
theorem canOpen (k : OrderKind) (start : StartCond) (b : Bool) :
    (starting k start 6600 b).CanOpen [] [] (order41At k start b) .cracked (points41 k) ∧
      (starting k start 6599 b).CanOpen [] [] (order41At k start b) .opened (points41 k) :=
  ⟨{ (canOpen_still k).1 with listed := rfl }, { (canOpen_still k).2 with listed := rfl }⟩

/-- The premises of activation: on acceptance, at a period start, at a reading, and of an end at activation. -/
theorem witness_activation :
    (∀ k, ({ clockAt 3 1 7 0 (atTravel 6600) with mvs := { (atTravel 6600).mvs with
        orders := (atTravel 6600).mvs.orders ++ [order41At k (.atPeriod 7) true] } } : Yard).CanOpen [] []
          (order41At k (.atPeriod 7) true) .cracked (points41 k) ∧
      StandsOrder (orderRow k).1 [some (41 : Nat), some (Holder.number .h1 : Int), (some 7 : Option Nat).map fun q => (q : Int),
        some (31 : Nat)] [] (clockAt 3 1 7 0 (atTravel 6600)) ∧
      StandsOrder (orderRow k).1 [some (41 : Nat), some (Holder.number .h1 : Int), (none : Option Nat).map fun q => (q : Int),
        some (0 : Nat)] [] (atTravel 6600)) ∧
    (∃ o, (starting .fill (.atPeriod 95) 6600 false).mvs.orders = [] ++ o :: [] ∧ o.state = .waiting ∧ o.start = .atPeriod 95) ∧
    ((ordered .draw .waiting ready).hsu.holders.get .h1).travel = none ∧
    (((starting .float (.whenAbove .h1 6599) 6600 false).hsu.holders.get .h1).travel = some ⟨6600, .live⟩ ∧
      (order41At .float (.whenAbove .h1 6599) false).start = .whenAbove .h1 6599 ∧ (6599 : Int) < 6600 ∧
      (order41At .float (.whenBelow .h1 6600) false).start = .whenBelow .h1 6600 ∧ (6599 : Int) < 6600) ∧
    (let g := geometryOf recH1;
      ((atTravel 20700).hsu.holders.get .h1).travel = some ⟨20700, .live⟩ ∧ (atTravel 20700).yds.geometry.get .h1 = some g ∧
      (OrderKind.fills .float = true ∧ g.topStop ≤ 20700) ∧ (OrderKind.draws .draw = true ∧ (200 : Int) ≤ g.landing) ∧
      (∀ k : OrderKind, ∀ side ∈ k.used, (atTravel 200).yds.bind.valve ⟨.h1, side⟩ ≠ none) ∧
      (clockAt 3 1 95 0 (atTravel 201)).gdc.clock = some ⟨3, 1, 95, 0, .working, false⟩ ∧
      StandsOrder 0x43#8 [some (41 : Nat), some (Holder.number .h1 : Int), none, some 0] [.untilPeriod 95]
        (clockAt 3 1 95 0 (atTravel 201))) :=
  ⟨fun k => ⟨(canOpen k (.atPeriod 7) true).1,
      standsOrder (writeFields layOrder [some 41, some 1, some 7, some 31]) (by decide),
      standsOrder (writeFields layOrder [some 41, some 1, none, some 0]) (by decide)⟩,
    ⟨_, rfl, rfl, rfl⟩, rfl, by decide,
    ⟨rfl, rfl, by decide, by decide, fun k => by cases k <;> decide, rfl,
      standsOrder (writeFields layOrder [some 41, some 1, none, some 0]) (by decide)⟩⟩

/-- The same with both valves of H1 on their way, their timers RUNNING. -/
def stuck (k : OrderKind) (st : OrderState) : Yard :=
  { working k none with mvs := { (working k none).mvs with
    orders := [{ order41 k with state := st }]
    inlets := ready.mvs.inlets.set .h1 ⟨.opened, .moving, .running 0 120⟩
    outlets := ready.mvs.outlets.set .h1 ⟨.opened, .moving, .running 0 120⟩ } }

/-- A valve of H1 released from its point (R38, R54). -/
def released (side : Side) (y : Yard) : Yard :=
  let b := y.yds.bind
  { y with yds := { y.yds with bind :=
    match side with
    | .inlet => { b with inlet := b.inlet.set .h1 none }
    | .outlet => { b with outlet := b.outlet.set .h1 none } } }

theorem canShut_stuck (k : OrderKind) : (stuck k .opening).CanShut [] [] { order41 k with state := .opening } (points41 k) := by
  cases k <;> constructor <;> decide

theorem witness_OrderCancelled :
    (let y := closingOf .draw 5 .landing;
      (∃ o, y.mvs.orders = [] ++ o :: [] ∧ o.state = .closing ∧ o.reason = some .landing ∧ 0 < o.standing ∧ o.holder = .h1) ∧
      (∃ o, (closingOf .fill 0 .cancelled).mvs.orders = [] ++ o :: [] ∧ o.reason = some .cancelled ∧ ¬(0 < o.standing)) ∧
      (y.mvs.isCoupled .h1 = false ∧ y.mvs.valve ⟨.h1, .outlet⟩ = ⟨.shut, .moving, .idle⟩ ∧
        y.mvs.shutPending.get .h1 = false ∧ (y.mvs.valve ⟨.h1, .inlet⟩).reported = .shut)) ∧
    (ready.yds.desc = .committed ∧ (∀ o ∈ ready.mvs.orders, o.number ≠ 65535) ∧
      Stands 0x45#8 (formOf layNumber) [some (65535 : Nat)] ready) ∧
    (∃ o, (ordered .fill .waiting ready).mvs.orders = [] ++ o :: [] ∧ (∀ x ∈ ([] ++ [] : List Order), x.number ≠ 41) ∧
      o.number = 41 ∧ o.state = .waiting ∧ (∀ x ∈ ([] ++ [] : List Order), x.state = .waiting → x.eligible = false) ∧
      Stands 0x45#8 (formOf layNumber) [some (41 : Nat)] (ordered .fill .waiting ready)) ∧
    (∃ o, (ordered .fill .closing ready).mvs.orders = [] ++ o :: [] ∧ o.number = 41 ∧ o.state = .closing) ∧
    (working .float none).CanShut [] [] (order41 .float) (points41 .float) :=
  ⟨⟨⟨_, rfl, by decide⟩, ⟨_, rfl, by decide⟩, by decide⟩,
    ⟨by decide, by decide, stands (writeFields layNumber [some 65535]) (by decide)⟩,
    ⟨_, rfl, by decide, rfl, rfl, by decide, stands (writeFields layNumber [some 41]) (by decide)⟩, ⟨_, rfl, rfl, rfl⟩,
    canShut .float none⟩

theorem witness_PairsAndShutHolder :
    (ready.yds.desc = .committed ∧ Holder.leads .h2 = false ∧ Stands 0x46#8 (formOf layObject) [some (Holder.number .h2 : Int)] ready ∧
      Stands 0x47#8 (formOf layObject) [some (Holder.number .h2 : Int)] ready) ∧
    (Holder.leads .h5 = true ∧ ready.yds.holders.get .h5 = none ∧
      Stands 0x46#8 (formOf layObject) [some (Holder.number .h5 : Int)] ready) ∧
    ((Holder.leads .h1 = true ∧ (ordered .draw .opening ready).yds.holders.get .h1 ≠ none ∧
      (ordered .draw .opening ready).yds.holders.get (Holder.partner .h1) ≠ none ∧
      (∃ o ∈ (ordered .draw .opening ready).mvs.orders, o.holder = .h1 ∧ o.state ≠ .waiting)) ∧
      ((coupled ready).mvs.isCoupled .h1 = true ∧ (∀ o ∈ (coupled ready).mvs.orders, o.holder = .h1 ∨ o.holder = .h2 →
        o.state = .waiting)) ∧
      ((crowded ready).mvs.isCoupled .h1 = false ∧ (crowded ready).mvs.orders.length ≤ 16 ∧
        (crowded ready).mvs.orders.Pairwise (fun a b => a.number ≠ b.number) ∧
        (∀ o ∈ (crowded ready).mvs.orders, o.holder = .h1 ∨ o.holder = Holder.partner .h1 → o.state = .waiting) ∧
        (∀ o ∈ (crowded ready).mvs.orders, o.holder = .h1 → o.eligible = false))) ∧
    (ready.mvs.orders = [] ∧ ready.yds.holders.get (Holder.partner .h1) ≠ none ∧
      Stands 0x46#8 (formOf layObject) [some (Holder.number .h1 : Int)] ready ∧
      Stands 0x47#8 (formOf layObject) [some (Holder.number .h1 : Int)] ready) ∧
    (cold.yds.holders.get .h6 = none ∧ Stands 0x48#8 (formOf layObject) [some (Holder.number .h6 : Int)] (committed cold)) ∧
    ((coupled ready).mvs.isCoupled .h2 = true ∧ (coupled ready).yds.holders.get .h2 ≠ none ∧
      Stands 0x48#8 (formOf layObject) [some (Holder.number .h2 : Int)] (coupled ready)) ∧
    ((ordered .draw .opening ready).mvs.isCoupled .h1 = false ∧
      Stands 0x48#8 (formOf layObject) [some (Holder.number .h1 : Int)] (ordered .draw .opening ready)) ∧
    (((∀ o ∈ (ordered .draw .waiting ready).mvs.orders, o.holder = .h1 → o.state = .waiting) ∧
        ready.yds.bind.inlet.get .h1 = some ⟨3, 0⟩ ∧ ready.yds.bind.outlet.get .h1 = some ⟨3, 1⟩ ∧
        ready.mvs.inlets.get .h1 = ⟨.none, .unknown, .idle⟩ ∧ ready.mvs.outlets.get .h1 = ⟨.none, .unknown, .idle⟩ ∧
        Reported.unknown ≠ .shut ∧ ¬(3 = 3 ∧ 0 = 1) ∧
        (∀ c ∈ ready.scs.commands, ¬(c.outstation = 3 ∧ c.channel = 0) ∧ ¬(c.outstation = 3 ∧ c.channel = 1)) ∧
        ready.scs.commands.length + 4 ≤ 32) ∧
      Stands 0x48#8 (formOf layObject) [some (Holder.number .h1 : Int)] ready ∧
      Stands 0x48#8 (formOf layObject) [some (Holder.number .h1 : Int)] (coupled ready)) ∧
    (((atTravel 0).mvs.inlets.get .h1 = ⟨.none, .shut, .idle⟩ ∧ (atTravel 0).mvs.outlets.get .h1 = ⟨.none, .shut, .idle⟩ ∧
        (closingOf .draw 0 .cancelled).mvs.inlets.get .h1 = ⟨.shut, .shut, .idle⟩ ∧
        (closingOf .draw 0 .cancelled).mvs.outlets.get .h1 = ⟨.shut, .moving, .idle⟩ ∧ Reported.moving ≠ .shut) ∧
      Stands 0x48#8 (formOf layObject) [some (Holder.number .h1 : Int)] (atTravel 0)) :=
  ⟨⟨by decide, by decide, stands [2#8] (by decide), stands [2#8] (by decide)⟩, ⟨by decide, by decide, stands [5#8] (by decide)⟩,
    by decide, ⟨by decide, by decide, stands [1#8] (by decide), stands [1#8] (by decide)⟩,
    ⟨by decide, stands [6#8] (by decide)⟩, ⟨by decide, by decide, stands [2#8] (by decide)⟩,
    ⟨by decide, stands [1#8] (by decide)⟩, ⟨by decide, stands [1#8] (by decide), stands [1#8] (by decide)⟩,
    ⟨by decide, stands [1#8] (by decide)⟩⟩

/-- R54: SHUT HOLDER of a coupled leader commands the valves of both holders. -/
theorem test_shut_pair : ((shutHolder 1 (coupled ready)).1.scs.commands.map fun c => (c.outstation, c.channel, c.code)) =
    [(3, 0, .valveShut), (3, 1, .valveShut), (3, 2, .valveShut), (3, 3, .valveShut)] := by decide

theorem witness_YardTrips :
    ((committed cold).yds.desc = .committed ∧ Stands 0x49#8 (formOf []) [] (committed cold)) ∧
    ((∀ o ∈ (crowded ready).mvs.orders, o.state = .waiting) ∧
      (crowded ready).mvs.orders.Pairwise (fun a b => a.number ≠ b.number) ∧ (crowded ready).mvs.orders.length ≤ 16 ∧
      (crowded ready).yds.desc = .committed ∧ Stands 0x49#8 (formOf []) [] (crowded ready)) ∧
    (let y : Yard := { crowded ready with mvs := { (crowded ready).mvs with watch := .running 0 } };
      (on y).yard.mvs.watch = .running 0 ∧ (on y).powered = true) ∧
    (let y := working .float (some 21000); (working .float none).CanShut [] [] (order41 .float) (points41 .float) ∧
      OrderKind.fills .float = true ∧ y.mvs.orders = [] ++ order41 .float :: [] ∧ (order41 .draw).state ≠ .waiting) ∧
    ((closingOf .fill 0 .topStop).mvs.orders.map (fun o => (o.kind.fills, o.state)) = [(true, .closing)]) ∧
    ((atTravel 21000).yds.desc = .committed ∧ (atTravel 21000).mvs.orders = [] ∧
      ((atTravel 21000).hsu.holders.get .h1).travel = some ⟨21000, .live⟩ ∧
      (atTravel 21000).yds.geometry.get .h1 = some (geometryOf recH1) ∧ (geometryOf recH1).full ≤ 21000) :=
  ⟨⟨rfl, stands [] rfl⟩, ⟨by decide, by decide, by decide, rfl, stands [] rfl⟩, ⟨rfl, rfl⟩,
    ⟨canShut .float none, rfl, rfl, by decide⟩, by decide, by decide⟩

/-- R62: the trip closes a FILL, replaces the reason of a CLOSING one, and lets a DRAW go on. -/
theorem test_trip_orders :
    (tripYard .request (working .fill (some 9000))).mvs.orders.map (fun o => (o.state, o.reason)) = [(.closing, some .trip)] ∧
      (tripYard .request (closingOf .fill 0 .topStop)).mvs.orders.map (fun o => (o.state, o.reason)) =
        [(.closing, some .trip)] ∧
      (tripYard .request (working .draw (some 9000))).mvs.orders.map (fun o => (o.state, o.reason)) = [(.running, none)] := by
  decide

theorem witness_TripInputAndClear :
    (State.reset.powered = true ∧ State.reset.yard.tripPin = false ∧ (on { cold with tripPin := true }).yard.tripPin = true ∧
      State.reset.yard.mvs.watch = .idle) ∧
    (ready.yds.desc = .committed ∧ ({ ready with tripPin := true } : Yard).tripPin = true ∧
      Stands 0x4A#8 (formOf []) [] { ready with tripPin := true }) ∧
    ((atTravel 21000).yds.holders.get .h1 ≠ none ∧ (atTravel 21000).yds.geometry.get .h1 = some (geometryOf recH1) ∧
      ((atTravel 21000).hsu.holders.get .h1).travel = some ⟨21000, .live⟩ ∧ (geometryOf recH1).full ≤ 21000 ∧
      Stands 0x4A#8 (formOf []) [] (atTravel 21000)) ∧
    ((tripped (committed cold)).tripPin = false ∧
      (¬∃ h g a, (tripped (committed cold)).yds.holders.get h ≠ none ∧ (tripped (committed cold)).yds.geometry.get h = some g ∧
        ((tripped (committed cold)).hsu.holders.get h).travel = some a ∧ g.full ≤ a.value) ∧
      (tripped (committed cold)).mvs.tripped = true ∧ (committed cold).mvs.tripped = false ∧
      Stands 0x4A#8 (formOf []) [] (tripped (committed cold)) ∧ Stands 0x4A#8 (formOf []) [] (committed cold)) :=
  ⟨by decide, ⟨by decide, by decide, stands [] rfl⟩, ⟨by decide, by decide, by decide, by decide, stands [] rfl⟩,
    by decide, (fun ⟨h, _, _, e, _⟩ => e (by cases h <;> rfl)), by decide, by decide, stands [] rfl, stands [] rfl⟩

/-! Timers and districts. -/

def timed (y : Yard) : Yard :=
  { y with mvs := { y.mvs with inlets := y.mvs.inlets.set .h1 ⟨.opened, .shut, .running 0 120⟩ } }

def feeding (f : FeedState) (y : Yard) : Yard :=
  y.updDistrict .d1 fun r => { r with feed := f, runUp := .running 0 60, target := some 1000 }

theorem witness_TimersExpire :
    ((on (timed ready)).powered = true ∧ ((timed ready).mvs.valve ⟨.h1, .inlet⟩).timer = .running 0 120 ∧
      (timed ready).mvs.activeOrder .h1 = none) ∧
    (let y := released .outlet (stuck .fill .running);
      (y.mvs.valve ⟨.h1, .outlet⟩).timer = .running 0 120 ∧ y.yds.bind.valve ⟨.h1, .outlet⟩ = none ∧
        y.mvs.activeOrder .h1 ≠ none) ∧
    (∀ k, (stuck k .opening).CanShut [] [] { order41 k with state := .opening } (points41 k) ∧ (order41 k).holder = .h1 ∧
      ((stuck k .opening).mvs.valve ⟨.h1, .outlet⟩).timer = .running 0 120 ∧
      (stuck k .opening).yds.bind.valve ⟨.h1, .outlet⟩ ≠ none) ∧
    (∃ o, (stuck .fill .closing).mvs.orders = [] ++ o :: [] ∧ o.holder = .h1 ∧ o.state = .closing ∧
      (stuck .fill .closing).mvs.isCoupled .h1 = false ∧ (stuck .fill .closing).yds.bind.valve ⟨.h1, .inlet⟩ = some ⟨3, 0⟩ ∧
      ((stuck .fill .closing).mvs.valve ⟨.h1, .inlet⟩).timer = .running 0 120) ∧
    (let r := (feeding .boosting ready).dgu.districts.get .d1;
      r.runUp = .running 0 60 ∧ r.feed = .boosting ∧ (feeding .boosting ready).yds.bind.booster.get .d1 = some ⟨7, 1⟩ ∧
      r.target = some 1000 ∧ ({ feeding .boosting ready with dgu := { (feeding .boosting ready).dgu with available := some 0 } } :
        Yard).dgu.available = some 0) ∧
    ((feeding .boosting yard).yds.bind.booster.get .d1 = none) ∧
    (let r := (feeding .unboosting ready).dgu.districts.get .d1; r.runUp = .running 0 60 ∧ r.feed = .unboosting) ∧
    (((ready.updDistrict .d1 fun r => { r with adoptWait := .running 0 10 }).dgu.districts.get .d1).adoptWait = .running 0 10) :=
  ⟨by decide, by decide, fun k => ⟨canShut_stuck k, rfl, by cases k <;> decide⟩, ⟨_, rfl, rfl, rfl, rfl, rfl, rfl⟩,
    by decide, by decide, by decide, by decide⟩

/-- R34, R37: the timer of a valve released since its last command leaves the FILL running; bound, it closes it. -/
theorem test_released_valve_fails :
    let y (v : Yard → Yard) := (after (.valveTimerExpiry .h1 .outlet) (on (v (stuck .fill .running)))).yard
    ((y (released .outlet)).mvs.orders.map (fun o => (o.state, o.reason)), (y (released .outlet)).mvs.unmanaged.h1,
        (y (released .outlet)).notices.queue.map fun n => (n.kind, n.object)) =
        ([(.running, none)], true, [(.coldStarted, 0), (.valveStuck, 1)]) ∧
      (y id).mvs.orders.map (fun o => (o.state, o.reason)) = [(.closing, some .valveStuck)] := by decide +kernel

/-- R34, R38: the same for LOCAL, of a valve released and of a bound one. -/
theorem test_released_valve_local :
    let y (v : Yard → Yard) := valveOutcome ⟨.h1, .outlet⟩ .localHand (v (stuck .fill .running))
    ((y (released .outlet)).mvs.orders.map (·.state), (y (released .outlet)).mvs.unmanaged.h1) = ([.running], true) ∧
      (y id).mvs.orders = [] ∧ (y id).mvs.unmanaged.h1 = true := by decide

def flying (e : Exchange) : Flight := ⟨e, 50, 0, none, none⟩

/-- The line in a state with an exchange in flight. -/
def line (l : LineState) (e : Exchange) (timer : Option Time) (y : Yard) : Yard :=
  { y with ylc := { y.ylc with line := l, flight := some (flying e), timer := timer, brk := none, why := ⟨false, false, false⟩ } }

/-- A yard at MARK ORDER whose outlets of H1 report in some way, with D1 in some state. -/
def updating (rep : Reported) (f : DistrictDyn → DistrictDyn) : Yard :=
  let y := line .sending (.frame (.mark .order)) none ready
  { y.updDistrict .d1 f with mvs := { y.mvs with outlets := y.mvs.outlets.set .h1 ⟨.none, rep, .idle⟩ } }

theorem witness_DistrictUpdateMade :
    ((on (updating .opened id)).powered = true ∧ (updating .opened id).yds.desc = .committed ∧
      (updating .opened id).ylc.line = .sending ∧
      (updating .opened id).ylc.flight = some (flying (.frame (.mark .order))) ∧
      (flying (.frame (.mark .order))).exchange = .frame (.mark .order)) ∧
    (ready.yds.districts.get .d1 = some ⟨true, 600, 2000, 1000⟩ ∧ (600 : Int) ≤ 2000 ∧ 0 ≤ (ready.yds.feedSet.get .d1).slew) ∧
    ((updating .opened id).yds.holders.get .h1 ≠ none ∧ ((updating .opened id).mvs.outlets.get .h1).reported = .opened ∧
      ((updating .cracked id).mvs.outlets.get .h1).reported = .cracked) ∧
    (∀ h, ¬((updating .shut id).yds.holders.get h ≠ none ∧
      (((updating .shut id).mvs.outlets.get h).reported = .opened ∨ ((updating .shut id).mvs.outlets.get h).reported = .cracked))) ∧
    (ready.yds.districts.get .d2 = none) := by
  refine ⟨by decide, by decide, by decide, ?_, by decide⟩
  intro h; cases h <;> decide

/-- D1 after the update, H1 feeding the yard at no pressure: the target is 1,000 + the trim, the drop margin 250 Pa. -/
def updated (f : DistrictDyn → DistrictDyn) : DistrictDyn :=
  (after .frameSent (on (updating .opened f))).yard.dgu.districts.get .d1

theorem witness_feed_states :
    ((after .frameSent (on (updating .opened id))).yard.dgu.available = some (-100)) ∧
    ((after .frameSent (on (updating .shut id))).yard.dgu.available = none) ∧
    ((updated fun r => { r with adoption := true }).adoption = true) ∧
    ((updated fun r => { r with adoption := false }).feed = .boosting) ∧
    ((updated fun r => { r with adoption := false, failed := true }).feed = .short) ∧
    ((updated fun r => { r with adoption := false, boosterRep := .running }).feed = .boosted) ∧
    ((updated fun r => { r with adoption := false, feed := .boosted, trim := -1000 }).target = some 600) := by decide

/-- With the lowest target and no drop margin, measured at H1 in discord: DIRECT, UNBOOSTING and the end of BOOSTED. -/
def richly (f : DistrictDyn → DistrictDyn) : Yard :=
  let y := updating .opened f
  { y with hsu := { y.hsu with holders := y.hsu.holders.set .h1 { HolderDyn.fresh with pressure := 5000 } } }

theorem witness_feed_sufficient :
    let r (f : DistrictDyn → DistrictDyn) := (after .frameSent (on (richly f))).yard.dgu.districts.get .d1
    ((after .frameSent (on (richly id))).yard.dgu.available = some 4900 ∧ (1000 : Int) + 250 + 100 ≤ 4900) ∧
    (r fun r => { r with adoption := false, feed := .short }).feed = .direct ∧
    (r fun r => { r with adoption := false, feed := .unboosting }).feed = .unboosting ∧
    (r fun r => { r with adoption := false, feed := .boosted, hyst := 2 }).hyst = 3 ∧
    (r fun r => { r with adoption := false, feed := .boosted, hyst := 3 }).boosterCmd = .stop := by decide

/-! The yard line and the scan. -/

theorem witness_HeaderErrorsFound :
    7 < 8 ∧ 4 < 5 ∧ (0x01#8 : Byte).toNat < 64 ∧
    countOnes (headerBits 0x80#8 0x01#8) + countOnes (bitsOf 6 (0x00#8 : Byte).toNat) = 2 ∧
    countOnes (headerBits 0x80#8 0x00#8) + countOnes (bitsOf 6 (0x20#8 : Byte).toNat) = 2 ∧
    countOnes (headerBits 0x00#8 0x00#8) + countOnes (bitsOf 6 (0x30#8 : Byte).toNat) = 2 ∧ 64 ≤ (0x40#8 : Byte).toNat := by
  decide

def guarded (w : List Exchange) (y : Yard) : Yard :=
  { y with ylc := { y.ylc with line := .guard, waiting := w, brk := none, driving := false } }

/-- LINE RESET has asked for its long break meanwhile. -/
def asking (y : Yard) : Yard := { y with ylc := { y.ylc with again := true } }

theorem witness_FramesGoOut :
    State.reset.powered = true ∧
    ((guarded [] cold).ylc.line = .guard ∧ (guarded [] cold).lineSpace = false ∧ (guarded [] cold).ylc.waiting = [] ∧
      (guarded [] cold).ylc.again = false ∧ (asking (guarded [] cold)).ylc.again = true) ∧
    ((guarded [.frame (.read 5)] cold).ylc.waiting = .frame (.read 5) :: []) ∧
    ((guarded [.wake] cold).ylc.waiting = .wake :: []) ∧
    ((line .sending (.frame (.read 5)) none cold).ylc.line = .sending ∧
      (line .sending (.frame (.read 5)) none cold).ylc.flight = some (flying (.frame (.read 5))) ∧
      (Frame.read 5).replyKind ≠ none) ∧
    (cold.ylc.line = .breaking ∧ cold.ylc.driving = true ∧ cold.ylc.brk = some .long ∧ cold.ylc.again = false ∧
      cold.ylc.why.lineStart = true ∧ cold.ylc.why.recovery = false ∧ cold.ylc.waiting = [] ∧ 0 < cold.ylc.charTime ∧
      cold.lineSpace = false ∧ cold.scs.wakeDue = true ∧ cold.scs.dayOwed = false) ∧
    ({ cold with scs := { cold.scs with dayOwed := true } } : Yard).scs.dayOwed = true := by decide

def order3 : Command := ⟨3, 0, .valveOpen, 0, .valve ⟨.h1, .inlet⟩, 2, true, true⟩

def polledAs (st : EntryState) (sleeper : Bool) : Entry :=
  { entry 3 sleeper with dyn := { EntryDyn.fresh with state := st, failedWait := 4, identity := .matched } }

/-- A yard that has the header of a reply to a frame, with outstation 3 in the roster. -/
def answered (length : Nat) (f : Frame) (y : Yard) : Yard :=
  let z := rostered (line .receiving (.frame f) (some 1080) y) [entry 3 false]
  { z with ylc := { z.ylc with flight := some { flying (.frame f) with header := some (length, false) } } }

/-- A reply awaited, its header due, and its payload with a bad check; the three ways a header does not do, and the good one. -/
theorem witness_reply_comes_in :
    let u := (line .awaitReply (.frame (.probe 3)) (some 1200) cold).ylc
    ((State.reset.powered = true ∧ u.line = .awaitReply ∧ u.timer = some 1200 ∧ u.flight = some (flying (.frame (.probe 3)))) ∧
      max cold.now 1200 ≤ 1200 ∧ 1200 < max cold.now 1201) ∧
    ((line .receiving (.frame (.read 5)) (some 1080) cold).ylc.timer = some 1080 ∧ (flying (.frame (.read 5))).header = none ∧
      decodeHeader 0x20#8 0x00#8 0x2F#8 = none ∧ decodeHeader 0x25#8 0x00#8 0x2F#8 = some (0x25#8, 0x00#8, false) ∧
      (Frame.read 5).replyKind ≠ some ((0x25#8 : Byte).toNat / 32)) ∧
    (decodeHeader 0xA5#8 0x20#8 (checkByte 0xA5#8 0x20#8) = some (0xA5#8, 0x20#8, false) ∧
      (0xA5#8 : Byte).toNat % 32 = (Frame.read 5).address ∧ (Frame.read 5).replyKind = some ((0xA5#8 : Byte).toNat / 32) ∧
      1 ≤ (0x20#8 : Byte).toNat ∧ (0x20#8 : Byte).toNat ≤ 32) ∧
    (decodeHeader 0xA5#8 0x00#8 (checkByte 0xA5#8 0x00#8) = some (0xA5#8, 0x00#8, false) ∧ (0x00#8 : Byte).toNat = 0 ∧
      0 < (line .receiving (.frame (.read 5)) (some 1080) cold).ylc.charTime) ∧
    ([0x01#8, 0x00#8, 0x00#8].length = 1 + 2 ∧ [0x01#8, 0x00#8, 0x00#8].drop 1 ≠ crcBytes ([0x01#8, 0x00#8, 0x00#8].take 1) ∧
      (answered 1 (.read 3) ready).ylc.line = .receiving ∧ (answered 1 (.read 3) ready).ylc.timer = some 1080) := by
  refine ⟨⟨⟨rfl, rfl, rfl, rfl⟩, max_le (Nat.zero_le _) (le_refl _), lt_max_of_lt_right (Nat.lt_succ_self 1200)⟩, ?_⟩
  decide

/-- R110, R111: a header of length 0 to a READ ends the exchange PAYLOAD BAD, and the READ is begun again. -/
theorem test_length_0 :
    let z := rostered (line .receiving (.frame (.read 5)) (some 1080) ready) [entry 5 false]
    let y := (after (.replyHeaderReceived 0 0xA5#8 0x00#8 (checkByte 0xA5#8 0x00#8)) (on z)).yard
    (y.scs.roster.map fun e => (e.dyn.counters.payloadBad, e.dyn.misses)) = [(1, 0)] ∧ y.scs.retrying = true := by
  decide +kernel

/-- Outstation 3 as a sleeper. -/
def asleepAnswered (length : Nat) (y : Yard) : Yard := rostered (answered length (.read 3) y) [polledAs .live true]

/-- One entry of each status, two of them in one reply. -/
def entriesOf : List PointEntry := [⟨0, .fault, 0#24⟩, ⟨3, .good, 3#24⟩]

/-- A RUN or STOP that is sent for the booster of D1. -/
def booster7 (code : CmdCode) : Command := ⟨7, 1, code, 0, .booster .d1, 3, true, true⟩

theorem witness_ReplyTaken :
    (let f : Flight := { flying (.frame (.probe 3)) with header := some (5, true) };
      f.header = some (5, true) ∧ f.exchange = .frame (.probe 3) ∧
      [0x01#8, 0x03#8, 0x03#8, 0x03#8, 0x00#8].map (·.toNat) = [OutstationKind.code .actuator, fittedCode (some .valve),
        fittedCode (some .valve), fittedCode (some .valve), fittedCode none] ∧
      (rostered cold [entry 3 false]).scs.entryAt 3 = some (entry 3 false)) ∧
    (let y := asleepAnswered 7 ready;
      (y.ylc.line = .receiving ∧ y.ylc.timer = some 1080 ∧ y.scs.entryAt 3 = some (polledAs .live true)) ∧
      (polledAs .live true).sleeper = true ∧ (polledAs .live true).dyn.identity ≠ .mismatched ∧
      (polledAs .live true).points.get 1 = some .valve ∧ y.yds.bind.valve ⟨.h1, .outlet⟩ = some ⟨3, 1⟩ ∧
      (1#8 : Byte).toNat = [(⟨1, .good, 3#24⟩ : PointEntry)].length + 8 * false.toNat + 16 * false.toNat ∧
      (9#8 : Byte).toNat = [(⟨1, .good, 3#24⟩ : PointEntry)].length + 8 * true.toNat + 16 * false.toNat ∧
      (17#8 : Byte).toNat = [(⟨1, .good, 3#24⟩ : PointEntry)].length + 8 * false.toNat + 16 * true.toNat) ∧
    ((answered (3 + 4 * entriesOf.length) (.read 3) ready).ylc.flight.map (·.header) = some (some (11, false)) ∧
      (26#8 : Byte).toNat = entriesOf.length + 8 * true.toNat + 16 * true.toNat ∧
      (∀ x ∈ entriesOf, x.channel ≤ 3) ∧ entriesOf.Pairwise (fun x z => x.channel ≠ z.channel) ∧
      (∀ x ∈ entriesOf, x.status ≠ .fault → ((polledAs .live true).points.get x.channel = some .valve → x.raw.toNat ≤ 4) ∧
        ((polledAs .live true).points.get x.channel = some .booster → x.raw.toNat ≤ 2))) ∧
    (let y := { answered 2 (.order 3 0 .valveOpen 0) ready with scs := { ready.scs with commands := [order3] } };
      (y.ylc.flight.map (·.exchange)) = some (.frame (.order order3.outstation order3.channel order3.code order3.value)) ∧
      (0x05#8 : Byte).toNat ≤ 5 ∧ (0x00#8 : Byte).toNat = order3.channel ∧ y.scs.commands = [order3] ∧ order3.inFlight = true ∧
      y.yds.desc = .committed ∧ y.mvs.activeOrder .h1 = none) ∧
    (let y := { answered 2 (.order 3 0 .valveOpen 0) (released .inlet (stuck .fill .running)) with
        scs := { ready.scs with commands := [order3] } };
      y.scs.commands = [order3] ∧ order3.owner = .valve ⟨.h1, .inlet⟩ ∧ y.mvs.activeOrder .h1 ≠ none ∧
        y.yds.bind.valve ⟨.h1, .inlet⟩ = none) ∧
    (let y := { answered 2 (.load 3 1 0) ready with scs := { (answered 2 (.load 3 1 0) ready).scs with
        loads := [⟨3, 1, 0, 1, true, true⟩] } };
      y.scs.loads = [⟨3, 1, 0, 1, true, true⟩] ∧ y.scs.entryAt 3 = some (entry 3 false) ∧
      (y.ylc.flight.map (·.header)) = some (some (2, false))) := by
  decide

/-- The owners of an ORDER alone in the list: a valve whose holder's order is OPENING, RUNNING or CLOSING, and the booster of a
district BOOSTING or UNBOOSTING. -/
theorem witness_orders_answered :
    (∀ k, (stuck k .opening).CanShut [] [] { order41 k with state := .opening } (points41 k) ∧
      (working k none).CanShut [] [] (order41 k) (points41 k) ∧ (stuck k .opening).yds.bind.valve ⟨.h1, .inlet⟩ ≠ none ∧
      (working k none).yds.bind.valve ⟨.h1, .inlet⟩ ≠ none) ∧
    ((closingOf .draw 5 .landing).yds.bind.valve ⟨.h1, .inlet⟩ ≠ none ∧
      (closingOf .draw 5 .landing).mvs.orders.map (·.state) = [.closing] ∧ (closingOf .draw 5 .landing).mvs.isCoupled .h1 = false ∧
      (∀ o ∈ (closingOf .draw 5 .landing).mvs.orders, o.holder = .h1)) ∧
    (∀ f ∈ [FeedState.boosting, .unboosting, .direct], ∀ code ∈ [CmdCode.boosterRun, .boosterStop],
      let y := { answered 2 (.order 7 1 code 0) (feeding f ready) with scs := { ready.scs with commands := [booster7 code] } }
      y.scs.commands = [booster7 code] ∧ (booster7 code).inFlight = true ∧ (booster7 code).owner = .booster .d1 ∧
        (booster7 code).code = code ∧ ¬(booster7 code).sends < 3 ∧ (y.dgu.districts.get .d1).feed = f ∧
        (y.dgu.districts.get .d1).target = some 1000 ∧ y.yds.bind.booster.get .d1 = some ⟨7, 1⟩) :=
  ⟨fun k => ⟨canShut_stuck k, canShut_still k, by cases k <;> decide⟩, by decide, by decide⟩

/-- R108, R122, 10.6.3: the flags of a sleeper with one point: 1 stays awake, 9 is RESTARTED, 17 goes to sleep. -/
theorem test_sleeper_flags :
    let answer (flags : Byte) := (after (.replyComplete 500 ([flags, 0#8, 0#8, 0x01#8, 3#8, 0#8, 0#8]
      ++ crcBytes [flags, 0#8, 0#8, 0x01#8, 3#8, 0#8, 0#8])) (on (asleepAnswered 7 ready))).yard.scs.roster.map fun e =>
        (e.dyn.state, e.dyn.identity)
    answer 1#8 = [(.live, .matched)] ∧ answer 9#8 = [(.live, .unchecked)] ∧ answer 17#8 = [(.asleep, .matched)] := by
  decide +kernel

/-- R92: a STOP refused leaves D1 DIRECT, its mark as it stood; R90: a RUN undelivered leaves it SHORT with a STOP put. -/
theorem test_booster_answered :
    let answer (f : FeedState) (code : CmdCode) (ack : Byte) :=
      (after (.replyComplete 500 ([ack, 1#8] ++ crcBytes [ack, 1#8])) (on
        { answered 2 (.order 7 1 code 0) (feeding f ready) with scs := { ready.scs with commands := [booster7 code] } })).yard
    (((answer .unboosting .boosterStop 5#8).dgu.districts.get .d1).feed = .direct ∧
      ((answer .unboosting .boosterStop 5#8).dgu.districts.get .d1).failed = false) ∧
    (((answer .boosting .boosterRun 2#8).dgu.districts.get .d1).feed = .short ∧
      (answer .boosting .boosterRun 2#8).scs.commands.map (fun c => (c.outstation, c.code)) = [(7, .boosterStop)]) := by
  decide +kernel

/-- R36, R120: a valve report that a VALUES reply brings, and its status. -/
theorem test_values_valve :
    let y := (after (.replyComplete 500 ([0x01#8, 0#8, 0#8, 0x01#8, 3#8, 0#8, 0#8]
      ++ crcBytes [0x01#8, 0#8, 0#8, 0x01#8, 3#8, 0#8, 0#8])) (on (answered 7 (.read 3) ready))).yard
    y.mvs.outlets.h1.reported = .moving ∧ (y.scs.roster.map fun e => (e.dyn.state, e.dyn.misses)) = [(.live, 0)] := by
  decide +kernel

/-- R35, R129: an ORDER refused fails its valve. -/
theorem test_order_refused :
    let y := { answered 2 (.order 3 0 .valveOpen 0) ready with scs := { ready.scs with commands := [order3] } }
    let z := (after (.replyComplete 500 ([5#8, 0#8] ++ crcBytes [5#8, 0#8])) (on y)).yard
    z.scs.commands = [] ∧ z.mvs.unmanaged.h1 = true ∧
      z.notices.queue.map (fun n => (n.kind, n.object)) = [(.coldStarted, 0), (.valveStuck, 1)] := by decide +kernel

theorem witness_ReplyLost :
    (let y := { rostered (line .awaitReply (.frame (.read 3)) (some 1200) cold) [entry 3 false] with now := 1200 };
      State.reset.powered = true ∧ y.ylc.line = .awaitReply ∧ y.ylc.timer = some 1200 ∧
      y.ylc.flight = some (flying (.frame (.read 3))) ∧ y.ylc.waiting = [] ∧ y.ylc.again = false ∧ y.scs.retrying = false ∧
      y.scs.entryAt 3 = some (entry 3 false) ∧ y.lineSpace = false) ∧
    (max 0 1200 - 0 < 16800 * 15) ∧ (0 + 2 * 200 ≤ max 0 1200) ∧ (max 0 399 < 0 + 2 * 200) ∧
    ((line .receiving (.frame (.read 3)) (some 1080) cold).ylc.line = .receiving ∧
      (line .receiving (.frame (.read 3)) (some 1080) cold).ylc.timer = some 1080) ∧
    (let f : Flight := { flying (.frame (.order 3 0 .valveOpen 0)) with decided := some .uncorrectable };
      let y := line .draining (.frame (.order 3 0 .valveOpen 0)) (some 1080) cold;
      let z : Yard := { y with ylc := { y.ylc with flight := some f }, scs := { y.scs with commands := [order3] } };
      z.ylc.line = .draining ∧ z.ylc.timer = some 1080 ∧ z.ylc.flight = some f ∧ f.decided = some .uncorrectable ∧
      f.exchange = .frame (.order order3.outstation order3.channel order3.code order3.value) ∧ z.lineSpace = false ∧
      z.ylc.busy + 2 * z.ylc.charTime = 400 ∧ z.ylc.waiting = [] ∧ z.ylc.again = false ∧ z.scs.commands = [order3] ∧ order3.inFlight = true ∧
      order3.taken = true ∧ order3.sends < 3) ∧
    (400 ≤ 1080 ∧ max 0 400 < 0 + 24000 * 15) := by
  refine ⟨by decide, by omega, by omega, by omega, by decide, by decide, by omega, by omega⟩

def spaced (y : Yard) : Yard := { y with lineSpace := true, ylc := { y.ylc with detector := some 0, driving := false } }

def heldLine (y : Yard) : Yard := { y with ylc := { y.ylc with line := .held, driving := false, brk := none } }

theorem witness_LineHeldAndReleased :
    ((guarded [] cold).ylc.driving = false ∧ (guarded [] cold).lineSpace = false ∧ State.reset.powered = true) ∧
    ((spaced (guarded [] cold)).lineSpace = true ∧ (spaced (guarded [] cold)).ylc.line ≠ .breaking) ∧
    ((spaced cold).ylc.driving = false ∧ (spaced cold).lineSpace = true ∧ (spaced cold).ylc.line = .breaking) ∧
    ((spaced (guarded [] cold)).ylc.driving = false ∧ (spaced (guarded [] cold)).ylc.line ≠ .held ∧
      (spaced (guarded [] cold)).ylc.detector = some 0 ∧ (spaced (guarded [] cold)).ylc.flight = none) ∧
    (let y := rostered (spaced (line .receiving (.frame (.probe 3)) (some 1080) cold)) [entry 3 true];
      y.ylc.driving = false ∧ y.ylc.line ≠ .held ∧ y.ylc.detector = some 0 ∧ y.ylc.flight = some (flying (.frame (.probe 3))) ∧
      y.scs.entryAt 3 = some (entry 3 true)) ∧
    ((heldLine cold).ylc.line = .held ∧ (heldLine cold).lineSpace = false ∧ (guarded [] cold).ylc.detector = none) ∧
    (let y : Yard := { cold with ylc := { cold.ylc with why := ⟨false, false, true⟩ } };
      y.ylc.line = .breaking ∧ y.ylc.driving = true ∧ y.ylc.brk = some .long ∧ y.ylc.again = false ∧
      y.ylc.why = ⟨false, false, true⟩ ∧ 0 < y.ylc.charTime ∧ y.lineSpace = false) := by decide

/-- R116, log 19: a cold start that finds the line at space begins its long break when the line returns to mark. -/
theorem test_line_start_at_space :
    let y := (after (.lineReturnsToMark 700) (on (Yard.cold false true))).yard.ylc
    (y.line, y.driving, y.brk, y.began, y.detector) = (.breaking, true, some .long, 700, none) := by decide

def idle (y : Yard) : Yard := { y with ylc := { y.ylc with line := .idle, driving := false, brk := none } }

theorem witness_ScanCycleStarts :
    (cold.scs.phase ≠ .wait ∧ State.reset.powered = true) ∧
    (let y : Yard := { idle cold with scs := { cold.scs with phase := .wait } };
      y.scs.phase = .wait ∧ y.ylc.line = .idle ∧ y.scs.wakeDue = true ∧ y.scs.dayOwed = false) ∧
    (let y : Yard := { idle cold with scs := { cold.scs with phase := .wait, dayOwed := true } }; y.scs.dayOwed = true) ∧
    (let e : Entry := { entry 3 true with dyn := { EntryDyn.fresh with state := .waking } };
      let y : Yard := { idle (rostered cold [e]) with scs := { cold.scs with roster := [e], sleepWait := some 3, toPoll := [3] } };
      y.scs.sleepWait = some 3 ∧ y.scs.toPoll = 3 :: [] ∧ y.scs.entryAt 3 = some e ∧ e.sleeper = true ∧ e.dyn.state = .waking ∧
      y.ylc.line = .idle) ∧
    (max 0 (0 + 24000) - 0 < 16800 * 15) := by
  refine ⟨by decide, by decide, by decide, by decide, by omega⟩

theorem witness_LoadQueuedLineReset :
    (ready.yds.desc = .committed ∧ ready.scs.entryAt 30 = none ∧
      Stands 0x51#8 (formOf layLoad) [some (30 : Nat), some 0, some 0] ready) ∧
    ((rostered ready [entry 3 false]).scs.entryAt 3 ≠ none ∧ ((-1 : Int) < 0 ∨ (255 : Int) < -1) ∧
      Stands 0x51#8 (formOf layLoad) [some (3 : Nat), some (-1), some 0] (rostered ready [entry 3 false]) ∧
      Stands 0x51#8 (formOf layLoad) [some (3 : Nat), some 256, some 0] (rostered ready [entry 3 false])) ∧
    (4 ≤ (List.replicate 4 (⟨3, 0, 0, 0, false, false⟩ : Load)).length ∧ (rostered ready [entry 3 false]).scs.loads.length < 4 ∧
      Stands 0x51#8 (formOf layLoad) [some (3 : Nat), some 255, some 16777215] (rostered ready [entry 3 false]) ∧
      Stands 0x51#8 (formOf layLoad) [some (3 : Nat), some 0, some (-8388608)] (rostered ready [entry 3 false])) ∧
    (((guarded [] ready).ylc.line = .guard ∧ (guarded [] ready).lineSpace = false ∧ (heldLine ready).ylc.line = .held ∧
        (idle ready).ylc.line = .idle ∧ ready.ylc.line = .breaking ∧ ready.ylc.driving = true ∧ ready.scs.commands = []) ∧
      (let y := { line .sending (.frame (.read 5)) none ready with now := 300 };
        y.ylc.line = .sending ∧ y.ylc.flight = some (flying (.frame (.read 5))) ∧ 0 < y.ylc.charTime ∧ y.ylc.began ≤ y.now ∧
        y.now ≤ y.ylc.began + (Frame.read 5).bytes.length * y.ylc.charTime ∧
        y.ylc.began + (Frame.read 5).bytes.length * y.ylc.charTime < 601) ∧
      (let c : Command := ⟨7, 0, .governorSet, 1200, .governor .d1, 0, false, false⟩; c.owner = .governor .d1) ∧
      Stands 0x50#8 (formOf []) [] ready) :=
  ⟨⟨by decide, by decide, stands (writeFields layLoad [some 30, some 0, some 0]) (by decide)⟩,
    ⟨by decide, by decide, stands (writeFields layLoad [some 3, some (-1), some 0]) (by decide),
      stands (writeFields layLoad [some 3, some 256, some 0]) (by decide)⟩,
    ⟨by decide, by decide, stands (writeFields layLoad [some 3, some 255, some 16777215]) (by decide),
      stands (writeFields layLoad [some 3, some 0, some (-8388608)]) (by decide)⟩,
    ⟨by decide, by decide, by decide, stands [] rfl⟩⟩

/-- R112: asked for in the second character of a frame, the long break begins at its end; in GUARD it waits for IDLE. -/
theorem test_line_reset :
    (askLong { line .sending (.frame (.read 5)) none ready with now := 300 }).ylc.began = 400 ∧
      (askLong { line .sending (.frame (.read 5)) none ready with now := 300 }).ylc.line = .breaking ∧
      (askLong { guarded [] ready with now := 0 }).ylc.line = .guard ∧
      (askLong { guarded [] ready with now := 0 }).ylc.again = true := by decide

/-! Stock, quantities, accounts. -/

/-- H1 with its travel and a computation in hand. -/
def computing (t : Int) : Yard :=
  { atTravel t with hsu := { (atTravel t).hsu with stockJobs := [jobH1 t], closingJobs := [⟨jobH1 t, 212, 95⟩] } }

theorem witness_StockReturned :
    (let y := computing 9500;
      (on y).powered = true ∧ y.yds.desc = .committed ∧ y.hsu.stockJobs = jobH1 9500 :: [] ∧ (jobH1 9500).holder = .h1 ∧
      y.mvs.orders = [] ∧ (y.hsu.holders.get .h1).travel = some ⟨9500, .live⟩ ∧
      y.yds.geometry.get .h1 = some (geometryOf recH1) ∧ (9500 : Int) < (geometryOf recH1).full) ∧
    (let y := withDay 212 (computing 20999);
      y.hsu.closingJobs = ⟨jobH1 20999, 212, 95⟩ :: [] ∧ y.soa.current = some (dayOf 212) ∧ (dayOf 212).day = 212 ∧
      (20999 : Int) < (geometryOf recH1).full) ∧
    ((working .fill (some 20700)).CanShut [] [] (order41 .fill) (points41 .fill) ∧
      (working .draw (some 200)).CanShut [] [] (order41 .draw) (points41 .draw) ∧
      (working .float none).CanShut [] [] (order41 .float) (points41 .float)) ∧
    ((order41 .fill).kind ≠ .draw ∧ (geometryOf recH1).topStop ≤ 20700 ∧ (20700 : Int) < (geometryOf recH1).full ∧
      (200 : Int) ≤ (geometryOf recH1).landing ∧ ¬((201 : Int) ≤ (geometryOf recH1).landing) ∧
      (points41 .fill = [(⟨.h1, .inlet⟩, ⟨3, 0⟩)]) ∧
      (∃ b ∈ (geometryOf recH1).bands, b.1 ≤ (6600 : Int) ∧ (6600 : Int) ≤ b.2) ∧
      (∀ b ∈ (geometryOf recH1).bands, (7401 : Int) < b.1 ∨ b.2 < (7401 : Int)) ∧
      ((working .float (some 9000)).hsu.holders.get .h1).stock = some 9000000 ∧
      ((working .float (some 9000)).hsu.holders.get .h1).status ≠ .unknown ∧
      (order41 .float).stockDir = .unset) := by
  refine ⟨⟨rfl, rfl, rfl, rfl, rfl, rfl, rfl, by decide⟩, ⟨rfl, rfl, rfl, by decide⟩, ⟨canShut .., canShut .., canShut ..⟩, ?_⟩
  decide

/-- R45 to R48 at the readings of a FILL: the top stop, a cupping band, and a band left behind. -/
theorem test_fill_readings :
    let ends (t : Int) := (mvsReading .h1 (working .fill (some t))).mvs.orders.map fun o => (o.state, o.reason)
    let passed (y : Yard) : Yard := { y with mvs := { y.mvs with prevTravel := y.mvs.prevTravel.set .h1 (some 6000) } }
    ends 20700 = [(.closing, some .topStop)] ∧ ends 20699 = [(.running, none)] ∧
      (mvsReading .h1 (working .fill (some 7400))).mvs.inlets.h1.commanded = .cracked ∧
      (mvsReading .h1 (working .fill (some 7401))).mvs.inlets.h1.commanded = .opened ∧
      ((mvsReading .h1 (passed (working .fill (some 7401)))).notices.queue.map fun n => (n.kind, n.object, n.datum)) =
        [(.coldStarted, 0, 0), (.bandPassed, 1, 1)] := by decide

/-- The result of the worked computation in the record of H1 (R23, R24). -/
theorem test_stock_recorded :
    let r := (after (.stockComputationResult .h1) (on (computing 9500))).yard.hsu.holders.h1
    r.stock = some 7833532 ∧ r.zone = 2 ∧ r.pressure = 1750 ∧ r.status = .good := by decide

theorem witness_StockStagesWorked :
    (let ls : List Lift := [⟨80000, 7000, 1250⟩, ⟨86000, 7000, 500⟩]; ls ≠ [] ∧ (∀ l ∈ ls, 0 < l.stroke) ∧ (0 : Int) ≤ 7000) ∧
    (8 ≤ 8 ∧ (-50 : Int) ≤ -50 ∧ (350 : Int) ≤ 350 ∧ 7 < 8 ∧ 50 * (7 : Int) - 50 ≤ 301 ∧ (301 : Int) ≤ 50 * 7 ∧
      (0 : Int) < 27315 + 10 * -200) := by decide

/-- R19: the dry pressure never falls below 45,000 Pa, and is marked CLAMPED there. -/
theorem test_dry_pressure : dryPressure 45000 1000 1000 = (45000, false) ∧ dryPressure 45000 999 1000 = (45000, true) := by decide

theorem test_vapour : vapourPressure .cold 124 = 1457 ∧ vapourPressure .cold 86 = 1128 := by decide

def based (b : Option Nat) (y : Yard) : Yard := y.updRec .makeMeter fun r => { r with base := b, scans := 1 }

/-- H1 and H2 with a travel and no temperature of their own. -/
def bothMeasured : Yard :=
  { sampled with hsu := { sampled.hsu with
    holders := (sampled.hsu.holders.set .h1 { HolderDyn.fresh with travel := some ⟨9500, .live⟩ }).set .h2
      { HolderDyn.fresh with travel := some ⟨9500, .live⟩ } } }

/-- H1 with its discord flag and counts. -/
def discordant (flag : Bool) (outs ins : Nat) : Yard :=
  { ready with hsu := { ready.hsu with holders := ready.hsu.holders.set .h1 { HolderDyn.fresh with
    travel := some ⟨9500, .live⟩, discord := flag, outCount := outs, inCount := ins } } }

/-- OUTLET PRESS bound and LIVE, its outstation polled without a value, a number of periods since good. -/
def polledOnce (since : Nat) : Yard :=
  let y := (live .outletPress 2000 ready).updRec .outletPress fun r => { r with since := since }
  { y with
    yds := { y.yds with bind := { y.yds.bind with slots := y.yds.bind.slots.set .outletPress ⟨some ⟨5, 2⟩, none⟩ } }
    qpr := { y.qpr with polled := [5] } }

theorem witness_SamplesTaken :
    ((cold.yds.subs.get .outletPress).low ≤ (cold.yds.subs.get .outletPress).high ∧
      (cold.yds.subs.get (.farPress .d8)).low ≤ (cold.yds.subs.get (.farPress .d8)).high ∧
      (ready.yds.subs.get (.travel .h1)).low ≤ (ready.yds.subs.get (.travel .h1)).high) ∧
    (yard.yds.desc = .opened ∧ yard.yds.geometry.get .h1 = none ∧ sampled.yds.desc = .committed ∧
      (sampled.yds.holders.get .h1).isSome = true ∧ sampled.yds.geometry.get .h1 = some (geometryOf recH1) ∧
      sampled.hsu.baro = some ⟨101200, .live⟩ ∧
      (sampled.hsu.holders.get .h1).temp.map (fun a => (a.value, some a.source)) = some (124, some .live) ∧
      ready.hsu.baro = none ∧ ready.mvs.orders = [] ∧ (20999 : Int) < (geometryOf recH1).full) ∧
    ((∀ h ∈ Holder.list, (lostTravel.yds.holders.get h).isSome = true → (lostTravel.hsu.holders.get h).travel ≠ none →
        lostTravel.yds.geometry.get h ≠ none ∧ (lostTravel.hsu.holders.get h).temp ≠ none) ∧ lostTravel.yds.desc = .committed ∧
      (sampled.qpr.recs.get .yardTemp).source = .none ∧
      (∀ h ∈ Holder.list, (bothMeasured.yds.holders.get h).isSome = true → (bothMeasured.hsu.holders.get h).temp = none →
        bothMeasured.yds.geometry.get h ≠ none ∧ (bothMeasured.hsu.holders.get h).travel ≠ none) ∧
      bothMeasured.hsu.baro = some ⟨101200, .live⟩) ∧
    ((discordant false 2 0).yds.desc = .committed ∧ ((discordant false 2 0).hsu.holders.get .h1).travel ≠ none ∧
      (∀ o ∈ (discordant false 2 0).mvs.orders, o.state ≠ .running) ∧
      ((discordant true 0 2).hsu.holders.get .h1).discord = true ∧
      ((discordant false 2 0).yds.limits.get .h1).discordTol < 5000) ∧
    (let y := withRecord (emptyRecord 1 0) (based (some 999000) yard);
      y.qpr.current = some (emptyRecord 1 0) ∧ (y.qpr.recs.get (meterSlot .make)).base = some 999000) ∧
    (let y := withRecord (emptyRecord 1 0) (based none yard); (y.qpr.recs.get (meterSlot .make)).base = none) ∧
    (ready.yds.slotPresent .outletPress = true ∧ ((polledOnce 0).qpr.recs.get .outletPress).source = .live ∧
      ((polledOnce 0).qpr.recs.get .outletPress).candidate = none ∧
      (∃ p : Point, ((polledOnce 0).yds.bind.slots.get .outletPress).primary = some p ∧ p.outstation ∈ (polledOnce 0).qpr.polled) ∧
      ((polledOnce 0).qpr.recs.get .outletPress).since < ((polledOnce 0).yds.subs.get .outletPress).hold ∧
      ((polledOnce 0).yds.subs.get .outletPress).hold ≤ ((polledOnce 2).qpr.recs.get .outletPress).since) := by
  refine ⟨by decide, by decide, by decide, by decide, ⟨rfl, rfl⟩, rfl, ⟨by decide, by decide, by decide, ?_, by decide⟩⟩
  exact ⟨⟨5, 2⟩, rfl, by decide⟩

/-- R26: the third sample out of tolerance sets the flag and raises PRESSURE DISCORD. -/
theorem test_discord :
    let y := pressSample .h1 ⟨5000, .live⟩ (discordant false 2 0)
    (y.hsu.holders.h1.discord, y.hsu.holders.h1.outCount) = (true, 0) ∧
      y.notices.queue.map (fun n => (n.kind, n.object, n.datum)) = [(.coldStarted, 0, 0), (.pressureDiscord, 1, 5000)] ∧
      (pressSample .h1 ⟨5000, .live⟩ (discordant false 1 0)).hsu.holders.h1.outCount = 2 := by decide

/-- R137, R138: a value not accepted though polled is HELD, and NONE once its hold of two periods has run out. -/
theorem test_phase_end :
    ((slotPhaseEnd (polledOnce 1) .outletPress).qpr.recs.get .outletPress).source = .held ∧
      ((slotPhaseEnd (polledOnce 2) .outletPress).qpr.recs.get .outletPress).source = .none := by decide

/-- The delta goes round the dial, and past the limit of 5,000 counts becomes the limit with METER JUMP (R139). -/
theorem test_meter_delta :
    let y := withRecord (emptyRecord 1 0) (based (some 999000) yard)
    let r (n : Nat) := meterSample .make n false y
    ((r 4000).qpr.current.map fun c => ((c.entries.get .makeMeter).deltas, (c.entries.get .makeMeter).jump)) = some (5000, false) ∧
      ((r 4001).qpr.current.map fun c => ((c.entries.get .makeMeter).deltas, (c.entries.get .makeMeter).jump)) = some (5000, true) ∧
      ((r 4001).notices.queue.map fun n => (n.kind, n.object, n.datum)) = [(.coldStarted, 0, 0), (.meterJump, 4, 5001)] := by
  decide +kernel

/-- The correction of the worked period: D1 with 250,000 L in period 31 (9.4). -/
def correction : Correction := ⟨.district .d1, 212, 31, 250000000, 1500, 86, 100800, false⟩

def correcting : Yard :=
  { withDay 212 ready with
    qpr := { ready.qpr with ring := [emptyRecord 212 31] }
    soa := { (withDay 212 ready).soa with corrections := [correction] } }

/-- The pending day whose last remainder is in hand, the book empty. -/
def closing (rs : List Remainder) : Yard :=
  { ready with soa := { ready.soa with
    current := some (dayOf 213), pending := some ⟨dayOf 212, true, true⟩, remainders := rs } }

def remainder : Remainder := ⟨.make, 7600000, 1500, 86, 100800⟩

/-- The make meter bound, its AFTER MARKER delta of 100 counts just taken, day 212 pending with the marker out. -/
def latching : Yard :=
  let y := closing []
  { y with
    yds := { y.yds with bind := { y.yds.bind with slots := y.yds.bind.slots.set .makeMeter ⟨some ⟨5, 1⟩, none⟩ } }
    soa := { y.soa with
      markerOut := true, pending := some ⟨dayOf 212, false, false⟩, seen := y.soa.seen.set .make ⟨some 1100, some 1000, some 100⟩
      corrections := [correction] } }

/-- R152: the remainder part of a latch is held to no more than the delta. -/
theorem test_latch :
    let m (latched : Nat) := ((soaLatch ⟨5, 1⟩ latched latching).soa.pending.map fun p =>
      ((p.day.meters.get .make).remainder, (p.day.meters.get .make).latched, p.due))
    m 1040 = some (40 * latching.yds.makeFactor, true, true) ∧ m 1101 = some (100 * latching.yds.makeFactor, true, true) := by
  decide

theorem witness_MeterVolumesTaken :
    (yard.yds.desc = .opened ∧ (committed cold).yds.desc = .committed ∧ cold.soa.current = none ∧
      (withDay 212 ready).soa.pending = none ∧ latching.soa.current ≠ none) ∧
    (latching.soa.pending = some ⟨dayOf 212, false, false⟩ ∧ latching.yds.meterBound .make = true ∧
      (latching.yds.bind.slots.get (meterSlot .make)).primary = some ⟨5, 1⟩ ∧
      (∀ n ∈ Meter.list, n ≠ .make → latching.yds.meterBound n = false) ∧ latching.soa.markerOut = true ∧
      ((dayOf 212).meters.get .make).latched = false ∧ (latching.soa.seen.get .make).delta = some 100 ∧
      (∃ c ∈ latching.soa.corrections, c.day = (dayOf 212).day) ∧ cold.soa.markerOut = false) ∧
    ((on correcting).powered = true ∧ correcting.soa.corrections = correction :: [] ∧ correction.meter = .district .d1 ∧
      correction.period = 31 ∧ correcting.soa.current = some (dayOf 212) ∧ (dayOf 212).day = correction.day ∧
      correcting.soa.pending = none ∧ correcting.qpr.ring = [] ++ [emptyRecord 212 31]) ∧
    ((closing [remainder]).soa.pending = some ⟨dayOf 212, true, true⟩ ∧ (closing [remainder]).soa.remainders = [remainder] ∧
      remainder.meter = .make ∧ (closing [remainder]).soa.book.length ≤ 14 ∧ (closing [remainder]).notices.queue ≠ []) ∧
    ((closing [remainder, remainder]).soa.remainders = remainder :: remainder :: []) ∧
    ({ closing [remainder] with notices := ⟨[], 0⟩ } : Yard).notices.queue = [] :=
  ⟨by decide, by decide, ⟨rfl, rfl, rfl, rfl, rfl, rfl, rfl, rfl⟩, ⟨rfl, rfl, rfl, by decide, by decide⟩, rfl, rfl⟩

/-- 9.4: D1 takes 255,293 L and 4,748,449,800 J, its peak in period 31. -/
theorem test_period_correction :
    ((after (.meterVolumeResult (.district .d1) 31) (on correcting)).yard.soa.current.map fun d =>
      let m := d.meters.districts.d1
      (m.volume, m.heat, m.peakPeriod, m.peakVolume)) = some (255293, 4748449800, some 31, 255293) := by decide +kernel

/-- R153 to R156: the last remainder closes day 212. -/
theorem test_day_closed :
    let y := (after (.remainderResult .make) (on (closing [remainder]))).yard
    y.soa.pending = none ∧ y.soa.book.map (·.day) = [212] ∧
      y.notices.queue.map (fun n => (n.kind, n.object, n.datum)) = [(.coldStarted, 0, 0), (.dayClosed, 212, 212)] := by
  decide +kernel

/-! Queries, notices, resets. -/

/-- A day book with one entry. -/
def booked (y : Yard) : Yard :=
  { y with soa := { y.soa with book := [⟨212, .working, ⟨false, true, false, false⟩, 52180000, 53230000, 41357761, 0, 40180286,
    127475, some 3, (Districts.all none).set .d1 (some ⟨255293, 4748449800, some 31, 255293, 0, 0, [255293]⟩)⟩] } }

theorem witness_QueriesAnswer :
    Front (asked 0x60#8 [] cold) ⟨0x60#8, 0#8, [], false⟩ [] [] ∧
    (cold.yds.holders.get .h1 = none ∧ yard.yds.holders.get .h1 = some recH1 ∧
      Stands 0x61#8 (formOf layObject) [some (Holder.number .h1 : Int)] yard) ∧ Stands 0x62#8 (formOf []) [] yard ∧
    (cold.yds.districts.get .d1 = none ∧ yard.yds.districts.get .d1 = some ⟨true, 600, 2000, 1000⟩ ∧
      Stands 0x63#8 (formOf layObject) [some (District.number .d1 : Int)] yard) ∧
    (cold.scs.entryAt 255 = none ∧ (rostered cold [entry 3 false]).scs.entryAt 3 = some (entry 3 false) ∧
      Stands 0x64#8 (formOf layObject) [some (255 : Nat)] cold) ∧
    (cold.yds.slotPresent (.meter .d8) = false ∧ cold.yds.slotPresent .baro = true ∧
      Stands 0x65#8 (formOf layObject) [some (Slot.code (.meter .d8) : Int)] cold) ∧
    (8 ≤ 8 ∧ cold.qpr.ring.reverse[8 - 1]? = none ∧ (withRecord (emptyRecord 1 0) cold).qpr.current = some (emptyRecord 1 0) ∧
      Stands 0x66#8 (formOf layPeriod) [some (8 : Nat), some 0] cold) ∧
    (cold.soa.current = none ∧ (withDay 212 ready).soa.current = some (dayOf 212) ∧
      Stands 0x67#8 (formOf layDay) [some 0, some 0] cold) ∧
    (cold.soa.book.length ≤ cold.soa.cursor ∧ Stands 0x68#8 (formOf layBook) [some 0, some 1, some 0] cold) ∧
    (∃ e, (booked cold).soa.book[(booked cold).soa.cursor]? = some e ∧ (booked cold).soa.book = [] ++ [e] ∧
      Stands 0x68#8 (formOf layBook) [some 0, some 0, some 0] (booked cold) ∧
      Stands 0x68#8 (formOf layBook) [some 0, some 0, some 1] (booked cold)) ∧
    ((8 < 9 ∧ 14 < 15 ∧ (8 < 9 ∧ yard.yds.holders.get .h2 ≠ none ∧ yard.yds.districts.get .d1 ≠ none)) ∧
      Stands 0x66#8 (formOf layPeriod) [some (9 : Nat), some (255 : Nat)] yard ∧
      Stands 0x66#8 (formOf layPeriod) [some (0 : Nat), some (15 : Nat)] yard ∧
      Stands 0x66#8 (formOf layPeriod) [some (0 : Nat), some (Holder.number .h2 : Int)] (withRecord (emptyRecord 1 0) yard) ∧
      Stands 0x66#8 (formOf layPeriod) [some (0 : Nat), some ((6 + District.number .d8 : Nat) : Int)]
        (withRecord (emptyRecord 1 0) yard)) ∧
    (((closing []).soa.pending.map (·.day) = some (dayOf 212) ∧ ready.yds.districts.get .d1 ≠ none) ∧
      Stands 0x67#8 (formOf layDay) [some (9 : Nat), some (if true then 1 else 0)] (closing []) ∧
      Stands 0x67#8 (formOf layDay) [some (District.number .d1 : Int), some (if true then 1 else 0)] (closing []) ∧
      Stands 0x67#8 (formOf layDay) [some (District.number .d8 : Int), some (if false then 1 else 0)] (closing [])) ∧
    (Stands 0x68#8 (formOf layBook) [some (9 : Nat), some (if true then 1 else 0), some (if true then 1 else 0)] (booked cold) ∧
      Stands 0x68#8 (formOf layBook) [some (District.number .d1 : Int), some (if true then 1 else 0), some (if false then 1 else 0)]
        (booked cold) ∧
      Stands 0x68#8 (formOf layBook) [some (District.number .d2 : Int), some (if true then 1 else 0), some (if true then 1 else 0)]
        (booked cold)) :=
  ⟨front .., ⟨by decide, by decide, stands [1#8] (by decide)⟩, stands [] rfl, ⟨by decide, by decide, stands [1#8] (by decide)⟩,
    ⟨by decide, by decide, stands [255#8] (by decide)⟩, ⟨by decide, by decide, stands [46#8] (by decide)⟩,
    ⟨by decide, by decide, rfl, stands [8#8, 0#8] (by decide)⟩, ⟨by decide, rfl, stands [0#8, 0#8] (by decide)⟩,
    ⟨by decide, stands [0#8, 1#8, 0#8] (by decide)⟩,
    ⟨_, rfl, rfl, stands [0#8, 0#8, 0#8] (by decide), stands [0#8, 0#8, 1#8] (by decide)⟩,
    ⟨by decide, stands [9#8, 255#8] (by decide), stands [0#8, 15#8] (by decide), stands [0#8, 2#8] (by decide),
      stands [0#8, 14#8] (by decide)⟩,
    ⟨⟨rfl, by decide⟩, stands [9#8, 1#8] (by decide), stands [1#8, 1#8] (by decide), stands [8#8, 0#8] (by decide)⟩,
    stands [9#8, 1#8, 1#8] (by decide), stands [1#8, 1#8, 0#8] (by decide), stands [2#8, 1#8, 1#8] (by decide)⟩

/-- R157, R165: an absent district is refused NO SUCH with the cursor where it stood; a present one moves it on. -/
theorem test_day_book_district :
    (readDayBook 2 true true (booked cold)).2 = .refuse .noSuch [.u8 1] ∧
      (readDayBook 2 true true (booked cold)).1.soa.cursor = 0 ∧ (readDayBook 1 true true (booked cold)).1.soa.cursor = 1 := by
  decide

def notice (k : NoticeKind) (o : Nat) : Notice := ⟨k, o, none, none, 0, 255⟩

theorem witness_NoticeRaisedAndTaken :
    (([notice .trip 0, notice .valveStuck 1, notice .valveStuck 2] : List Notice) =
        [notice .trip 0] ++ notice .valveStuck 1 :: [notice .valveStuck 2] ∧ (notice .valveStuck 1).kind = .valveStuck ∧
      (notice .valveStuck 1).object = 1 ∧
      (∀ x ∈ [notice .trip 0] ++ [notice .valveStuck 2], ¬(x.kind = .valveStuck ∧ x.object = 1))) ∧
    ((∀ x ∈ (List.range 31).map (notice .valveStuck), ¬(x.kind = .trip ∧ x.object = 0)) ∧
      ((List.range 31).map (notice .valveStuck)).length < 32 ∧ 32 ≤ ((List.range 32).map (notice .valveStuck)).length) ∧
    ((cold.notices = ⟨⟨.coldStarted, 0, none, none, 0, 1⟩ :: [], 0⟩) ∧ Stands 0x70#8 (formOf []) [] cold) ∧
    (({ cold with notices := ⟨[], 65535⟩ } : Yard).notices = ⟨[], 65535⟩ ∧
      Stands 0x70#8 (formOf []) [] { cold with notices := ⟨[], 65535⟩ }) ∧
    (State.reset.attention = true) :=
  ⟨by decide, by decide, ⟨by decide, stands [] rfl⟩, ⟨by decide, stands [] rfl⟩, by decide⟩

def answering (a : ResetAsk) : Link :=
  { Link.fresh with answers := [⟨0x7E#8, 0#8, .answer .none [], false, true, some a⟩] }

theorem witness_ResetsBegin :
    Front (asked 0x7E#8 [] cold) ⟨0x7E#8, 0#8, [], false⟩ [] [] ∧ Front (asked 0x7F#8 [] cold) ⟨0x7F#8, 0#8, [], false⟩ [] [] ∧
    (answering .coldStart).answers = ⟨0x7E#8, 0#8, .answer .none [], false, true, some .coldStart⟩ :: [] ∧
    (answering (.warmRestart 16)).answers = ⟨0x7E#8, 0#8, .answer .none [], false, true, some (.warmRestart 16)⟩ :: [] ∧
    (clockAt 1 0 0 0 ready).gdc.clock ≠ none :=
  ⟨front .., front .., rfl, rfl, by decide⟩

/-- R168, R177: COLD STARTED bears the day and the period of the clock that runs when the request is met. -/
theorem test_cold_start_notice :
    let s := { on (clockAt 212 0 31 0 ready) with link := answering .coldStart }
    (after .answerSent s).yard.notices.queue.map (fun n => (n.kind, n.day, n.period)) =
      [(.coldStarted, some 212, some 31)] := by decide

/-- The pending day of a store that power comes back to: with a correction of it in hand, with conditions for the one bound
meter, and with none. -/
def failedWith (cs : List Correction) (conditions : Option Conditions) : Yard :=
  { latching with soa := { latching.soa with
    corrections := cs, pending := some ⟨{ dayOf 212 with conditions := conditions }, false, false⟩ } }

def allGiven : Conditions := ⟨some 100800, some 86, ⟨some 1500, .all none⟩⟩

/-- R153, R160: power comes back. With conditions the remainder of the make meter is handed to CU; with none day 212 closes. -/
theorem test_pending_day_restored :
    let y (cs : List Correction) (c : Option Conditions) := restartYard .powerRestore (failedWith cs c)
    ((y [correction] none).soa.pending.map (fun p => (p.due, p.started)), (y [correction] none).soa.book) =
        (some (true, false), []) ∧
      ((y [] (some allGiven)).soa.pending.map (fun p => (p.due, p.started)),
        (y [] (some allGiven)).soa.remainders.map (·.meter)) = (some (true, true), [.make]) ∧
      ((y [] none).soa.pending, (y [] none).soa.book.map (·.day), (y [] none).notices.queue.map fun n => (n.kind, n.object)) =
        (none, [212], [(.powerRestored, 0), (.dayClosed, 212)]) := by decide +kernel

/-- Every yard has a store whose check word stands. -/
theorem checked_store (y : Yard) : ({ on y with checkWord := y.storeCheck } : State).checkWord = y.storeCheck := by dsimp only

/-- The three ways of a pending day. -/
theorem witness_pending_day_restored :
    (∀ cs c, (failedWith cs c).soa.pending = some ⟨{ dayOf 212 with conditions := c }, false, false⟩ ∧
      (failedWith cs c).soa.remainders = [] ∧ (failedWith cs c).soa.corrections = cs) ∧
    Meter.list.filter latching.yds.meterBound = [.make] ∧ correction.day = (dayOf 212).day ∧
    ((allGiven.press.get .make).isSome && allGiven.temp.isSome && allGiven.baro.isSome) = true :=
  ⟨fun _ _ => ⟨rfl, rfl, rfl⟩, by decide, rfl, rfl⟩

theorem witness_PowerFailsAndReturns :
    State.reset.powered = true ∧ ({ State.reset with powered := false } : State).powered = false ∧
    (∀ b, Instr.clockSecond ≠ .powerUp b) ∧ (∀ m, Instr.clockSecond ≠ .yardTripAsserted m) ∧
    Instr.clockSecond ≠ .yardTripReleased ∧ (∀ m, Instr.clockSecond ≠ .lineGoesToSpace m) ∧
    (∀ m, Instr.clockSecond ≠ .lineReturnsToMark m) ∧ State.reset.yard.soa.pending = none ∧
    State.reset.checkWord = State.reset.yard.storeCheck ∧
    (let s : State := { State.reset with checkWord := ~~~State.reset.yard.storeCheck }; s.checkWord ≠ s.yard.storeCheck) := by
  refine ⟨rfl, rfl, ?_, ?_, ?_, ?_, ?_, rfl, reset_checkWord, ?_⟩
  case refine_6 => show ~~~State.reset.yard.storeCheck ≠ State.reset.yard.storeCheck; rw [← reset_checkWord]; decide
  all_goals simp

/-! The invariants: lawful states that step. -/

/-- The machine with a command in front. -/
def commanded (c : Instr) (s : State) : State := { s with pending := [c] }

theorem witness_LinkStaysLawful :
    (commanded .answerSent State.reset).link.Lawful ∧ ∃ t, step (commanded .answerSent State.reset) = .next t :=
  ⟨⟨rfl, by decide, by decide, by decide, by decide, by decide, by decide, by decide⟩, _, rfl⟩

theorem witness_NoticesStayLawful :
    let s := commanded .yardTripReleased (on { cold with notices := ⟨(List.range 32).map (notice .valveStuck), 65535⟩ })
    s.yard.notices.Lawful ∧ ∃ t, step s = .next t :=
  ⟨⟨by decide, by decide, by decide, by decide⟩, _, rfl⟩

theorem witness_OrdersStayLawful :
    (commanded .yardTripReleased (on (coupled (crowded yard)))).yard.mvs.orders.length = 16 ∧
    (let s := commanded .yardTripReleased (on (crowded yard)); s.yard.mvs.Lawful ∧ ∃ t, step s = .next t) :=
  ⟨by decide, ⟨by decide, by decide, by decide, by decide⟩, _, rfl⟩

theorem witness_ListsStayLawful :
    let s := commanded .yardTripReleased (on (rostered yard fullRoster))
    s.yard.scs.Lawful ∧ ∃ t, step s = .next t :=
  ⟨⟨by decide, by decide, by decide, by decide, by decide⟩, _, rfl⟩

theorem witness_FeedStaysLawful :
    let s := commanded .yardTripReleased (on (ready.updDistrict .d1 fun r =>
      { r with commanded := some 2000, feed := .boosted, boosterCmd := .run, adoption := false, trim := -250 }))
    s.yard.FeedLawful ∧ ∃ t, step s = .next t := by
  refine ⟨⟨?_, by decide, ?_, ?_, ?_, ?_, ?_, ?_, ?_⟩, _, rfl⟩
  · intro d x h; cases d <;> cases h; exact ⟨by decide, fun c e => by cases e; decide⟩
  · intro d; cases d <;> decide
  · intro d; cases d <;> decide
  · intro d h; cases d <;> first | exact absurd rfl h | decide
  · intro h; exact absurd h (by decide)
  · intro d x h; cases d <;> cases h; exact fun _ => by decide
  · intro d h; cases d <;> first | exact absurd rfl h | decide
  · intro d h; cases d <;> first | exact absurd rfl h | decide

/-- R88: an update that forms the available pressure, one outlet reported open, the others counted or not. -/
theorem witness_available_formed :
    let t := after .frameSent (on (richly id))
    t.yard.dgu.available = some 4900 ∧ (on (richly id)).yard.dgu.available = none ∧ t.yard.counts .h1 ∧
      contribution t.yard .h1 = 5000 := by
  refine ⟨by decide, by decide, ⟨by decide, by decide⟩, by decide⟩

theorem witness_BooksStayLawful :
    let s := commanded .yardTripReleased (on { closing [remainder] with
      qpr := { cold.qpr with ring := (List.range 8).map (emptyRecord 212) }
      soa := { (closing [remainder]).soa with book := (booked cold).soa.book } })
    s.yard.BooksLawful ∧ ∃ t, step s = .next t := by
  refine ⟨⟨by decide, by decide, by decide, by decide, by decide, ?_, ?_, ?_, ?_, by decide⟩, _, rfl⟩
  · rintro d e m; cases e; cases m <;> first | exact ⟨rfl, rfl⟩ | (rename_i d; cases d <;> exact ⟨rfl, rfl⟩)
  · rintro p e m; cases e; cases m <;> first | exact ⟨rfl, fun _ => rfl⟩ | (rename_i d; cases d <;> exact ⟨rfl, fun _ => rfl⟩)
  · rintro e he d b hb; cases List.mem_singleton.mp he; cases d <;> cases hb; rfl
  · intro _; exact ⟨_, rfl, rfl, by decide⟩

theorem witness_StructureStandsWhileCommitted :
    let s := commanded .yardTripReleased (on (rostered ready fullRoster))
    s.yard.yds.desc = .committed ∧ ∃ t, step s = .next t ∧ t.yard.yds.desc = .committed :=
  ⟨rfl, _, rfl, rfl⟩

/-! ### Further clauses of the statements: states and operands that meet their hypotheses -/

def boundTo (q : Slot) (b : SlotBind) (y : Yard) : Yard :=
  { y with yds := { y.yds with bind := { y.yds.bind with slots := y.yds.bind.slots.set q b } } }

/-- Releases of BIND: a standby beside its primary, the only point of a slot, a meter's. -/
theorem witness_slot_released :
    let both := boundTo .baro ⟨some ⟨1, 0⟩, some ⟨2, 1⟩⟩ yard
    let only (q : Slot) := boundTo q ⟨some ⟨1, 0⟩, none⟩ (live q 100 yard)
    (both.yds.desc = .opened ∧ bindingOf 0 = some (.slot .baro) ∧ both.yds.slotPresent .baro = true ∧
      both.yds.bind.slots.get .baro = ⟨some ⟨1, 0⟩, some ⟨2, 1⟩⟩ ∧ some (⟨1, 0⟩ : Point) ≠ none ∧
      Stands 0x16#8 (formOf layBind) [some (0 : Nat), some (if true then 1 else 0), none] both) ∧
    (∀ q ∈ [Slot.yardTemp, .travel .h1, .gasTemp .h2, .baro, .farPress .d1, .meter .d1],
      bindingOf q.code = some (.slot q) ∧ (only q).yds.slotPresent q = true ∧
      (only q).yds.bind.slots.get q = ⟨some ⟨1, 0⟩, none⟩ ∧ ((only q).yds.subs.get q).declared = none ∧
      ((only q).qpr.recs.get q).source ≠ .none) ∧
    Stands 0x16#8 (formOf layBind) [some (Slot.code (.travel .h1) : Int), some (if false then 1 else 0), none]
      (only (.travel .h1)) ∧
    Stands 0x16#8 (formOf layBind) [some (Slot.code (.meter .d1) : Int), some 0, none] (only (.meter .d1)) :=
  ⟨⟨by decide, by decide, by decide, by decide, by decide, stands (writeFields layBind [some 0, some 1, none]) (by decide)⟩,
    by decide, stands (writeFields layBind [some 5, some 0, none]) (by decide),
    stands (writeFields layBind [some 39, some 0, none]) (by decide)⟩

/-- SET SUBSTITUTE of a quantity in each source, its value beyond the new range or its hold run out. -/
theorem witness_substitute_sources :
    let from_ (q : Slot) (src : Source) (v : Option Int) (n : Nat) : Yard :=
      ready.updRec q fun r => { r with source := src, value := v, since := n }
    (ready.yds.slotPresent (.travel .h1) = true ∧ Slot.isMeter (.travel .h1) = false ∧
      ((from_ (.travel .h1) .held (some 9500) 8).qpr.recs.get (.travel .h1)).source = .held ∧ (min 8 (max 0 8) : Int).toNat ≤ 8 ∧
      ¬(min 8 (max 0 8) : Int).toNat ≤ 7 ∧ ({ ready.qpr.recs.get (.travel .h1) with value := some 60500 } : QRec) ≠
        ready.qpr.recs.get (.travel .h1)) ∧
    Stands 0x2B#8 (formOf laySubstitute) [some (Slot.code (.travel .h1) : Int), some 0, some 60500, some 8, none, none]
      (from_ (.travel .h1) .held (some 9500) 8) ∧
    Stands 0x2B#8 (formOf laySubstitute) [some (Slot.code .baro : Int), some 100000, some 100000, some 8, some 100000, none]
      (from_ .baro .declared (some 99999) 0) ∧
    Stands 0x2B#8 (formOf laySubstitute) [some (Slot.code .baro : Int), some 100000, some 100000, some 8, some 100000, none]
      (from_ .baro .none none 0) ∧
    (ready.yds.bind.slots.get .baro = ⟨none, none⟩ ∧ Slot.isMeter .makeMeter = true) ∧
    Stands 0x2B#8 (formOf laySubstitute) [some (Slot.code .makeMeter : Int), some 0, some 0, some 0, none, some 1]
      (from_ .makeMeter .held (some 7) 0) :=
  ⟨by decide, stands (writeFields laySubstitute [some 5, some 0, some 60500, some 8, none, none]) (by decide),
    stands (writeFields laySubstitute [some 0, some 100000, some 100000, some 8, some 100000, none]) (by decide),
    stands (writeFields laySubstitute [some 0, some 100000, some 100000, some 8, some 100000, none]) (by decide), by decide,
    stands (writeFields laySubstitute [some 4, some 0, some 0, some 0, none, some 1]) (by decide)⟩

/-- A period that closes while COMMITTED, its day open in the accounts, with one bound meter: the last of the day, and not. -/
def lastPeriod (period : Nat) : Yard :=
  let y := boundTo .makeMeter ⟨some ⟨1, 0⟩, none⟩ (withDay 212 (clockAt 212 1 period 899 (withRecord (emptyRecord 212 period) ready)))
  { y with notices := ⟨[], 0⟩ }

theorem witness_period_closed :
    ∀ p ∈ [94, 95], (lastPeriod p).yds.desc = .committed ∧ (lastPeriod p).qpr.current = some (emptyRecord 212 p) ∧
      (lastPeriod p).soa.current = some (dayOf 212) ∧ (dayOf 212).day = (emptyRecord 212 p).day ∧
      (lastPeriod p).soa.pending = none ∧ (lastPeriod p).yds.meterBound .make = true ∧
      (lastPeriod p).yds.slotPresent .makeMeter = true ∧ (lastPeriod p).notices.queue = [] ∧
      (lastPeriod p).yds.holders.get .h1 ≠ none := by
  decide

/-- The day closes at the boundary: the open day is pending and a new one stands; the one bound quantity had no sample (R142,
R151). -/
theorem test_day_pending :
    let y := (after .periodEnd (on (lastPeriod 95))).yard
    y.soa.pending.map (·.day.day) = some 212 ∧ y.soa.current.map (·.day) = some 213 ∧
      y.qpr.ring.map (·.nIncomplete) = [1] ∧ (y.notices.queue.map (·.kind)).contains .periodIncomplete = true := by
  decide +kernel

/-- What refuses staged qualifiers: a value beyond its range, two of one kind; a standing count above 31. -/
theorem witness_qualifiers_refused :
    (∀ v ∈ (none : Option Nat), v ≤ 95) ∧ ready.yds.holders.get .h1 ≠ none ∧ ready.mvs.isCoupled .h1 = false ∧
    (∀ staged ∈ [[Qualifier.untilTravel 60501], [.untilStock 1000000001], [.untilPeriod 96], [.whenTravel 1 true (-1)],
        [.whenTravel 1 true 1, .whenTravel 2 false 2], [.untilTravel 0, .untilStock 0]],
      StandsOrder (orderRow .fill).1 [some (1 : Nat), some (Holder.number .h1 : Int), (none : Option Nat).map fun v => (v : Int),
        some 0] staged ready) ∧
    StandsOrder (orderRow .fill).1 [some (1 : Nat), some (Holder.number .h1 : Int), (some 95 : Option Nat).map fun v => (v : Int),
      some ((32 : Nat) : Int)] [] ready ∧
    Qualifier.isWhen (.whenTravel 1 true 1) = Qualifier.isWhen (.whenTravel 2 false 2) ∧
    Qualifier.isWhen (.untilTravel 0) = Qualifier.isWhen (.untilStock 0) :=
  ⟨by simp, by decide, by decide,
    fun staged _ => standsOrder (writeFields layOrder [some 1, some 1, none, some 0]) (by decide),
    standsOrder (writeFields layOrder [some 1, some 1, some 95, some 32]) (by decide), rfl, rfl⟩

/-- The governor's point with an empty list, a command that waits for it, and a full list. -/
def governed (cs : List Command) : Yard :=
  let y := line .sending (.frame (.mark .order)) none ready
  { y with
    yds := { y.yds with bind := { y.yds.bind with governor := y.yds.bind.governor.set .d1 (some ⟨7, 0⟩) } }
    scs := { y.scs with commands := cs } }

def otherCommands (n : Nat) : List Command :=
  (List.range n).map fun k => ⟨1 + k / 4, k % 4, .valveShut, 0, .valve ⟨.h1, .inlet⟩, 0, false, false⟩

theorem witness_governor_command :
    (governed []).yds.bind.governor.get .d1 = some ⟨7, 0⟩ ∧ ready.yds.bind.governor.get .d1 = none ∧
    ((governed []).dgu.districts.get .d1).delivered ≠ some 1000 ∧ ((governed []).dgu.districts.get .d1).govPending = false ∧
    (∃ c ∈ (governed [⟨7, 0, .governorSet, 900, .governor .d1, 0, false, false⟩]).scs.commands,
      c.outstation = 7 ∧ c.channel = 0) ∧
    (∀ c ∈ otherCommands 16, ¬(c.outstation = 7 ∧ c.channel = 0)) ∧ (governed (otherCommands 16)).scs.commands.length ≤ 16 ∧
    32 ≤ (governed ((otherCommands 36).filter (·.outstation != 7))).scs.commands.length ∧
    (governed []).yds.desc = .committed ∧ (governed []).yds.bind.booster.get .d1 ≠ some ⟨7, 0⟩ := by
  refine ⟨by decide, by decide, by decide, by decide, ⟨_, List.mem_singleton.2 rfl, by decide⟩, by decide, by decide, by decide,
    by decide, by decide⟩

/-- MARK frames and breaks on the line. -/
def breaking (k : BreakKind) (f : Flight) (y : Yard) : Yard :=
  { y with ylc := { y.ylc with line := .breaking, driving := true, again := false, brk := some k, flight := some f } }

theorem witness_sendings_over :
    (∀ p ∈ [MarkPhase.day, .poll, .load],
      (line .sending (.frame (.mark p)) none ready).ylc.line = .sending ∧
      (line .sending (.frame (.mark p)) none ready).ylc.flight = some (flying (.frame (.mark p))) ∧
      0 < (line .sending (.frame (.mark p)) none ready).ylc.charTime) ∧
    (∀ k ∈ [BreakKind.wake, .short], ∀ e ∈ [Exchange.wake, .frame (.read 3)],
      let f : Flight := { flying e with decided := some .timeout }
      let y := breaking k f ready
      y.ylc.line = .breaking ∧ y.ylc.driving = true ∧ y.ylc.again = false ∧ y.ylc.brk = some k ∧ y.ylc.flight = some f ∧
        f.decided = some .timeout) := by
  decide

/-- The POLL phase and the LOAD phase in GUARD, over an entry that is due, one that is not, and a load that can be sent. -/
def scanning (now start : Nat) (wake : Bool) (e : Entry) : Yard :=
  let y := guarded [] (rostered ready [e])
  { y with
    now := now
    scs := { y.scs with
      pollStart := start, cycleStart := start, wakeDue := wake, rotating := some 3
      loads := [⟨e.address, 0, 5, 0, false, false⟩] } }

theorem witness_phases_go_on :
    (∀ st ∈ [EntryState.live, .asleep, .waking, .failed], (scanning 5 0 false (polledAs st true)).ylc.line = .guard ∧
      (scanning 5 0 false (polledAs st true)).scs.entryAt 3 = some (polledAs st true)) ∧
    (polledAs .live false).isDue ∧ ¬(polledAs .asleep true).isDue ∧ ¬(polledAs .failed false).isDue ∧
    (polledAs .waking true).isDue ∧ 5 < (polledAs .waking true).readFrom ∧ (polledAs .live false).readFrom ≤ 5 ∧
    5 - 0 < 16800 * (scanning 5 0 false (polledAs .live false)).scs.interval ∧
    16800 * (scanning 5 0 false (polledAs .live false)).scs.interval ≤ 252000 - 0 ∧
    (5 < 0 + 24000 * (scanning 5 0 false (polledAs .live false)).scs.interval ∧
      0 + 24000 * (scanning 5 0 false (polledAs .live false)).scs.interval ≤ 360000) ∧
    ((scanning 5 0 false (entry 3 false)).scs.probed < 3 ∧ (entry 3 false).dyn.state = .unknown) ∧
    ((scanning 5 0 true (polledAs .live false)).scs.wakeDue = true ∧
      (scanning 5 0 false (polledAs .live false)).scs.loads = [] ++ ⟨3, 0, 5, 0, false, false⟩ :: [] ∧
      (polledAs .live false).dyn.state = .live ∧ (polledAs .live false).dyn.identity ≠ .unchecked) := by
  refine ⟨by decide, trivial, nofun, nofun, rfl, by decide, by decide, by decide, by decide, by decide, by decide, by decide⟩

/-- DRAIN_TIMEOUT with the line still busy, and with the drain already at its end. -/
theorem witness_drain_timeout :
    let f : Flight := { flying (.frame (.read 3)) with decided := some .uncorrectable }
    let y := line .draining (.frame (.read 3)) (some 1080) cold
    let busy (t : Nat) : Yard := { y with ylc := { y.ylc with flight := some f, timer := some t } }
    (busy 399).ylc.line = .draining ∧ (busy 399).ylc.timer = some 399 ∧ (busy 399).ylc.flight = some f ∧
      399 < (busy 399).ylc.busy + 2 * (busy 399).ylc.charTime ∧ (busy 400).ylc.busy + 2 * (busy 400).ylc.charTime ≤ 400 ∧
      (busy 400).lineSpace = false ∧ f.decided = some .uncorrectable := by
  decide

/-- Commands of each owner that LINE RESET clears. -/
theorem witness_commands_told :
    (let cs : List Command := [⟨3, 0, .valveShut, 0, .valve ⟨.h1, .inlet⟩, 0, false, false⟩,
        ⟨7, 0, .governorSet, 1200, .governor .d1, 0, false, false⟩, ⟨7, 1, .boosterRun, 0, .booster .d1, 0, false, false⟩];
      ready.mvs.activeOrder .h1 = none ∧ (ready.dgu.districts.get .d1).feed = .direct ∧
        cs.map (·.owner) = [.valve ⟨.h1, .inlet⟩, .governor .d1, .booster .d1]) ∧
    ((released .inlet (stuck .fill .running)).yds.bind.valve ⟨.h1, .inlet⟩ = none ∧
      (released .inlet (stuck .fill .running)).mvs.activeOrder .h1 ≠ none) ∧
    (∀ k, (stuck k .opening).CanShut [] [] { order41 k with state := .opening } (points41 k) ∧ (order41 k).holder = .h1 ∧
      (stuck k .opening).yds.bind.valve ⟨.h1, .inlet⟩ ≠ none) ∧
    (∀ f ∈ [FeedState.boosting, .unboosting], ((feeding f ready).dgu.districts.get .d1).feed = f ∧
      ((feeding f ready).dgu.districts.get .d1).target = some 1000) :=
  ⟨by decide, by decide, fun k => ⟨canShut_stuck k, rfl, by cases k <;> decide⟩, by decide⟩

/-- A pending close that becomes due: with a correction in hand, with conditions for its meter, and with none. -/
theorem witness_close_due :
    latching.soa.pending = some ⟨dayOf 212, false, false⟩ ∧ (∃ c ∈ latching.soa.corrections, c.day = (dayOf 212).day) ∧
    (closing []).soa.corrections = [] ∧ latching.yds.meterBound .make = true ∧ (dayOf 212).conditions = none ∧
    (closing []).soa.remainders = [] ∧ (closing []).yds.desc = .committed ∧ (closing []).soa.current ≠ none ∧
    (let d : Day := { dayOf 212 with conditions := some ⟨some 100800, some 86, ⟨some 1500, .all none⟩⟩ };
      d.conditions.bind (·.press.get .make) = some 1500 ∧ d.conditions.bind (·.temp) = some 86 ∧
        d.conditions.bind (·.baro) = some 100800) := by
  refine ⟨rfl, ⟨correction, List.mem_singleton.2 rfl, rfl⟩, rfl, by decide, rfl, rfl, rfl, by decide, by decide⟩

/-- Characters, and a whole frame, that come 506 ticks after the last character of a frame in hand. -/
def staleLink (got : List Byte) : State :=
  { on { cold with now := 506 } with link := { Link.fresh with recv := .inFrame got 0 } }

theorem witness_stale_frame :
    (staleLink [2#8]).powered = true ∧ (staleLink [2#8]).link.recv = .inFrame [2#8] 0 ∧ 0 + 505 < (staleLink [2#8]).yard.now ∧
      (staleLink [2#8]).link.counts.gap < 65535 ∧ (staleLink [2#8]).link.queue.length < 4 := by decide

/-- R161: a whole good frame on a stale one is taken, the stale one counted as GAP. -/
theorem test_stale_frame :
    let l := (after (.requestFrame (requestFrameOf 0x60#8 1#8 [])) (staleLink [])).link
    l.queue = [⟨0x60#8, 1#8, [], false⟩] ∧ l.counts = ⟨0, 1, 0, 0⟩ ∧ l.recv = .hunting := by decide +kernel

/-- BIND of the point that a slot has already, and what refuses an actuator binding. -/
theorem witness_bound_again :
    (let y := boundTo .baro ⟨some ⟨1, 0⟩, some ⟨2, 1⟩⟩ yard;
      (y.yds.desc = .opened ∧ bindingOf 0 = some (.slot .baro) ∧ y.yds.slotPresent .baro = true ∧ Slot.isMeter .baro = false ∧
        (y.yds.bind.slots.get .baro).primary = some ⟨1, 0⟩ ∧ (y.yds.bind.slots.get .baro).standby = some ⟨2, 1⟩) ∧
      Stands 0x16#8 (formOf layBind) [some (0 : Nat), some (if true then 1 else 0), some ((2 + 256 * 1 : Nat) : Int)] y ∧
      Stands 0x16#8 (formOf layBind) [some (0 : Nat), some (if false then 1 else 0), some ((1 + 256 * 0 : Nat) : Int)] y) ∧
    (bindingOf 60 = some (.booster .d1) ∧ yard.yds.bindingPresent (.booster .d1) = true ∧
      (∀ x ∈ (some ⟨0, 0⟩ : Option Point), x.outstation < 256) ∧
      (∃ x ∈ (some ⟨0, 0⟩ : Option Point), ¬(1 ≤ x.outstation ∧ x.outstation ≤ 30 ∧ x.channel ≤ 3)) ∧
      Stands 0x16#8 (formOf layBind) [some (60 : Nat), some (if false then 1 else 0), (some ⟨0, 0⟩ : Option Point).map fun q =>
        ((q.outstation + 256 * q.channel : Nat) : Int)] yard ∧
      Stands 0x16#8 (formOf layBind) [some (60 : Nat), some (if true then 1 else 0), (none : Option Point).map fun q =>
        ((q.outstation + 256 * q.channel : Nat) : Int)] yard) :=
  ⟨⟨by decide, stands (writeFields layBind [some 0, some 1, some 258]) (by decide),
      stands (writeFields layBind [some 0, some 0, some 1]) (by decide)⟩,
    ⟨by decide, by decide, by simp, ⟨_, rfl, by decide⟩, stands (writeFields layBind [some 60, some 0, some 0]) (by decide),
      stands (writeFields layBind [some 60, some 1, none]) (by decide)⟩⟩

/-- H1, H2 and D1 described whole while OPEN, H1 measured, D1 waiting for adoption with a booster that reports in some way. -/
def described (rep : BoosterRep) : Yard :=
  let y := boundTo (.travel .h1) ⟨some ⟨4, 0⟩, none⟩ (boundTo (.travel .h2) ⟨some ⟨4, 1⟩, none⟩ sampled)
  let y := y.updDistrict .d1 fun r => { r with adoption := true, boosterRep := rep }
  { y with
    yds := { y.yds with desc := .opened, geometry := .all none }
    scs := { y.scs with roster := [entry 3 false, ⟨4, .gauge, false, ⟨some .measure, some .measure, none, none⟩, .fresh⟩,
      ⟨7, .actuator, false, ⟨none, some .booster, none, none⟩, .fresh⟩] } }

theorem witness_commit_work :
    (∀ rep ∈ [BoosterRep.running, .stopped, .fault, .unknown], (described rep).yds.desc = .opened ∧
      commitFault (described rep) = none ∧ (described rep).yds.districts.get .d1 ≠ none ∧
      ((described rep).dgu.districts.get .d1).adoption = true ∧ ((described rep).dgu.districts.get .d1).boosterRep = rep ∧
      (described rep).mvs.orders = [] ∧ (described rep).notices.queue.length ≤ 16 ∧ (described rep).soa.current = none) ∧
    (∀ q ∈ Slot.list, (described .fault).qpr.recs.get q = ⟨none, .none, none, 0, none, false, 0, none, 0, false⟩ ∧
      ((described .fault).yds.subs.get q).declared = none) ∧
    (((described .fault).hsu.holders.get .h1).travel = some ⟨9500, .live⟩ ∧
      ((described .fault).hsu.holders.get .h1).temp = some ⟨124, .live⟩ ∧ (described .fault).hsu.baro = some ⟨101200, .live⟩ ∧
      ((described .fault).hsu.holders.get .h2).travel = none) ∧
    ((clockAt 3 1 7 0 (described .fault)).gdc.clock ≠ none ∧ commitFault (withDay 3 (clockAt 3 1 7 0 (described .fault))) = none ∧
      (withDay 3 (described .fault)).soa.current = some (dayOf 3)) ∧
    Stands 0x18#8 (formOf []) [] (clockAt 3 1 7 0 (described .fault)) :=
  ⟨by decide, by decide, by decide, by decide, stands [] rfl⟩

/-- R23, R94, R159: what a COMMIT under a RUNNING clock sets going. -/
theorem test_commit_work :
    let y := commitYard (clockAt 3 1 7 0 (described .fault))
    y.hsu.stockJobs = [jobH1 9500] ∧ y.hsu.holders.h2.status = .unknown ∧ y.soa.current.map (·.flags.part) = some true ∧
      ((y.dgu.districts.get .d1).feed, (y.dgu.districts.get .d1).failed) = (.direct, true) ∧
      ((commitYard (described .running)).dgu.districts.get .d1).feed = .boosted := by decide +kernel

/-- Orders that bear on COUPLE, UNCOUPLE and SHUT HOLDER. -/
theorem witness_pairs_ordered :
    (let y : Yard := { ready with mvs := { ready.mvs with orders := [{ order41 .draw with holder := .h2 }] } };
      (∃ o ∈ y.mvs.orders, o.state ≠ .waiting ∧ (o.holder = .h1 ∨ (o.holder = Holder.partner .h1 ∧ y.mvs.isCoupled .h1 = false))) ∧
      y.yds.holders.get .h1 ≠ none ∧ Stands 0x46#8 (formOf layObject) [some (Holder.number .h1 : Int)] y) ∧
    (let y := coupled { ready with mvs := { ready.mvs with orders := [order41At .draw (.atPeriod 3) false] } };
      y.mvs.isCoupled .h1 = true ∧ (∀ o ∈ y.mvs.orders, o.holder = .h1 → o.state = .waiting) ∧
      (∀ o ∈ y.mvs.orders, o.holder = .h1 ∨ o.holder = Holder.partner .h1 → o.eligible = false) ∧
      Stands 0x47#8 (formOf layObject) [some (Holder.number .h1 : Int)] y) ∧
    (let y := coupled (ordered .draw .opening ready);
      y.mvs.isCoupled .h1 = true ∧ Holder.leads .h1 = true ∧ y.yds.holders.get .h1 ≠ none ∧
      (∃ o ∈ y.mvs.orders, o.holder = .h1 ∧ o.state ≠ .waiting) ∧
      Stands 0x48#8 (formOf layObject) [some (Holder.number .h1 : Int)] y ∧
      Stands 0x47#8 (formOf layObject) [some (Holder.number .h1 : Int)] y) :=
  ⟨⟨⟨_, List.mem_singleton.2 rfl, by decide⟩, by decide, stands [1#8] (by decide)⟩,
    ⟨by decide, by decide, by decide, stands [1#8] (by decide)⟩,
    ⟨by decide, by decide, by decide, ⟨_, List.mem_singleton.2 rfl, by decide⟩, stands [1#8] (by decide),
      stands [1#8] (by decide)⟩⟩

/-- D1 with its target of 1,000 Pa and its booster bound, over an available pressure and a command list. -/
def evaluating (f : FeedState) (a : Int) (hyst : Nat) (cs : List Command) : Yard :=
  let y := (feeding f ready).updDistrict .d1 fun r => { r with hyst := hyst }
  { y with dgu := { y.dgu with available := some a }, scs := { y.scs with commands := cs } }

theorem witness_evaluation :
    (∀ f ∈ [FeedState.direct, .short, .boosting, .boosted, .unboosting],
      let y := evaluating f 1249 3 []
      y.yds.districts.get .d1 = some ⟨true, 600, 2000, 1000⟩ ∧ y.dgu.available = some 1249 ∧
        (y.dgu.districts.get .d1).target = some 1000 ∧ (y.dgu.districts.get .d1).feed = f ∧
        (1249 : Int) < 1000 + (y.yds.feedSet.get .d1).drop ∧ (1000 : Int) + (y.yds.feedSet.get .d1).drop ≤ 1250 ∧
        (1000 : Int) + (y.yds.feedSet.get .d1).drop + (y.yds.feedSet.get .d1).hysteresis ≤ 1350 ∧
        y.yds.bind.booster.get .d1 = some ⟨7, 1⟩ ∧ (y.dgu.districts.get .d1).failed = false ∧
        (y.dgu.districts.get .d1).hyst = 3) ∧
    ((∃ c ∈ [booster7 .boosterStop], c.outstation = 7 ∧ c.channel = 1) ∧
      (∀ c ∈ (otherCommands 36).filter (·.outstation != 7), ¬(c.outstation = 7 ∧ c.channel = 1)) ∧
      32 ≤ ((otherCommands 36).filter (·.outstation != 7)).length) :=
  ⟨by decide, ⟨_, List.mem_singleton.2 rfl, by decide⟩, by decide, by decide⟩

/-- R89 to R91: one Pa short of the target and the drop margin, RUN takes the place of a STOP that waits; at the fourth update with
hysteresis to spare STOP is put; a full list leaves D1 SHORT, the shortfall of 1 Pa told. -/
theorem test_evaluation :
    let run := evaluateFeed .d1 (evaluating .unboosting 1249 0 [booster7 .boosterStop])
    let stop := evaluateFeed .d1 (evaluating .boosted 1350 3 [])
    let full := evaluateFeed .d1 (evaluating .direct 1249 0 ((otherCommands 36).filter (·.outstation != 7)))
    (run.scs.commands.map fun c => (c.outstation, c.channel, c.code, c.sends)) = [(7, 1, .boosterRun, 0)] ∧
      (run.dgu.districts.get .d1).feed = .boosting ∧ stop.scs.commands.map (·.code) = [.boosterStop] ∧
      (stop.dgu.districts.get .d1).feed = .unboosting ∧ (full.dgu.districts.get .d1).feed = .short ∧
      (full.notices.queue.map fun n => (n.kind, n.datum)) = [(.coldStarted, 0), (.boosterFailed, 1), (.districtShort, 1)] := by
  decide +kernel

/-- MARK ORDER sent while OPEN, the ORDER phase over two commands, and the long break of LINE RESET on a recovered line. -/
theorem witness_order_phase :
    (let y := line .sending (.frame (.mark .order)) none cold;
      y.yds.desc = .opened ∧ y.ylc.line = .sending ∧ y.ylc.flight = some (flying (.frame (.mark .order))) ∧ 0 < y.ylc.charTime) ∧
    (let c : Command := { order3 with taken := false, inFlight := false }
      let held : Command := ⟨5, 0, .valveShut, 0, .valve ⟨.h2, .inlet⟩, 0, false, false⟩
      let y := guarded [] (rostered ready [polledAs .live false])
      let z : Yard := { y with scs := { y.scs with commands := [held, c] } }
      z.ylc.line = .guard ∧ z.scs.commands = [held] ++ c :: [] ∧ c.taken = false ∧ z.scs.entryAt c.outstation = some (polledAs .live false) ∧
      (polledAs .live false).dyn.state = .live ∧ z.scs.entryAt held.outstation = none ∧
      z.now < z.scs.cycleStart + 24000 * z.scs.interval) ∧
    (let y := breaking .long (flying .wake) ready;
      let z : Yard := { y with ylc := { y.ylc with why := ⟨false, true, true⟩, waiting := [], held := true } };
      z.ylc.line = .breaking ∧ z.ylc.driving = true ∧ z.ylc.brk = some .long ∧ z.ylc.again = false ∧ z.ylc.why.reset = true ∧
      z.ylc.waiting = [] ∧ 0 < z.ylc.charTime ∧ z.lineSpace = false) := by decide

/-- A FILL RUNNING, its inlet commanded OPEN; and OUTLET PRESS LIVE within its range. -/
def lawful : Yard :=
  let y := live .outletPress 2000 (working .fill (some 9000))
  { y with mvs := { y.mvs with inlets := y.mvs.inlets.set .h1 ⟨.opened, .opened, .idle⟩ } }

/-- The laws of the valves and of the quantities stand in a state in which they bind something. -/
theorem witness_laws :
    lawful.mvs.Lawful ∧ lawful.ValvesLawful ∧ lawful.QuantitiesLawful ∧
      (lawful.mvs.valve ⟨.h1, .inlet⟩).commanded = .opened ∧ (lawful.qpr.recs.get .outletPress).source = .live ∧
      ∃ t, step (commanded .yardTripReleased (on lawful)) = .next t := by
  refine ⟨⟨by decide, by decide, by decide, by decide⟩, ⟨nofun, ?_, nofun⟩, ⟨?_, ?_, ?_⟩, rfl, rfl, _, rfl⟩
  · rintro ⟨h, side⟩ hv
    cases h <;> cases side <;> first | exact ⟨by decide, _, List.mem_singleton.2 rfl, by decide⟩ | (revert hv; decide)
  · intro q; cases q <;> first | decide | (rename_i x; cases x <;> decide)
  · intro q; cases q <;> first | decide | (rename_i x; cases x <;> decide)
  · intro q
    cases q <;> first | exact fun _ => ⟨2000, by decide⟩ | decide | (rename_i x; cases x <;> decide)

/-! ### Coupled pairs -/

def both {α : Type} (x : α) (t : Holders α) : Holders α := (t.set .h1 x).set .h2 x

/-- The coupled pair H1 and H2 with one order, at two travels, all four valves standing alike. -/
def paired (o : Order) (t1 t2 : Option Int) (v : ValveRec) : Yard :=
  let dyn (t : Option Int) : HolderDyn := { HolderDyn.fresh with travel := t.map (⟨·, .live⟩), stock := some 4500000, status := .good }
  coupled { ready with
    mvs := { ready.mvs with orders := [o], inlets := both v ready.mvs.inlets, outlets := both v ready.mvs.outlets }
    hsu := { ready.hsu with holders := (ready.hsu.holders.set .h1 (dyn t1)).set .h2 (dyn t2) } }

/-- The used valves of an order of the pair with their points. -/
def pairPoints (k : OrderKind) : List (Valve × Point) :=
  points41 k ++ k.used.map fun s => (⟨.h2, s⟩, ⟨3, if s = .inlet then 2 else 3⟩)

theorem pair_canShut_still (k : OrderKind) :
    (paired (order41 k) none none ⟨.opened, .moving, .running 0 120⟩).CanShut [] [] (order41 k) (pairPoints k) := by
  cases k <;> constructor <;> decide

/-- Wherever the pair stands, its order can be shut. -/
theorem pair_canShut (k : OrderKind) (t1 t2 : Option Int) :
    (paired (order41 k) t1 t2 ⟨.opened, .moving, .running 0 120⟩).CanShut [] [] (order41 k) (pairPoints k) :=
  { pair_canShut_still k with }

theorem mem_pair {h : Holder} (hh : h ∈ [Holder.h1, .h2]) : h = .h1 ∨ h = .h2 := by simpa using hh

theorem pair_canOpen_still (k : OrderKind) :
    (paired (order41At k .absent false) (some 6599) (some 6600) ⟨.none, .shut, .idle⟩).CanOpen [] [] (order41At k .absent false)
        .cracked (pairPoints k) ∧
      (paired (order41At k .absent false) (some 6599) (some 7401) ⟨.none, .shut, .idle⟩).CanOpen [] [] (order41At k .absent false)
        .opened (pairPoints k) := by
  refine ⟨⟨rfl, rfl, by simp, by simp, fun _ => rfl, rfl, fun h hh => ?_, .inl ⟨rfl, .h2, (show Holder.h2 ∈ [.h1, .h2] by decide),
      (inBand_iff (t := 6600) (g := geometryOf recH1) rfl rfl).2 (by decide)⟩, fun _ _ => nofun, ?_, ?_, ?_, ?_, ?_, ?_, ?_⟩,
    ⟨rfl, rfl, by simp, by simp, fun _ => rfl, rfl, fun h hh => ?_, .inr ⟨rfl, fun h hh hb => ?_⟩, fun _ _ => nofun,
      ?_, ?_, ?_, ?_, ?_, ?_, ?_⟩⟩
  case refine_1 | refine_9 =>
    rcases mem_pair hh with rfl | rfl <;> exact ⟨_, geometryOf recH1, rfl, rfl, fun _ => by decide, fun _ => by decide⟩
  case refine_10 =>
    rcases mem_pair hh with rfl | rfl
    · exact absurd ((inBand_iff (t := 6599) (g := geometryOf recH1) rfl rfl).1 hb) (by decide)
    · exact absurd ((inBand_iff (t := 7401) (g := geometryOf recH1) rfl rfl).1 hb) (by decide)
  case refine_5 | refine_14 =>
    intro h hh side
    rcases mem_pair hh with rfl | rfl <;> cases side <;> rfl
  all_goals cases k <;> decide

/-- Whatever its start condition, a WAITING order of the pair can activate. -/
theorem pair_canOpen (k : OrderKind) (start : StartCond) (b : Bool) :
    (paired (order41At k start b) (some 6599) (some 6600) ⟨.none, .shut, .idle⟩).CanOpen [] [] (order41At k start b) .cracked
        (pairPoints k) ∧
      (paired (order41At k start b) (some 6599) (some 7401) ⟨.none, .shut, .idle⟩).CanOpen [] [] (order41At k start b) .opened
        (pairPoints k) :=
  ⟨{ (pair_canOpen_still k).1 with listed := rfl }, { (pair_canOpen_still k).2 with listed := rfl }⟩

/-- The same pair with no order in the list. -/
def freePair (t1 t2 : Option Int) : Yard :=
  { paired (order41 .fill) t1 t2 ⟨.none, .shut, .idle⟩ with
    mvs := { (paired (order41 .fill) t1 t2 ⟨.none, .shut, .idle⟩).mvs with orders := [] } }

/-- The pair with a DRAW in some state whose last valve to report is the outlet of H2, at two pressures. -/
def lastReport (st : OrderState) (p : Commanded) (rep : Reported) (p1 p2 : Int) : Yard :=
  let y := paired { order41 .draw with state := st, reason := if st = .closing then some .landing else none } none none ⟨p, rep, .idle⟩
  { y with
    mvs := y.mvs.setValve ⟨.h2, .outlet⟩ ⟨p, .moving, .running 0 120⟩
    hsu := { y.hsu with
      holders := (y.hsu.holders.set .h1 { HolderDyn.fresh with pressure := p1 }).set .h2 { HolderDyn.fresh with pressure := p2 } } }

/-- Activation of an order of the pair, what keeps it waiting, what ends it, and the last report of OPENING and CLOSING. -/
theorem witness_pair_activates :
    (∀ k, ({ freePair (some 6599) (some 6600) with mvs := { (freePair (some 6599) (some 6600)).mvs with
        orders := (freePair (some 6599) (some 6600)).mvs.orders ++ [order41At k .absent true] } } : Yard).CanOpen [] []
          (order41At k .absent true) .cracked (pairPoints k) ∧
      StandsOrder (orderRow k).1 [some (41 : Nat), some (Holder.number .h1 : Int), (none : Option Nat).map fun q => (q : Int),
        some (0 : Nat)] [] (freePair (some 6599) (some 6600))) ∧
    (let y := paired (order41At .float (.atPeriod 95) false) (some 6600) none ⟨.none, .shut, .idle⟩;
      y.mvs.orders = [] ++ order41At .float (.atPeriod 95) false :: [] ∧ Holder.leads .h1 = true ∧
      .h2 ∈ y.mvs.worked .h1 ∧ (y.hsu.holders.get .h2).travel = none) ∧
    ((paired (order41At .draw (.whenAbove .h2 6599) false) (some 6599) (some 6600) ⟨.none, .shut, .idle⟩).hsu.holders.get
        .h2).travel = some ⟨6600, .live⟩ ∧
    (let y := freePair (some 200) (some 20700);
      (∀ x ∈ y.mvs.worked .h1, (y.hsu.holders.get x).travel ≠ none ∧
        ∀ side ∈ OrderKind.used .float, y.yds.bind.valve ⟨x, side⟩ ≠ none) ∧
      (OrderKind.fills .float = true ∧ .h2 ∈ y.mvs.worked .h1 ∧ (y.hsu.holders.get .h2).travel = some ⟨20700, .live⟩ ∧
        y.yds.geometry.get .h2 = some (geometryOf recH1) ∧ (geometryOf recH1).topStop ≤ 20700) ∧
      (OrderKind.draws .draw = true ∧ OrderKind.fills .draw = false ∧ (y.hsu.holders.get .h1).travel = some ⟨200, .live⟩ ∧
        (200 : Int) ≤ (geometryOf recH1).landing) ∧
      StandsOrder 0x44#8 [some (41 : Nat), some (Holder.number .h1 : Int), none, some 0] [] y ∧
      StandsOrder 0x43#8 [some (41 : Nat), some (Holder.number .h1 : Int), none, some 0] [] y) ∧
    (StandsOrder 0x44#8 [some (41 : Nat), some (Holder.number .h1 : Int), none, some 0] [.untilPeriod 95]
        (clockAt 3 1 95 0 (freePair (some 201) (some 20699))) ∧
      ¬((geometryOf recH1).topStop ≤ 20699) ∧ ¬((201 : Int) ≤ (geometryOf recH1).landing)) ∧
    (let y := lastReport .opening .opened .opened 1750 0;
      (∃ o, y.mvs.orders = [] ++ o :: [] ∧ o.state = .opening ∧ o.kind = .draw ∧ o.holder = .h1) ∧
      y.mvs.valve ⟨.h2, .outlet⟩ = ⟨.opened, .moving, .running 0 120⟩ ∧ y.mvs.shutPending.get .h2 = false ∧
      (∀ w ∈ [(⟨.h1, .outlet⟩ : Valve)], (y.mvs.valve w).commanded.asReport = some (y.mvs.valve w).reported) ∧
      (y.yds.limits.get .h2).lagThreshold < contribution y .h1 - contribution y .h2) ∧
    (let y := lastReport .closing .shut .shut 0 0;
      (∃ o, y.mvs.orders = [] ++ o :: [] ∧ o.state = .closing ∧ o.reason = some .landing ∧ o.holder = .h1) ∧
      y.mvs.valve ⟨.h2, .outlet⟩ = ⟨.shut, .moving, .running 0 120⟩ ∧
      (∀ w ∈ [(⟨.h1, .inlet⟩ : Valve), ⟨.h1, .outlet⟩, ⟨.h2, .inlet⟩], (y.mvs.valve w).reported = .shut)) :=
  ⟨fun k => ⟨{ (pair_canOpen k .absent true).1 with listed := rfl },
      standsOrder (writeFields layOrder [some 41, some 1, none, some 0]) (by decide)⟩,
    by decide, by decide,
    ⟨by decide, by decide, by decide, standsOrder (writeFields layOrder [some 41, some 1, none, some 0]) (by decide),
      standsOrder (writeFields layOrder [some 41, some 1, none, some 0]) (by decide)⟩,
    ⟨standsOrder (writeFields layOrder [some 41, some 1, none, some 0]) (by decide), by decide, by decide⟩,
    ⟨⟨_, rfl, by decide⟩, by decide⟩, ⟨⟨_, rfl, by decide⟩, by decide⟩⟩

/-- R57, R58: the last report of the pair makes its DRAW RUNNING, and H2 lags behind H1. -/
theorem test_pair_lags :
    let y := valveReport ⟨.h2, .outlet⟩ .opened (lastReport .opening .opened .opened 1750 0)
    (y.mvs.orders.map fun o => (o.state, o.lagOwn, o.lagOther)) = [(.running, false, true)] ∧
      (y.notices.queue.map fun n => (n.kind, n.object, n.datum)) = [(.coldStarted, 0, 0), (.laggingHolder, 2, 1750)] := by decide

/-- The trips, the timers and the readings that find an order of the pair working. -/
theorem witness_pair_works :
    (∀ k, (paired (order41 k) (some 20699) (some 20700) ⟨.opened, .moving, .running 0 120⟩).CanShut [] [] (order41 k)
      (pairPoints k)) ∧
    (let y := paired (order41 .fill) (some 9000) (some 21000) ⟨.opened, .moving, .running 0 120⟩;
      let z : Yard := { y with mvs := { y.mvs with watch := .running 0 } };
      (on z).powered = true ∧ z.mvs.watch = .running 0 ∧ z.yds.desc = .committed ∧ z.mvs.orders = [] ++ order41 .fill :: [] ∧
      (y.hsu.holders.get .h2).travel = some ⟨21000, .live⟩ ∧ y.yds.geometry.get .h2 = some (geometryOf recH1) ∧
      (geometryOf recH1).full ≤ 21000 ∧ (geometryOf recH1).topStop ≤ 21000 ∧ .h2 ∈ y.mvs.worked .h1 ∧
      Stands 0x49#8 (formOf []) [] z) ∧
    (let y := drawingBoth 0 0;
      let z : Yard := { y with hsu := { y.hsu with holders := y.hsu.holders.set .h2 { HolderDyn.fresh with
        travel := some ⟨21000, .live⟩ } }, mvs := { y.mvs with orders := [order41 .draw] } };
      (z.hsu.holders.get .h2).travel = some ⟨21000, .live⟩ ∧ .h2 ∉ z.mvs.worked .h1 ∧ (order41 .draw).state ≠ .waiting ∧
      z.yds.desc = .committed ∧ (geometryOf recH1).full ≤ 21000) ∧
    (let y := paired { order41 .float with state := .closing, reason := some .landing } none none ⟨.shut, .moving, .running 0 120⟩;
      (y.mvs.valve ⟨.h2, .inlet⟩).timer = .running 0 120 ∧ .h2 ∈ y.mvs.worked .h1 ∧ Holder.leads .h1 = true ∧
      y.yds.bind.valve ⟨.h2, .inlet⟩ ≠ none ∧
      (∃ o, y.mvs.orders = [] ++ o :: [] ∧ o.state = .closing)) ∧
    (let y := paired (order41 .float) (some 9000) (some 7401) ⟨.opened, .moving, .running 0 120⟩;
      y.StockKnown .h1 9000000 ∧ (∀ w ∈ y.mvs.worked .h1, ¬y.InBand w)) ∧
    (let y := paired (order41 .float) (some 9000) (some 7400) ⟨.opened, .moving, .running 0 120⟩;
      (∃ w ∈ y.mvs.worked .h1, y.InBand w) ∧ (y.hsu.holders.get .h1).travel.map (·.value) = some 9000) ∧
    (paired (order41 .draw) (some 9000) none ⟨.opened, .moving, .running 0 120⟩).mvs.worked .h1 = [.h1, .h2] := by
  refine ⟨fun k => pair_canShut k _ _, ⟨rfl, rfl, rfl, rfl, rfl, rfl, by decide, by decide, by decide, stands [] rfl⟩, by decide,
    ⟨by decide, by decide, rfl, by decide, _, rfl, rfl⟩, ⟨⟨[4500000, 4500000], by decide, by decide, by decide⟩, fun w hw hb => ?_⟩,
    ⟨⟨.h2, by decide, (inBand_iff (t := 7400) (g := geometryOf recH1) rfl rfl).2 (by decide)⟩, rfl⟩, by decide⟩
  rcases mem_pair hw with rfl | rfl
  · exact absurd ((inBand_iff (t := 9000) (g := geometryOf recH1) rfl rfl).1 hb) (by decide)
  · exact absurd ((inBand_iff (t := 7401) (g := geometryOf recH1) rfl rfl).1 hb) (by decide)

/-- R57: the follower at its top stop closes the FILL of the pair; in a band it puts all four valves of a FLOAT to CRACKED; its
lost reading closes a DRAW. -/
theorem test_pair_readings :
    let y (k : OrderKind) (t : Option Int) := mvsReading .h2 (paired (order41 k) (some 9000) t ⟨.opened, .opened, .idle⟩)
    ((y .fill (some 20700)).mvs.orders.map fun o => (o.state, o.reason)) = [(.closing, some .topStop)] ∧
      ((y .float (some 7400)).scs.commands.map fun c => (c.outstation, c.channel, c.code)) =
        [(3, 0, .valveCrack), (3, 1, .valveCrack), (3, 2, .valveCrack), (3, 3, .valveCrack)] ∧
      ((y .draw none).mvs.orders.map fun o => (o.state, o.reason)) = [(.closing, some .readingLost)] := by decide

/-! ### Commands withdrawn, what COMMIT leaves, the mark of the period, replies kept and discarded, a line held -/

/-- OPEN, with a command of each owner for the points of outstation 3. -/
def commandsFor3 : Yard :=
  let y := (rostered yard [entry 3 false, entry 5 false]).updDistrict .d1 fun r => { r with govPending := true }
  { y with scs := { y.scs with rotating := some 3, commands := [⟨3, 0, .valveShut, 0, .valve ⟨.h1, .inlet⟩, 1, true, false⟩,
    ⟨5, 0, .valveShut, 0, .valve ⟨.h2, .inlet⟩, 0, false, false⟩, ⟨3, 1, .governorSet, 1200, .governor .d1, 0, false, false⟩,
    ⟨3, 2, .boosterRun, 0, .booster .d1, 0, false, false⟩] } }

theorem witness_removed_told :
    commandsFor3.yds.desc = .opened ∧
    (∀ c ∈ commandsFor3.scs.commands, c.outstation = 3 → c.owner = .valve ⟨.h1, .inlet⟩ ∨ c.owner = .governor .d1 ∨
      c.owner = .booster .d1) ∧ commandsFor3.mvs.activeOrder .h1 = none ∧
    commandsFor3.yds.bind.valve ⟨.h1, .inlet⟩ = none ∧
    Stands 0x14#8 (formOf layOutstation) [some (3 : Nat), some 0, none, none] commandsFor3 :=
  ⟨rfl, by decide, by decide, by decide, stands (writeFields layOutstation [some 3, some 0, none, none]) (by decide)⟩

/-- R37, R85, R117: the outstation removed, its valve fails, its governor records the loss without a notice. -/
theorem test_removed_told :
    let p := writeFields layOutstation [some 3, some 0, none, none]
    let y := (after (.outstation 0#8 p) (asked 0x14#8 p commandsFor3)).yard
    (y.scs.commands.map (·.outstation), y.scs.rotating, y.mvs.unmanaged.h1, y.mvs.unmanaged.h2) = ([5], some 5, true, false) ∧
      ((y.dgu.districts.get .d1).govPending, (y.dgu.districts.get .d1).govOutcome) = (false, .undelivered) ∧
      (y.notices.queue.map fun n => (n.kind, n.object)) = [(.coldStarted, 0), (.valveStuck, 1)] := by decide +kernel

/-- R94, R95: RECOMMISSION of a yard whose D1 is BOOSTED, its booster failed before; D2 is not present. -/
theorem test_recommission :
    let y := ready.updDistrict .d1 fun r => { r with
      feed := .boosted, boosterCmd := .run, failed := true, hyst := 3, commanded := some 1200, delivered := some 1200,
      govPending := true }
    let r := (after (.recommission 0#8 []) (asked 0x19#8 [] y)).yard.dgu.districts.get .d1
    ready.yds.districts.get .d2 = none ∧
      (r.feed, r.boosterCmd, r.failed, r.hyst) = (.direct, .none, false, 0) ∧
      (r.commanded, r.delivered, r.govPending, r.adoption) = (none, some 1200, false, true) := by decide +kernel

/-- The pair drawn: the follower alone lags. -/
theorem witness_pair_drawn :
    let y := lastReport .running .opened .opened 1750 0
    y.mvs.Lawful ∧ 2 ≤ (Holder.list.filter fun h =>
      y.mvs.orders.any fun o => decide (h ∈ y.mvs.worked o.holder ∧ o.state = .running ∧ o.kind ≠ .fill)).length ∧
    (y.yds.limits.get .h2).lagThreshold < contribution y .h1 - contribution y .h2 ∧
    (lagTest y).mvs.orders.map (fun o => (o.lagOwn, o.lagOther)) = [(false, true)] :=
  ⟨⟨by decide, by decide, by decide, by decide⟩, by decide, by decide, by decide⟩

/-- A yard with a mark period, the mark raised for a day or for none. -/
def marking (m : Nat) (raised : Option Nat) (y : Yard) : Yard :=
  { y with yds := { y.yds with periodMark := some m }, gdc := { y.gdc with markDay := raised } }

/-- The period mark test after PERIOD_END and SET TIME: the mark period on a WORKING and on a REST day, at the last period, past the
end of the day, and raised already. -/
theorem witness_mark_tested :
    (let y := marking 95 none (withRecord (emptyRecord 1 94) (clockAt 1 0 94 899 ready));
      (on y).powered = true ∧ y.gdc.clock = some ⟨1, 0, 94, 899, .working, false⟩ ∧ y.yds.periodMark = some 95 ∧ y.gdc.markDay ≠ some 1 ∧
      (marking 95 (some 1) y).gdc.markDay = some 1 ∧ 91 + y.yds.lag = 95 ∧ ¬(92 + y.yds.lag ≤ 95)) ∧
    (let y := marking 95 none (withResume ⟨1, 0, .working, some 94⟩ ready);
      y.gdc.clock = none ∧ y.gdc.resume = some ⟨1, 0, .working, some 94⟩ ∧ y.gdc.markDay ≠ some 1 ∧
      Stands 0x30#8 (formOf layTime) [some (1 : Nat), some (0 : Nat), some (95 : Nat), some (0 : Nat)] y) ∧
    ((marking 0 none ready).gdc.resume = none ∧
      Stands 0x30#8 (formOf layTime) [some (1 : Nat), some (0 : Nat), some (0 : Nat), some (0 : Nat)] (marking 0 none ready)) :=
  ⟨by decide, ⟨by decide, by decide, by decide, stands (writeFields layTime [some 1, some 0, some 95, some 0]) (by decide)⟩,
    ⟨by decide, stands (writeFields layTime [some 1, some 0, some 0, some 0]) (by decide)⟩⟩

/-- R77: the mark is raised at the start of its period, once a day. -/
theorem test_period_mark :
    let marks (raised : Option Nat) := ((after .periodEnd (on (marking 95 raised (withRecord (emptyRecord 1 94)
      (clockAt 1 0 94 899 ready))))).yard.notices.queue.filter (·.kind = .periodMark)).map fun n => (n.object, n.datum)
    marks none = [(0, 95)] ∧ marks (some 1) = [] := by decide +kernel

/-- The accounts at SET TIME: the day resumed stands, is missing, or is not taken while OPEN. -/
theorem witness_day_resumed :
    (withDay 1 (withResume ⟨1, 0, .working, some 3⟩ ready)).soa.current = some (dayOf 1) ∧ ready.soa.current = none ∧
    ready.soa.pending = none ∧ ready.yds.desc = .committed ∧ (withResume ⟨1, 0, .working, some 3⟩ yard).yds.desc = .opened ∧
    (withResume ⟨1, 0, .working, some 3⟩ yard).gdc.clock = none := by decide

/-- R146, R154, R180: a day resumed with periods skipped is PARTIAL and GAP. -/
theorem test_day_resumed :
    let p := writeFields layTime [some 1, some 0, some 6, some 0]
    ((after (.setTime 0#8 p) (asked 0x30#8 p (withDay 1 (withResume ⟨1, 0, .working, some 3⟩ ready)))).yard.soa.current.map fun d =>
      (d.day, d.flags)) = some (1, ⟨true, false, false, true⟩) := by decide +kernel

/-- Outstation 3 MISMATCHED, its channel 1 reported as a meter. -/
def mismatched3 : Entry :=
  { entry 3 false with dyn := { EntryDyn.fresh with
    state := .failed, identity := .mismatched, fitted := some ⟨.actuator, ⟨some .valve, some .meter, some .valve, some .valve⟩⟩ } }

/-- Entries kept and discarded, and an outstation FAILED that answers. -/
theorem witness_entries_kept :
    (entry 3 false).Keeps ⟨1, .good, 3#24⟩ ∧ ¬mismatched3.Keeps ⟨1, .good, 3#24⟩ ∧ mismatched3.Keeps ⟨0, .good, 3#24⟩ ∧
    ¬({ entry 3 false with points := .all none } : Entry).Keeps ⟨1, .good, 3#24⟩ ∧
    (let y := rostered (answered 7 (.read 3) ready) [mismatched3];
      y.scs.entryAt 3 = some mismatched3 ∧ mismatched3.dyn.state = .failed ∧ y.notices.queue.length < 32 ∧
      y.ylc.line = .receiving ∧ y.yds.bind.valve ⟨.h1, .outlet⟩ = some ⟨3, 1⟩) :=
  ⟨⟨by decide, by decide⟩, fun ⟨_, h⟩ => absurd (h rfl _ rfl) (by decide), ⟨by decide, fun _ _ h => by cases h; rfl⟩,
    fun ⟨h, _⟩ => h rfl, by decide⟩

/-- R119, R120: the valve whose point IDENT reported as a meter has no report from it; OUTSTATION RECOVERED is raised. -/
theorem test_entry_discarded :
    let y := (after (.replyComplete 500 ([0x01#8, 0#8, 0#8, 0x01#8, 3#8, 0#8, 0#8]
      ++ crcBytes [0x01#8, 0#8, 0#8, 0x01#8, 3#8, 0#8, 0#8])) (on (rostered (answered 7 (.read 3) ready) [mismatched3]))).yard
    y.mvs.outlets.h1.reported = .unknown ∧
      (y.notices.queue.map fun n => (n.kind, n.object, n.datum)) = [(.coldStarted, 0, 0), (.outstationRecovered, 3, 3)] := by
  decide +kernel

/-- Outstation 5 with the make meter on channel 1, its reply due; day 212 pending with the marker out, D1's meter on 6. -/
def latchAnswered : Yard :=
  let e : Entry := ⟨5, .recorder, false, ⟨none, some .meter, none, none⟩, { EntryDyn.fresh with identity := .matched }⟩
  let y := based (some 1000) (withRecord (emptyRecord 213 0) latching)
  let y := rostered (line .receiving (.frame (.read 5)) (some 1080) y) [e]
  { y with
    ylc := { y.ylc with flight := some { flying (.frame (.read 5)) with header := some (10, false) } }
    yds := { y.yds with bind := { y.yds.bind with slots := y.yds.bind.slots.set (.meter .d1) ⟨some ⟨6, 1⟩, none⟩ } }
    soa := { y.soa with seen := y.soa.seen.set .make ⟨some 1000, none, none⟩ } }

/-- The premises of the latch's effect on the accounts, the register at 1,100 and its index latched at 1,040. -/
theorem witness_latch_answered :
    (latchAnswered.ylc.line = .receiving ∧ latchAnswered.ylc.timer = some 1080 ∧ latchAnswered.yds.desc = .committed ∧
      (latchAnswered.scs.entryAt 5).map (fun e => (e.points.get 1, e.dyn.identity)) = some (some .meter, .matched)) ∧
    (33#8 : Byte).toNat = [(⟨1, .good, 1100#24⟩ : PointEntry)].length + 8 * false.toNat + 16 * false.toNat + 32 * true.toNat ∧
    (latchAnswered.yds.meterBound .make = true ∧ (∀ k, (latchAnswered.yds.bind.slots.get (meterSlot k)).primary = some ⟨5, 1⟩ ↔ k = .make) ∧
      latchAnswered.qpr.current ≠ none ∧ latchAnswered.qpr.markerAwaited = false ∧
      (latchAnswered.qpr.recs.get (meterSlot .make)).base = some 1000 ∧ ((100 : Nat) : Int) ≤ (latchAnswered.yds.subs.get .makeMeter).jump ∧
      latchAnswered.soa.current = some (dayOf 213) ∧ latchAnswered.soa.pending = some ⟨dayOf 212, false, false⟩ ∧
      latchAnswered.soa.markerOut = true ∧ ((dayOf 212).meters.get .make).latched = false) ∧
    (latchAnswered.yds.meterBound (.district .d1) = true ∧ ((dayOf 212).meters.get (.district .d1)).latched = false ∧
      (latchAnswered.yds.bind.slots.get (meterSlot (.district .d1))).primary = some ⟨6, 1⟩ ∧
      (latchAnswered.soa.seen.get .make).register = some 1000) := by
  refine ⟨by decide, by decide, ⟨by decide, fun k => ?_, by decide⟩, by decide⟩
  cases k with
  | make => decide
  | district d => cases d <;> decide

/-- R152: 40 counts of the 100 go to the day that pends, 60 to the day that is open. -/
theorem test_latch_answered :
    let bytes : List Byte := [33#8, 0#8, 0#8, 1#8, 0x4C#8, 4#8, 0#8, 0x10#8, 4#8, 0#8]
    let y := (after (.replyComplete 500 (bytes ++ crcBytes bytes)) (on latchAnswered)).yard
    (y.soa.pending.map fun p => (p.day.meters.get .make).remainder) = some (40 * y.yds.makeFactor) ∧
      (y.soa.current.map fun d => (d.meters.get .make).openAcc) = some (60 * y.yds.makeFactor) := by decide +kernel

/-- The ORDER of a valve of the working order alone in the list: of a holder that stands alone, and of the pair's follower. -/
theorem witness_acked_valves (k : OrderKind) :
    let still (y : Yard) (v : Valve) : Yard :=
      { y with mvs := y.mvs.setValve v { y.mvs.valve v with timer := .idle }, scs := { y.scs with commands := [] } }
    (still (stuck k .opening) ⟨.h1, .inlet⟩).CanShut [] [] { order41 k with state := .opening } (points41 k) ∧
      (stuck k .opening).yds.bind.valve ⟨.h1, .inlet⟩ ≠ none ∧ ready.yds.bind.valve ⟨.h2, .outlet⟩ ≠ none ∧
      (still (paired (order41 k) none none ⟨.opened, .moving, .running 0 120⟩) ⟨.h2, .outlet⟩).CanShut [] [] (order41 k)
        (pairPoints k) := by
  cases k <;> exact ⟨by constructor <;> decide, by decide, by decide, by constructor <;> decide⟩

/-- A line at space 400 ms long, an exchange in flight, outstation 3 UNKNOWN with misses behind it. -/
def holding (f : Frame) (retrying : Bool) (misses : Nat) (sends : Nat) : Yard :=
  let y := rostered (spaced (line .awaitReply (.frame f) (some 1200) ready)) [{ entry 3 false with dyn := { EntryDyn.fresh with
    misses := misses, load := .pending } }]
  { y with scs := { y.scs with
    retrying := retrying
    commands := [⟨3, 1, .governorSet, 1200, .governor .d1, sends, true, true⟩]
    loads := [⟨3, 0, 7, sends, true, true⟩] } }

theorem witness_line_held :
    (∀ f ∈ [Frame.read 3, .order 3 1 .governorSet 1200, .load 3 0 7], ∀ n ∈ [2, 3],
      let y := holding f (decide (n = 3)) 255 n
      (on y).powered = true ∧ y.ylc.driving = false ∧ y.ylc.line ≠ .held ∧ y.ylc.detector = some 0 ∧
        y.ylc.flight = some (flying (.frame f)) ∧ f.address = 3 ∧ (y.scs.entryAt f.address).isSome = true ∧
        y.scs.commands.map (fun c => (c.inFlight, c.taken, c.sends)) = [(true, true, n)] ∧
        y.scs.loads.map (fun l => (l.address, l.inFlight, l.taken, l.sends)) = [(3, true, true, n)] ∧ y.yds.desc = .committed) ∧
    max 0 9600 - (holding (.read 3) false 0 0).scs.pollStart < 16800 * (holding (.read 3) false 0 0).scs.interval := by
  refine ⟨by decide, ?_⟩
  rw [Nat.zero_max]
  decide

/-- R101, R115, R129, R130: what LINE_HELD makes of the second READ of a poll, and of an ORDER and a LOAD sent three times. -/
theorem test_line_held :
    let held (f : Frame) := (after .lineHeld (on (holding f true 1 3))).yard
    ((held (.read 3)).scs.roster.map fun e => (e.dyn.misses, e.dyn.state)) = [(2, .suspect)] ∧
      ((held (.order 3 1 .governorSet 1200)).scs.commands,
        ((held (.order 3 1 .governorSet 1200)).dgu.districts.get .d1).govOutcome) = ([], .undelivered) ∧
      ((held (.load 3 0 7)).scs.loads, (held (.load 3 0 7)).scs.roster.map (·.dyn.load)) = ([], [.failed]) := by decide +kernel

/-- LINE RESET under a working order of the pair, one command in the list. -/
theorem witness_pair_reset (k : OrderKind) :
    let y : Yard := { paired (order41 k) none none ⟨.opened, .moving, .running 0 120⟩ with
      scs := { ready.scs with commands := [⟨3, 3, .valveOpen, 0, .valve ⟨.h2, .outlet⟩, 0, false, false⟩] } }
    ({ y with scs := { y.scs with commands := [] } } : Yard).CanShut [] [] (order41 k) (pairPoints k) ∧
      .h2 ∈ y.mvs.worked (order41 k).holder ∧ y.yds.bind.valve ⟨.h2, .outlet⟩ ≠ none :=
  ⟨{ pair_canShut_still k with }, by cases k <;> decide, by cases k <;> decide⟩

end Sys2Proof.Tests
end

section
/-! SUPPORT. What the work of the movement sequencer, of the stock unit and of a change of source leaves standing. -/

namespace Sys2Proof.Machine

/-! ### Keeping a view of the yard through folds and deeds -/

/-- What each step of a fold keeps of the yard, the fold keeps. -/
theorem foldl_keeps {α β : Type} (g : Yard → β) {f : Yard → α → Yard} (h : ∀ y a, g (f y a) = g y) (as : List α)
    (y : Yard) : g (as.foldl f y) = g y := by
  induction as generalizing y with
  | nil => rfl
  | cons a as ih => exact (ih _).trans (h y a)

/-- What each deed keeps of the yard, the work keeps. -/
theorem work_view {β : Type} (g : Yard → β) (h : ∀ d y, g (deed d y).1 = g y) (ds : List Deed) (y : Yard) :
    g (work ds y) = g y :=
  work_keeps (P := fun z => g z = g y) (fun d z hz => (h d z).trans hz) ds rfl

/-! ### What stands -/

/-- The yard with everything blotted out that MVS can touch: the movement items but the coupling, the command list and the
notices. -/
def Yard.unmoved (y : Yard) : Yard :=
  { y with
    mvs := { Mvs.cold false 0 with coupled := y.mvs.coupled }
    scs := { y.scs with commands := [] }
    notices := ⟨[], 0⟩ }

section
variable (y : Yard)

@[simp] theorem raiseNotice_unmoved (k : NoticeKind) (o : Nat) (v : Int) :
    (raiseNotice k o v y).unmoved = y.unmoved := rfl
@[simp] theorem putCommand_unmoved (p : Point) (c : CmdCode) (v : Int) (w : Owner) :
    (putCommand p c v w y).1.unmoved = y.unmoved := rfl

/-- MVS touched in anything but the coupling leaves the rest of the yard. -/
@[simp] theorem Yard.updMvs_unmoved {f : Mvs → Mvs} (h : ∀ m, (f m).coupled = m.coupled) :
    (y.updMvs f).unmoved = y.unmoved := by
  simp [Yard.unmoved, Yard.updMvs, h]

end

@[simp] theorem Mvs.updOrder_coupled (m : Mvs) (n : Nat) (f : Order → Order) :
    (m.updOrder n f).coupled = m.coupled := by
  simp only [Mvs.updOrder]
@[simp] theorem Mvs.dropOrder_coupled (m : Mvs) (n : Nat) : (m.dropOrder n).coupled = m.coupled := by
  simp only [Mvs.dropOrder]

section
variable (y : Yard)

@[simp] theorem setUnmanaged_unmoved (hs : List Holder) (b : Bool) :
    (setUnmanaged hs b y).unmoved = y.unmoved := rfl
@[simp] theorem setShutPending_unmoved (hs : List Holder) (b : Bool) :
    (setShutPending hs b y).unmoved = y.unmoved := rfl
@[simp] theorem setTimer_unmoved (v : Valve) (t : Timer) :
    (setTimer v t y).unmoved = y.unmoved := by simp [setTimer]
@[simp] theorem raiseEnded_unmoved (o : Order) (r : EndReason) : (raiseEnded o r y).unmoved = y.unmoved := rfl
@[simp] theorem raiseStuck_unmoved (v : Valve) : (raiseStuck v y).unmoved = y.unmoved := rfl
@[simp] theorem raiseLocal_unmoved (v : Valve) : (raiseLocal v y).unmoved = y.unmoved := rfl

@[simp] theorem commandValve_unmoved (v : Valve) (p : Commanded) : (commandValve v p y).1.unmoved = y.unmoved := by
  unfold commandValve
  dsimp only
  repeat' split
  all_goals simp

@[simp] theorem commandAll_unmoved (p : Commanded) (vs : List Valve) : (commandAll p vs y).1.unmoved = y.unmoved :=
  commandAll_keeps (P := fun z => z.unmoved = y.unmoved) (fun v z hz => (commandValve_unmoved z v p).trans hz) vs rfl

@[simp] theorem closeOrder_unmoved (n : Nat) (r : EndReason) : (closeOrder n r y).1.unmoved = y.unmoved := by
  unfold closeOrder
  repeat' split
  all_goals simp

@[simp] theorem valveFails_unmoved (v : Valve) : (valveFails v y).1.unmoved = y.unmoved := by
  obtain ⟨_, e⟩ | ⟨o, _, ⟨_, e⟩ | ⟨_, e⟩⟩ := valveFails_cases v y <;> rw [e] <;> simp

@[simp] theorem runOrder_unmoved (n : Nat) : (runOrder n y).1.unmoved = y.unmoved := by
  unfold runOrder
  repeat' split
  all_goals simp

@[simp] theorem finishOrder_unmoved (n : Nat) (r : EndReason) : (finishOrder n r y).1.unmoved = y.unmoved := by
  unfold finishOrder
  repeat' split
  all_goals simp

@[simp] theorem completeOrder_unmoved (n : Nat) : (completeOrder n y).1.unmoved = y.unmoved := by
  unfold completeOrder
  repeat' split
  all_goals simp

@[simp] theorem tryActivate_unmoved (h : Holder) : (tryActivate h y).1.unmoved = y.unmoved := by
  unfold tryActivate
  dsimp only
  repeat' split
  all_goals simp

@[simp] theorem testShutHolder_unmoved (h : Holder) : (testShutHolder h y).unmoved = y.unmoved := by
  unfold testShutHolder
  split <;> simp

@[simp] theorem lagOne_unmoved (best : Int) (h : Holder) : (lagOne best y h).unmoved = y.unmoved := by
  unfold lagOne
  dsimp only
  repeat' split
  all_goals simp

@[simp] theorem lagTest_unmoved : (lagTest y).unmoved = y.unmoved := by
  unfold lagTest
  split
  · exact foldl_keeps Yard.unmoved (fun z h => lagOne_unmoved z _ h) _ _
  · rfl

@[simp] theorem deed_unmoved (d : Deed) : (deed d y).1.unmoved = y.unmoved := by
  cases d with
  | drop n r => simp only [deed]; split <;> simp
  | _ => simp [deed]

@[simp] theorem work_unmoved (ds : List Deed) : (work ds y).unmoved = y.unmoved :=
  work_view Yard.unmoved (fun d z => deed_unmoved z d) ds y

/-! ### Outcomes, reports, the trip, readings -/

@[simp] theorem valveLocal_unmoved (v : Valve) : (valveLocal v y).unmoved = y.unmoved := by
  unfold valveLocal
  dsimp only
  split <;> simp

@[simp] theorem valveOutcome_unmoved (v : Valve) (r : CmdOutcome) : (valveOutcome v r y).unmoved = y.unmoved := by
  unfold valveOutcome
  repeat' split
  all_goals simp

@[simp] theorem valveMovedItself_unmoved (v : Valve) : (valveMovedItself v y).unmoved = y.unmoved := by
  unfold valveMovedItself
  dsimp only
  repeat' split
  all_goals simp

@[simp] theorem valveReport_unmoved (v : Valve) (rep : Reported) : (valveReport v rep y).unmoved = y.unmoved := by
  unfold valveReport
  cases rep <;> dsimp only <;> split <;> simp [apply_ite Yard.unmoved]

@[simp] theorem tripYard_unmoved (c : TripCause) : (tripYard c y).unmoved = y.unmoved := by simp [tripYard]

@[simp] theorem bandsPassed_unmoved (h : Holder) (prev t : Int) (k : Nat) (bs : List (Int × Int)) :
    (bandsPassed h prev t k bs y).unmoved = y.unmoved := by
  induction bs generalizing k y with
  | nil => rfl
  | cons b bs ih => rw [bandsPassed, ih]; split <;> simp

@[simp] theorem throttle_unmoved (h : Holder) (t : Int) (o : Order) : (throttle h t o y).unmoved = y.unmoved := by
  unfold throttle
  dsimp only
  split <;> simp

@[simp] theorem orderReading_unmoved (h : Holder) (o : Order) : (orderReading h o y).unmoved = y.unmoved := by
  unfold orderReading
  dsimp only
  repeat' split
  all_goals simp

@[simp] theorem overTop_unmoved (h : Holder) : (overTop h y).unmoved = y.unmoved := by
  unfold overTop
  repeat' split
  all_goals simp

@[simp] theorem whenReading_unmoved (h : Holder) : (whenReading h y).unmoved = y.unmoved := by simp [whenReading]

@[simp] theorem mvsReading_unmoved (h : Holder) : (mvsReading h y).unmoved = y.unmoved := by
  unfold mvsReading
  dsimp only
  repeat' split
  all_goals simp

@[simp] theorem newContribution_unmoved (h : Holder) : (newContribution h y).unmoved = y.unmoved := by
  unfold newContribution
  split <;> simp

@[simp] theorem mvsPeriodStart_unmoved (p : Nat) :
    (mvsPeriodStart p y).unmoved = y.unmoved := by simp [mvsPeriodStart]

/-! ### Stocks and changes of source -/

/-- The yard with the stocks and the quantity records blotted out too. Two yards with the same standing part differ in what MVS,
HSU or a change of source can touch alone. -/
def Yard.standing (y : Yard) : Yard := { y.unmoved with hsu := .fresh, qpr := { y.qpr with recs := .make fun _ => .fresh } }

theorem standing_of_unmoved {y y' : Yard} (h : y'.unmoved = y.unmoved) : y'.standing = y.standing := by
  have e : ∀ z : Yard, z.standing =
      { z.unmoved with hsu := .fresh, qpr := { z.unmoved.qpr with recs := .make fun _ => .fresh } } := fun _ => rfl
  rw [e, e, h]

@[simp] theorem Yard.updHsu_standing (f : Hsu → Hsu) : (y.updHsu f).standing = y.standing := rfl
@[simp] theorem Yard.updHolder_standing (h : Holder) (f : HolderDyn → HolderDyn) :
    (y.updHolder h f).standing = y.standing := rfl
@[simp] theorem Yard.updRec_standing (q : Slot) (f : QRec → QRec) : (y.updRec q f).standing = y.standing := rfl
@[simp] theorem raiseNotice_standing (k : NoticeKind) (o : Nat) (v : Int) :
    (raiseNotice k o v y).standing = y.standing := rfl
@[simp] theorem mvsReading_standing (h : Holder) : (mvsReading h y).standing = y.standing :=
  standing_of_unmoved (mvsReading_unmoved y h)
@[simp] theorem newContribution_standing (h : Holder) : (newContribution h y).standing = y.standing :=
  standing_of_unmoved (newContribution_unmoved y h)

@[simp] theorem assess_standing (h : Holder) : (assess h y).standing = y.standing := by simp [assess]

@[simp] theorem formStock_standing (h : Holder) : (formStock h y).standing = y.standing := by
  unfold formStock
  repeat' split
  all_goals simp

@[simp] theorem formAll_standing (hs : List Holder) : (formAll hs y).standing = y.standing :=
  foldl_keeps Yard.standing (fun z h => formStock_standing z h) hs y

@[simp] theorem formPresent_standing : (formPresent y).standing = y.standing := formAll_standing y _

@[simp] theorem stockBack_standing (h : Holder) : (stockBack h y).standing = y.standing := by
  unfold stockBack
  dsimp only
  repeat' split
  all_goals simp

@[simp] theorem pressSample_standing (h : Holder) (s : Sampled) : (pressSample h s y).standing = y.standing := by
  unfold pressSample
  dsimp only
  repeat' split
  all_goals simp

@[simp] theorem pressSource_standing (h : Holder) (s : Option Sampled) :
    (pressSource h s y).standing = y.standing := by
  simp [pressSource]

@[simp] theorem yardTempChange_standing : (yardTempChange y).standing = y.standing := formAll_standing y _

@[simp] theorem baroChange_standing (s : Option Sampled) :
    (baroChange s y).standing = y.standing := by simp [baroChange]

@[simp] theorem hsuSample_standing (q : Slot) (s : Sampled) : (hsuSample q s y).standing = y.standing := by
  cases q <;> simp [hsuSample]

@[simp] theorem hsuSource_standing (q : Slot) (s : Option Sampled) : (hsuSource q s y).standing = y.standing := by
  cases q <;> simp [hsuSource]

@[simp] theorem handSource_standing (q : Slot) : (handSource q y).standing = y.standing := hsuSource_standing y q _

@[simp] theorem toDeclared_standing (q : Slot) : (toDeclared q y).standing = y.standing := by simp [toDeclared]

@[simp] theorem holdTest_standing (q : Slot) : (holdTest q y).standing = y.standing := by
  unfold holdTest
  dsimp only
  split <;> simp

@[simp] theorem unboundNow_standing (q : Slot) : (unboundNow q y).standing = y.standing := by
  simp [unboundNow, apply_ite Yard.standing]

@[simp] theorem unboundAll_standing : (unboundAll y).standing = y.standing :=
  foldl_keeps Yard.standing (fun z q => unboundNow_standing z q) _ y

@[simp] theorem reclamp_standing (q : Slot) : (reclamp q y).standing = y.standing := by
  unfold reclamp
  dsimp only
  repeat' split
  all_goals simp

@[simp] theorem applySubstitute_standing (q : Slot) : (applySubstitute q y).standing = y.standing := by
  unfold applySubstitute
  dsimp only
  repeat' split
  all_goals simp

@[simp] theorem sinceRises_standing : (sinceRises y).standing = y.standing := by
  unfold sinceRises
  dsimp only
  rw [foldl_keeps Yard.standing fun z q => holdTest_standing z q, foldl_keeps Yard.standing fun z q => z.updRec_standing q _]

end

end Sys2Proof.Machine
end

section
/-! SUPPORT. What describes the yard, kept by the work of every block. -/

namespace Sys2Proof.Machine

/-- The fixed items of a roster entry (R117). -/
def Entry.fixed (e : Entry) : Nat × OutstationKind × Bool × Four (Option PointKind) := (e.address, e.kind, e.sleeper, e.points)

/-- What describes the yard: the description store, and the fixed items of the roster. -/
def Yard.described (y : Yard) : Yds × List (Nat × OutstationKind × Bool × Four (Option PointKind)) :=
  (y.yds, y.scs.roster.map Entry.fixed)

theorem described_of_standing {y y' : Yard} (h : y'.standing = y.standing) : y'.described = y.described :=
  by
  have e : ∀ z : Yard, z.described = (z.standing.yds, z.standing.scs.roster.map Entry.fixed) := fun _ => rfl
  rw [e, e, h]

theorem described_of_unmoved {y y' : Yard} (h : y'.unmoved = y.unmoved) : y'.described = y.described :=
  described_of_standing (standing_of_unmoved h)

theorem Yard.yds_of_described {y y' : Yard} (h : y'.described = y.described) : y'.yds = y.yds := congrArg Prod.fst h

section
variable (y : Yard)

/-! ### The updates -/

@[simp] theorem Yard.updHsu_described (f : Hsu → Hsu) : (y.updHsu f).described = y.described := rfl
@[simp] theorem Yard.updMvs_described (f : Mvs → Mvs) : (y.updMvs f).described = y.described := rfl
@[simp] theorem Yard.updGdc_described (f : Gdc → Gdc) : (y.updGdc f).described = y.described := rfl
@[simp] theorem Yard.updDgu_described (f : Dgu → Dgu) : (y.updDgu f).described = y.described := rfl
@[simp] theorem Yard.updYlc_described (f : Ylc → Ylc) : (y.updYlc f).described = y.described := rfl
@[simp] theorem Yard.updQpr_described (f : Qpr → Qpr) : (y.updQpr f).described = y.described := rfl
@[simp] theorem Yard.updSoa_described (f : Soa → Soa) : (y.updSoa f).described = y.described := rfl
@[simp] theorem Yard.updHolder_described (h : Holder) (f : HolderDyn → HolderDyn) :
    (y.updHolder h f).described = y.described := rfl
@[simp] theorem Yard.updDistrict_described (d : District) (f : DistrictDyn → DistrictDyn) :
    (y.updDistrict d f).described = y.described := rfl
@[simp] theorem Yard.updRec_described (q : Slot) (f : QRec → QRec) : (y.updRec q f).described = y.described := rfl
@[simp] theorem Yard.reach_described (t : Time) : (y.reach t).described = y.described := rfl
@[simp] theorem raiseNotice_described (k : NoticeKind) (o : Nat) (v : Int) :
    (raiseNotice k o v y).described = y.described := rfl
@[simp] theorem putCommand_described (p : Point) (c : CmdCode) (v : Int) (w : Owner) :
    (putCommand p c v w y).1.described = y.described := rfl
@[simp] theorem drawShortfall_described : (drawShortfall y).2.described = y.described := rfl

/-- SCS touched in anything but the fixed items of the roster leaves the description. -/
@[simp] theorem Yard.updScs_described {f : Scs → Scs}
    (h : ∀ u, (f u).roster.map Entry.fixed = u.roster.map Entry.fixed) : (y.updScs f).described = y.described := by
  simp [Yard.described, h]

/-- An entry changed in its dynamic record alone keeps its fixed items. -/
theorem Entry.fixed_dyn (e : Entry) (d : EntryDyn) : ({ e with dyn := d } : Entry).fixed = e.fixed := rfl

/-- A change of every entry that keeps the fixed items of each keeps those of the roster. -/
theorem map_fixed {g : Entry → Entry} (h : ∀ e, (g e).fixed = e.fixed) (es : List Entry) :
    (es.map g).map Entry.fixed = es.map Entry.fixed := by
  simp [h]

@[simp] theorem updEntryDyn_described (a : Nat) (f : EntryDyn → EntryDyn) :
    (updEntryDyn a f y).described = y.described := by
  refine Yard.updScs_described y fun u => map_fixed (fun e => ?_) _
  split <;> rfl

/-! ### The work of MVS and HSU -/

@[simp] theorem work_described (ds : List Deed) : (work ds y).described = y.described :=
  described_of_unmoved (by simp)
@[simp] theorem lagTest_described : (lagTest y).described = y.described := described_of_unmoved (by simp)
@[simp] theorem setShutPending_described (hs : List Holder) (b : Bool) :
    (setShutPending hs b y).described = y.described :=
  described_of_unmoved (by simp)
@[simp] theorem valveOutcome_described (v : Valve) (r : CmdOutcome) : (valveOutcome v r y).described = y.described :=
  described_of_unmoved (by simp)
@[simp] theorem valveReport_described (v : Valve) (r : Reported) : (valveReport v r y).described = y.described :=
  described_of_unmoved (by simp)
@[simp] theorem tripYard_described (c : TripCause) : (tripYard c y).described = y.described :=
  described_of_unmoved (by simp)
@[simp] theorem mvsPeriodStart_described (p : Nat) : (mvsPeriodStart p y).described = y.described :=
  described_of_unmoved (by simp)
@[simp] theorem stockBack_described (h : Holder) : (stockBack h y).described = y.described :=
  described_of_standing (by simp)
@[simp] theorem formPresent_described : (formPresent y).described = y.described := described_of_standing (by simp)
@[simp] theorem yardTempChange_described : (yardTempChange y).described = y.described :=
  described_of_standing (by simp)
@[simp] theorem hsuSample_described (q : Slot) (s : Sampled) : (hsuSample q s y).described = y.described :=
  described_of_standing (by simp)
@[simp] theorem handSource_described (q : Slot) : (handSource q y).described = y.described :=
  described_of_standing (by simp)
@[simp] theorem holdTest_described (q : Slot) : (holdTest q y).described = y.described :=
  described_of_standing (by simp)
@[simp] theorem unboundNow_described (q : Slot) : (unboundNow q y).described = y.described :=
  described_of_standing (by simp)
@[simp] theorem unboundAll_described : (unboundAll y).described = y.described := described_of_standing (by simp)
@[simp] theorem applySubstitute_described (q : Slot) : (applySubstitute q y).described = y.described :=
  described_of_standing (by simp)
@[simp] theorem sinceRises_described : (sinceRises y).described = y.described := described_of_standing (by simp)

/-! ### The accounts (09) -/

@[simp] theorem openFresh_described (day weekday : Nat) (t : DayType) (gap : Bool) :
    (openFresh day weekday t gap y).described = y.described := by
  simp [openFresh]

@[simp] theorem closeDay_described (d : Day) : (closeDay d y).1.described = y.described := by
  unfold closeDay
  dsimp only
  split
  · simp [apply_ite Yard.described]
  · simp

@[simp] theorem takePeriodVolume_described (m : Meter) (day period : Nat) (v : Int) (e : Bool) :
    (takePeriodVolume m day period v e y).described = y.described := by
  unfold takePeriodVolume
  dsimp only
  repeat' split
  all_goals simp

@[simp] theorem takeRemainder_described (m : Meter) (v : Int) : (takeRemainder m v y).described = y.described := by
  simp [takeRemainder]

@[simp] theorem finishPending_described : (finishPending y).described = y.described := by
  unfold finishPending
  dsimp only
  repeat' split
  all_goals simp

@[simp] theorem correctRemainder_described (m : Meter) : (correctRemainder y m).described = y.described := by
  unfold correctRemainder
  dsimp only
  repeat' split
  all_goals simp

@[simp] theorem startCompletion_described : (startCompletion y).described = y.described := by
  unfold startCompletion
  dsimp only
  split
  · simp [foldl_keeps Yard.described fun z m => correctRemainder_described z m]
  · rfl

@[simp] theorem tryComplete_described : (tryComplete y).described = y.described := by
  unfold tryComplete
  repeat' split
  all_goals simp

@[simp] theorem makeDue_described : (makeDue y).described = y.described := by simp [makeDue]

@[simp] theorem periodResult_described (c : Correction) : (periodResult c y).described = y.described := by
  simp [periodResult]

@[simp] theorem remainderValue_described (r : Remainder) : (remainderValue r y).described = y.described := by
  simp [remainderValue]

@[simp] theorem meterResult_described (m : Meter) (p : Nat) : (meterResult m p y).described = y.described := by
  unfold meterResult
  repeat' split
  all_goals simp

@[simp] theorem remainderBack_described (m : Meter) : (remainderBack m y).described = y.described := by
  unfold remainderBack
  repeat' split
  all_goals simp

@[simp] theorem forcePending_described : (forcePending y).described = y.described := by
  unfold forcePending
  dsimp only
  split
  · simp [foldl_keeps Yard.described fun z c => periodResult_described z c,
      foldl_keeps Yard.described fun z r => remainderValue_described z r]
  · rfl

@[simp] theorem soaDelta_described (m : Meter) (n : Nat) (b : Bool) (r : Option Nat) :
    (soaDelta m n b r y).described = y.described := by
  unfold soaDelta
  dsimp only
  repeat' split
  all_goals simp

@[simp] theorem forgetSeen_described (m : Meter) : (forgetSeen m y).described = y.described := by simp [forgetSeen]

@[simp] theorem newReply_described : (newReply y).described = y.described := by simp [newReply]

@[simp] theorem soaLatch_described (pt : Point) (l : Nat) : (soaLatch pt l y).described = y.described := by
  unfold soaLatch
  dsimp only
  repeat' split
  all_goals simp

@[simp] theorem correctPeriod_described (r : PeriodRec) (m : Meter) :
    (correctPeriod r y m).described = y.described := by
  unfold correctPeriod
  dsimp only
  repeat' split
  all_goals simp

@[simp] theorem soaRecord_described (r : PeriodRec) : (soaRecord r y).described = y.described := by
  unfold soaRecord
  dsimp only
  split
  · simp [foldl_keeps Yard.described fun z m => correctPeriod_described z r m]
  · rfl

@[simp] theorem soaClosing_described (h : Holder) (c : Closing) : (soaClosing h c y).described = y.described := by
  unfold soaClosing
  repeat' split
  all_goals simp

@[simp] theorem soaPeriodClose_described (p : Nat) : (soaPeriodClose p y).described = y.described := by
  unfold soaPeriodClose
  repeat' split
  all_goals simp

@[simp] theorem soaStop_described : (soaStop y).described = y.described := by
  unfold soaStop
  dsimp only
  repeat' split
  all_goals simp

@[simp] theorem closePartial_described : (closePartial y).1.described = y.described := by
  unfold closePartial
  dsimp only
  repeat' split
  all_goals simp

@[simp] theorem soaDayClose_described (b : Bool) : (soaDayClose b y).1.described = y.described := by
  unfold soaDayClose
  dsimp only
  repeat' split
  all_goals simp

@[simp] theorem soaPeriodStart_described (s : PeriodStart) (c : Option (Int × Bool)) :
    (soaPeriodStart s c y).described = y.described := by
  unfold soaPeriodStart
  dsimp only
  repeat' split
  all_goals simp

@[simp] theorem soaMarkerSent_described : (soaMarkerSent y).described = y.described := by simp [soaMarkerSent]

@[simp] theorem soaCommit_described : (soaCommit y).described = y.described := by
  unfold soaCommit
  dsimp only
  repeat' split
  all_goals simp

/-! ### Closing stocks (R25) -/

@[simp] theorem recordClosing_described (h : Holder) (c : Closing) :
    (recordClosing h c y).described = y.described := by
  simp [recordClosing]

@[simp] theorem closeHolder_described (r : PeriodRec) (h : Holder) : (closeHolder r y h).described = y.described := by
  unfold closeHolder
  repeat' split
  all_goals simp

@[simp] theorem hsuRecord_described (r : PeriodRec) : (hsuRecord r y).described = y.described := by
  unfold hsuRecord
  split
  · exact foldl_keeps Yard.described (fun z h => closeHolder_described z r h) _ y
  · rfl

@[simp] theorem closingBack_described (h : Holder) : (closingBack h y).described = y.described := by
  unfold closingBack
  dsimp only
  repeat' split
  all_goals simp

/-! ### The district governing unit (05) -/

@[simp] theorem dguPeriodStart_described (s : PeriodStart) : (dguPeriodStart s y).described = y.described :=
  foldl_keeps Yard.described (fun z d => z.updDistrict_described d _) _ y

@[simp] theorem trimOne_described (r : PeriodRec) (d : District) : (trimOne r y d).described = y.described := by
  unfold trimOne
  dsimp only
  repeat' split
  all_goals simp

@[simp] theorem dguRecord_described (r : PeriodRec) : (dguRecord r y).described = y.described := by
  unfold dguRecord
  split
  · exact foldl_keeps Yard.described (fun z d => trimOne_described z r d) _ y
  · rfl

@[simp] theorem raiseBooster_described (d : District) (c : BoosterCause) :
    (raiseBooster d c y).described = y.described := by
  simp [raiseBooster]

@[simp] theorem enterShort_described (d : District) : (enterShort d y).described = y.described := by
  unfold enterShort
  dsimp only
  repeat' split
  all_goals simp

@[simp] theorem putStop_described (d : District) : (putStop d y).described = y.described := by
  unfold putStop
  repeat' split
  all_goals simp

@[simp] theorem boosterFails_described (d : District) (c : BoosterCause) :
    (boosterFails d c y).described = y.described := by
  simp [boosterFails]

@[simp] theorem stopFails_described (d : District) (c : BoosterCause) :
    (stopFails d c y).described = y.described := by
  simp [stopFails]

@[simp] theorem enterBoosting_described (d : District) : (enterBoosting d y).described = y.described := by
  unfold enterBoosting
  dsimp only
  repeat' split
  all_goals simp

@[simp] theorem enterUnboosting_described (d : District) : (enterUnboosting d y).described = y.described := by
  unfold enterUnboosting
  dsimp only
  repeat' split
  all_goals simp

@[simp] theorem infeasible_described (d : District) : (infeasible d y).described = y.described := by
  unfold infeasible
  dsimp only
  repeat' split
  all_goals simp

@[simp] theorem evaluateFeed_described (d : District) : (evaluateFeed d y).described = y.described := by
  unfold evaluateFeed
  dsimp only
  repeat' split
  all_goals simp

@[simp] theorem governorOutcome_described (d : District) (v : Int) (o : CmdOutcome) :
    (governorOutcome d v o y).described = y.described := by
  unfold governorOutcome
  dsimp only
  repeat' split
  all_goals simp

@[simp] theorem governorCommand_described (d : District) (b : Bool) (v : Int) :
    (governorCommand d b v y).described = y.described := by
  unfold governorCommand
  dsimp only
  repeat' split
  all_goals simp

@[simp] theorem updateDistrict_described (d : District) : (updateDistrict y d).described = y.described := by
  unfold updateDistrict
  dsimp only
  repeat' split
  all_goals simp

@[simp] theorem districtUpdate_described : (districtUpdate y).described = y.described := by
  unfold districtUpdate
  dsimp only
  split
  · simp [foldl_keeps Yard.described fun z d => updateDistrict_described z d]
  · rfl

@[simp] theorem governorReport_described (d : District) (v : Int) (st : PointStatus) :
    (governorReport d v st y).described = y.described := by
  simp [governorReport]

@[simp] theorem adoptFrom_described (d : District) (r : BoosterRep) : (adoptFrom d r y).described = y.described := by
  unfold adoptFrom
  repeat' split
  all_goals simp

@[simp] theorem boosterMoves_described (d : District) (r : BoosterRep) :
    (boosterMoves d r y).described = y.described := by
  unfold boosterMoves
  repeat' split
  all_goals simp

@[simp] theorem boosterReport_described (d : District) (r : BoosterRep) :
    (boosterReport d r y).described = y.described := by
  unfold boosterReport
  dsimp only
  repeat' split
  all_goals simp

@[simp] theorem boosterOutcome_described (d : District) (c : CmdCode) (o : CmdOutcome) :
    (boosterOutcome d c o y).described = y.described := by
  unfold boosterOutcome
  dsimp only
  repeat' split
  all_goals simp

@[simp] theorem runUpExpiry_described (d : District) : (runUpExpiry d y).described = y.described := by
  unfold runUpExpiry
  dsimp only
  repeat' split
  all_goals simp

@[simp] theorem adoptionExpiry_described (d : District) : (adoptionExpiry d y).described = y.described := by
  unfold adoptionExpiry
  repeat' split
  all_goals simp

/-! ### The quantity table (08) -/

@[simp] theorem updOpen_described (q : Slot) (f : PEntry → PEntry) : (updOpen q f y).described = y.described := by
  simp [updOpen]

@[simp] theorem handDelta_described (m : Meter) (d r : Nat) : (handDelta m d r y).described = y.described := by
  simp [handDelta]

@[simp] theorem meterSample_described (m : Meter) (r : Nat) (b : Bool) :
    (meterSample m r b y).described = y.described := by
  unfold meterSample
  dsimp only
  repeat' split
  all_goals simp

@[simp] theorem countClamp_described (q : Slot) : (countClamp q y).described = y.described := by simp [countClamp]

@[simp] theorem writeSample_described (q : Slot) (v : Int) (s : Source) :
    (writeSample q v s y).described = y.described := by
  simp [writeSample]

@[simp] theorem acceptSample_described (q : Slot) (v : Int) (s : Source) (b : Bool) :
    (acceptSample q v s b y).described = y.described := by
  unfold acceptSample
  dsimp only
  split
  · split <;> simp
  · simp [apply_ite Yard.described]

@[simp] theorem slotEntry_described (p : Point) (v : Int) (b : Bool) (q : Slot) :
    (slotEntry p v b y q).described = y.described := by
  unfold slotEntry
  dsimp only
  repeat' split
  all_goals simp

@[simp] theorem qprEntry_described (p : Point) (st : PointStatus) (v : Int) (b : Bool) :
    (qprEntry p st v b y).described = y.described := by
  unfold qprEntry
  split
  · exact foldl_keeps Yard.described (fun z q => slotEntry_described z p v b q) _ y
  · rfl

@[simp] theorem qprPolled_described (a : Nat) : (qprPolled a y).described = y.described := by simp [qprPolled]

@[simp] theorem slotPhaseEnd_described (q : Slot) : (slotPhaseEnd y q).described = y.described := by
  unfold slotPhaseEnd
  dsimp only
  split
  · cases (y.qpr.recs.get q).candidate <;> simp [apply_ite Yard.described]
  · rfl

@[simp] theorem qprPhaseEnd_described : (qprPhaseEnd y).described = y.described := by
  simp [qprPhaseEnd, foldl_keeps Yard.described fun z q => slotPhaseEnd_described z q]

@[simp] theorem qprPhaseCut_described : (qprPhaseCut y).described = y.described := by
  unfold qprPhaseCut
  dsimp only
  rw [Yard.updQpr_described, foldl_keeps Yard.described fun z q => z.updRec_described q _]

@[simp] theorem qprClose_described (b : Bool) : (qprClose b y).described = y.described := by
  unfold qprClose
  dsimp only
  split <;> simp [apply_ite Yard.described]

@[simp] theorem qprPeriodStart_described (s : PeriodStart) : (qprPeriodStart s y).described = y.described := by
  simp [qprPeriodStart]

/-! ### The clock (04) -/

@[simp] theorem givePeriodClose_described (p : Nat) (b : Bool) : (givePeriodClose p b y).described = y.described := by
  simp [givePeriodClose]

@[simp] theorem giveDayClose_described (b : Bool) : (giveDayClose b y).1.described = y.described := by
  simp [giveDayClose]

@[simp] theorem givePeriodStart_described (s : PeriodStart) (c : Option (Int × Bool)) :
    (givePeriodStart s c y).described = y.described := by
  simp [givePeriodStart]

@[simp] theorem markTest_described : (markTest y).described = y.described := by
  unfold markTest
  dsimp only
  repeat' split
  all_goals simp

@[simp] theorem setLastClosed_described (p : Nat) : (setLastClosed p y).described = y.described := by
  simp [setLastClosed]

@[simp] theorem dayChange_described (c : ClockTime) : (dayChange c y).1.described = y.described := by simp [dayChange]

@[simp] theorem boundary_described (c : ClockTime) : (boundary c y).described = y.described := by
  unfold boundary
  dsimp only
  split <;> simp

/-- The moments of the time base belong to no description. -/
@[simp] theorem secondMark_described (t : Time) : ({ y with secondMark := t } : Yard).described = y.described := rfl

@[simp] theorem periodEnd_described : (periodEnd y).described = y.described := by
  unfold periodEnd
  dsimp only
  repeat' split
  all_goals simp

@[simp] theorem clockSecond_described : (clockSecond y).described = y.described := by
  unfold clockSecond
  dsimp only
  repeat' split
  all_goals simp

@[simp] theorem holdTick_described : (holdTick y).described = y.described := by
  unfold holdTick
  dsimp only
  repeat' split
  all_goals simp

@[simp] theorem startClock_described (d w p s : Nat) : (startClock d w p s y).1.described = y.described := by
  simp [startClock]

@[simp] theorem setFirst_described (d w p s : Nat) : (setFirst d w p s y).described = y.described := by
  simp [setFirst]

@[simp] theorem setResumed_described (r : Resume) (same : Bool) (d w p s : Nat) :
    (setResumed r same d w p s y).1.described = y.described := by
  unfold setResumed
  dsimp only
  cases same <;> simp

@[simp] theorem setTime_described (d w p s : Nat) : (setTime d w p s y).1.described = y.described := by
  unfold setTime
  dsimp only
  repeat' split
  all_goals simp

@[simp] theorem stopClock_described : (stopClock y).described = y.described := by
  unfold stopClock
  dsimp only
  repeat' split
  all_goals simp

@[simp] theorem forceDay_described (b : Bool) (t : DayType) : (forceDay b t y).1.described = y.described := by
  unfold forceDay
  dsimp only
  repeat' split
  all_goals simp

/-! ### The yard line (06) -/

@[simp] theorem handExchange_described (e : Exchange) : (handExchange e y).described = y.described := by
  rw [handExchange_frame]; rfl

@[simp] theorem settle_described : (settle y).described = y.described := by rw [settle_frame]; rfl

@[simp] theorem release_described : (release y).described = y.described := by rw [release_frame]; rfl

@[simp] theorem beginLong_described : (beginLong y).described = y.described := by rw [beginLong_frame]; rfl

@[simp] theorem askLong_described : (askLong y).described = y.described := by rw [askLong_frame]; rfl

@[simp] theorem breakOff_described (o : ExOutcome) : (breakOff o y).described = y.described := by
  rw [breakOff_frame]; rfl

/-! ### The scan sequencer (07) -/

@[simp] theorem countOutcome_described (a : Nat) (o : ExOutcome) : (countOutcome a o y).described = y.described := by
  simp [countOutcome]

@[simp] theorem pollGood_described (a : Nat) (b : Bool) : (pollGood a b y).described = y.described := by
  unfold pollGood
  dsimp only
  repeat' split
  all_goals simp

@[simp] theorem pollMissed_described (a : Nat) : (pollMissed a y).described = y.described := by
  unfold pollMissed
  dsimp only
  repeat' split
  all_goals simp

@[simp] theorem handEntry_described (a : Nat) (b : Bool) (p : PointEntry) :
    (handEntry a b y p).described = y.described := by
  unfold handEntry
  dsimp only
  repeat' split
  all_goals simp [foldl_keeps Yard.described]

@[simp] theorem handValues_described (a : Nat) (v : ValuesReply) : (handValues a v y).described = y.described := by
  unfold handValues
  dsimp only
  split <;> simp [foldl_keeps Yard.described]

/-- The failed waits fall in the dynamic records alone (R119). -/
@[simp] theorem Entry.waitFalls_fixed (e : Entry) : e.waitFalls.fixed = e.fixed := by
  unfold Entry.waitFalls
  split <;> rfl

@[simp] theorem askPoll_described : (askPoll y).described = y.described := by simp [askPoll]

@[simp] theorem startCycle_described : (startCycle y).described = y.described := by
  unfold startCycle
  dsimp only
  repeat' split
  all_goals simp

@[simp] theorem endPoll_described : (endPoll y).described = y.described := by simp [endPoll]

@[simp] theorem endShort_described (a : Nat) : (endShort a y).described = y.described := by
  simp [endShort, apply_ite Yard.described]

@[simp] theorem endRound_described : (endRound y).described = y.described := by simp [endRound]

@[simp] theorem beginRead_described (a : Nat) (b : Bool) (r : List Nat) :
    (beginRead a b r y).described = y.described := by
  simp [beginRead]

@[simp] theorem pollOn_described (as : List Nat) : (pollOn as y).described = y.described := by
  induction as with
  | nil => simp [pollOn]
  | cons a as ih =>
    unfold pollOn
    split
    · exact ih
    · repeat' split
      all_goals simp

@[simp] theorem startPolls_described : (startPolls y).described = y.described := by simp [startPolls]

@[simp] theorem readOutcome_described (a : Nat) (o : ExOutcome) : (readOutcome a o y).described = y.described := by
  unfold readOutcome
  repeat' split
  all_goals simp

@[simp] theorem endOrder_described : (endOrder y).described = y.described := by
  unfold endOrder
  repeat' split
  all_goals simp

@[simp] theorem orderOn_described : (orderOn y).described = y.described := by
  unfold orderOn
  dsimp only
  repeat' split
  all_goals simp

@[simp] theorem startOrders_described : (startOrders y).described = y.described := by simp [startOrders]

@[simp] theorem returnCommand_described (c : Command) (o : CmdOutcome) :
    (returnCommand c o y).described = y.described := by
  unfold returnCommand
  repeat' split
  all_goals simp

@[simp] theorem dropCommand_described (p : Point) : (dropCommand p y).described = y.described := by simp [dropCommand]

@[simp] theorem orderOutcome_described (p : Point) (o : ExOutcome) :
    (orderOutcome p o y).described = y.described := by
  unfold orderOutcome
  dsimp only
  repeat' split
  all_goals simp

@[simp] theorem loadOn_described : (loadOn y).described = y.described := by
  unfold loadOn
  dsimp only
  repeat' split
  all_goals simp

@[simp] theorem startLoads_described : (startLoads y).described = y.described := by simp [startLoads]

@[simp] theorem wakeSleepers_described (b : Bool) : (wakeSleepers b y).described = y.described := by
  refine Yard.updScs_described y fun u => map_fixed (fun e => ?_) _
  split <;> rfl

@[simp] theorem wakeSent_described : (wakeSent y).described = y.described := by simp [wakeSent]

@[simp] theorem probeOutcome_described (a : Nat) (o : ExOutcome) : (probeOutcome a o y).described = y.described := by
  unfold probeOutcome
  rw [loadOn_described]
  split <;> simp

@[simp] theorem endLoad_described (a : Nat) (r : LoadOutcome) : (endLoad a r y).described = y.described := by
  simp [endLoad]

@[simp] theorem loadOutcome_described (a : Nat) (o : ExOutcome) : (loadOutcome a o y).described = y.described := by
  unfold loadOutcome
  rw [loadOn_described]
  repeat' split
  all_goals simp

@[simp] theorem markSent_described (p : MarkPhase) : (markSent p y).described = y.described := by
  unfold markSent
  repeat' split
  all_goals simp

@[simp] theorem scsOutcome_described (e : Exchange) (o : ExOutcome) : (scsOutcome e o y).described = y.described := by
  unfold scsOutcome
  dsimp only
  repeat' split
  all_goals simp

@[simp] theorem intervalOver_described : (intervalOver y).described = y.described := by
  unfold intervalOver
  repeat' split
  all_goals simp

@[simp] theorem sleepOver_described : (sleepOver y).described = y.described := by
  unfold sleepOver
  dsimp only
  repeat' split
  all_goals simp

@[simp] theorem cutCycle_described : (cutCycle y).described = y.described := by simp [cutCycle]

@[simp] theorem returnAll_described (n : Nat) (cs : List Command) : (returnAll n cs y).described = y.described :=
  foldl_keeps Yard.described (fun z c => returnCommand_described z c _) cs y

@[simp] theorem failLoads_described (ls : List Load) : (failLoads ls y).described = y.described := by
  simp [failLoads, foldl_keeps Yard.described]

@[simp] theorem lineReset_described : (lineReset y).described = y.described := by
  simp [lineReset, Function.comp_def, Entry.fixed_dyn]

/-! ### The events of the line (06) -/

@[simp] theorem endExchange_described (o : ExOutcome) : (endExchange o y).described = y.described := by
  unfold endExchange
  dsimp only
  repeat' split
  all_goals simp

@[simp] theorem guardExpiry_described : (guardExpiry y).described = y.described := by
  unfold guardExpiry
  repeat' split
  all_goals simp

@[simp] theorem frameSent_described : (frameSent y).described = y.described := by
  unfold frameSent
  dsimp only
  repeat' split
  all_goals simp

@[simp] theorem longSent_described (w : LongWhy) : (longSent w y).described = y.described := by
  unfold longSent
  dsimp only
  repeat' split
  all_goals simp

@[simp] theorem breakSent_described : (breakSent y).described = y.described := by
  unfold breakSent
  dsimp only
  repeat' split
  all_goals simp

@[simp] theorem windowExpiry_described : (windowExpiry y).described = y.described := by
  unfold windowExpiry
  repeat' split
  all_goals simp

@[simp] theorem busyAt_described (t : Time) : (busyAt t y).described = y.described := by simp [busyAt]

@[simp] theorem replyStart_described (t : Time) : (replyStart t y).described = y.described := by
  unfold replyStart
  dsimp only
  repeat' split
  all_goals simp

@[simp] theorem drain_described (o : ExOutcome) : (drain o y).described = y.described := by simp [drain]

@[simp] theorem replyHeader_described (t : Time) (b1 b2 c : Byte) :
    (replyHeader t b1 b2 c y).described = y.described := by
  unfold replyHeader
  dsimp only
  repeat' split
  all_goals simp

@[simp] theorem replyComplete_described (t : Time) (bs : List Byte) :
    (replyComplete t bs y).described = y.described := by
  unfold replyComplete
  dsimp only
  repeat' split
  all_goals simp

@[simp] theorem deadlineExpiry_described : (deadlineExpiry y).described = y.described := by
  unfold deadlineExpiry
  repeat' split
  all_goals simp

@[simp] theorem stopBit_described (t : Time) : (stopBit t y).described = y.described := by
  unfold stopBit
  repeat' split
  all_goals simp

@[simp] theorem drainEnd_described : (drainEnd y).described = y.described := by
  unfold drainEnd
  repeat' split
  all_goals simp

@[simp] theorem drainTimeout_described : (drainTimeout y).described = y.described := by
  unfold drainTimeout
  repeat' split
  all_goals simp

@[simp] theorem lineHeld_described : (lineHeld y).described = y.described := by
  unfold lineHeld
  dsimp only
  repeat' split
  all_goals simp

@[simp] theorem heldRelease_described : (heldRelease y).described = y.described := by
  unfold heldRelease
  dsimp only
  repeat' split
  all_goals simp

/-- The levels of the pins belong to no description. -/
@[simp] theorem pins_described (a b : Bool) :
    ({ y with tripPin := a, lineSpace := b } : Yard).described = y.described := rfl

@[simp] theorem goesToSpace_described (t : Time) : (goesToSpace t y).described = y.described := by
  unfold goesToSpace
  dsimp only
  repeat' split
  all_goals simp

@[simp] theorem returnsToMark_described (t : Time) : (returnsToMark t y).described = y.described := by
  unfold returnsToMark
  dsimp only
  repeat' split
  all_goals simp

/-! ### Movement requests and the YARD TRIP input (03) -/

@[simp] theorem acceptOrder_described (a : OrderAsk) (h : Holder) :
    (acceptOrder a h y).1.described = y.described := by
  unfold acceptOrder
  dsimp only
  repeat' split
  all_goals simp

@[simp] theorem takeOrder_described (a : OrderAsk) : (takeOrder a y).1.described = y.described := by
  unfold takeOrder
  dsimp only
  repeat' split
  all_goals simp

@[simp] theorem cancelOrder_described (n : Nat) : (cancelOrder n y).1.described = y.described := by
  unfold cancelOrder
  repeat' split
  all_goals simp

@[simp] theorem shutHolder_described (n : Nat) : (shutHolder n y).1.described = y.described := by
  unfold shutHolder
  dsimp only
  repeat' split
  all_goals simp

@[simp] theorem couplePair_described (n : Nat) : (couplePair n y).1.described = y.described := by
  unfold couplePair
  dsimp only
  repeat' split
  all_goals simp

@[simp] theorem uncouplePair_described (n : Nat) : (uncouplePair n y).1.described = y.described := by
  unfold uncouplePair
  dsimp only
  repeat' split
  all_goals simp

@[simp] theorem tripRequest_described : (tripRequest y).1.described = y.described := by simp [tripRequest]

@[simp] theorem clearTrip_described : (clearTrip y).1.described = y.described := by
  unfold clearTrip
  dsimp only
  repeat' split
  all_goals simp

@[simp] theorem loadRequest_described (a : Nat) (p v : Int) : (loadRequest a p v y).1.described = y.described := by
  unfold loadRequest
  dsimp only
  repeat' split
  all_goals simp

@[simp] theorem tripAsserted_described (t : Time) : (tripAsserted t y).described = y.described := by
  unfold tripAsserted
  dsimp only
  repeat' split
  all_goals simp

@[simp] theorem tripReleased_described : (tripReleased y).described = y.described := by simp [tripReleased]

@[simp] theorem tripWatchOver_described : (tripWatchOver y).described = y.described := by
  unfold tripWatchOver
  repeat' split
  all_goals simp

@[simp] theorem valveTimerOver_described (v : Valve) : (valveTimerOver v y).described = y.described := by
  unfold valveTimerOver
  repeat' split
  all_goals simp

end

end Sys2Proof.Machine
end

section
/-! SUPPORT. The structural items under every command (R1, R2). -/

namespace Sys2Proof.Machine

/-- The structural items: the holders, the districts, the bindings, the line settings, and the fixed items of the roster. -/
def Yard.structural (y : Yard) : Holders (Option HolderRec) × Districts (Option DistrictRec) × Bindings × LineSet ×
    List (Nat × OutstationKind × Bool × Four (Option PointKind)) :=
  (y.yds.holders, y.yds.districts, y.yds.bind, y.yds.line, y.scs.roster.map Entry.fixed)

theorem structural_of_described {y y' : Yard} (h : y'.described = y.described) : y'.structural = y.structural := by
  have e : ∀ z : Yard, z.structural =
      (z.described.1.holders, z.described.1.districts, z.described.1.bind, z.described.1.line, z.described.2) := fun _ => rfl
  rw [e, e, h]

/-! ### The description requests and the adjustable settings -/

section
variable {y : Yard}

/-- A structural request or COMMIT refused FIXED (R1). -/
theorem describeHolder_fixed (hc : y.yds.desc = .committed) (n : Nat) (p : Bool) (a b c d : Option Int) :
    describeHolder n p a b c d y = (y, refuse .fixed) := by simp [describeHolder, isCommitted_of hc]

theorem describeLift_fixed (hc : y.yds.desc = .committed) (n k : Nat) (a s w : Int) :
    describeLift n k a s w y = (y, refuse .fixed) := by simp [describeLift, isCommitted_of hc]

theorem describeDistrict_fixed (hc : y.yds.desc = .committed) (n : Nat) (p : Bool) (a b c d : Option Int) :
    describeDistrict n p a b c d y = (y, refuse .fixed) := by simp [describeDistrict, isCommitted_of hc]

theorem describeOutstation_fixed (hc : y.yds.desc = .committed) (a : Nat) (p : Bool) (k : Option OutstationKind)
    (b : Bool) : describeOutstation a p k b y = (y, refuse .fixed) := by simp [describeOutstation, isCommitted_of hc]

theorem describePoint_fixed (hc : y.yds.desc = .committed) (a c : Nat) (p : Bool) (k : Option PointKind) :
    describePoint a c p k y = (y, refuse .fixed) := by simp [describePoint, isCommitted_of hc]

theorem describeBinding_fixed (hc : y.yds.desc = .committed) (n : Nat) (b : Bool) (p : Option Point) :
    describeBinding n b p y = (y, refuse .fixed) := by simp [describeBinding, isCommitted_of hc]

theorem setLine_fixed (hc : y.yds.desc = .committed) (r w : Int) : setLine r w y = (y, refuse .fixed) := by
  simp [setLine, isCommitted_of hc]

theorem commit_fixed (hc : y.yds.desc = .committed) : commit y = (y, refuse .fixed) := by
  simp [commit, isCommitted_of hc]

variable (y)

theorem setVapour_structural (es : List Nat) : (setVapour es y).1.structural = y.structural := by
  unfold setVapour
  split
  · exact (structural_of_described (formPresent_described _)).trans rfl
  · rfl
  · rfl

theorem recommission_structural : (recommission y).1.structural = y.structural := by
  have dgu : ∀ z : Yard, (dguRecommission z).described = z.described := fun z =>
    foldl_keeps Yard.described (fun z d => z.updDistrict_described d _) _ z
  unfold recommission
  split
  · split
    · rfl
    · exact (structural_of_described (dgu _)).trans rfl
  · rfl

theorem setHolderLimits_structural (n : Nat) (a b : Int) : (setHolderLimits n a b y).1.structural = y.structural := by
  unfold setHolderLimits
  split
  · rfl
  · dsimp only
    split
    · exact (structural_of_described (lagTest_described _)).trans rfl
    · rfl

theorem setProfile_structural (n : Nat) (b : Int) : (setProfile n b y).1.structural = y.structural := by
  unfold setProfile; split <;> rfl

theorem setPeak_structural (n k : Nat) (s l h t v : Int) : (setPeak n k s l h t v y).1.structural = y.structural := by
  unfold setPeak; split; · rfl
  split <;> rfl

theorem dropPeak_structural (n k : Nat) : (dropPeak n k y).1.structural = y.structural := by
  unfold dropPeak; split; · rfl
  split <;> rfl

theorem setTrim_structural (n : Nat) (a b c d : Int) : (setTrim n a b c d y).1.structural = y.structural := by
  unfold setTrim; split <;> rfl

theorem setFeed_structural (n : Nat) (a b c d : Int) : (setFeed n a b c d y).1.structural = y.structural := by
  unfold setFeed; split <;> rfl

theorem setPeriodMark_structural (p : Option Int) : (setPeriodMark p y).1.structural = y.structural := by
  cases p <;> rfl

theorem setSubstitute_structural (n : Nat) (a b c : Int) (d e : Option Int) :
    (setSubstitute n a b c d e y).1.structural = y.structural := by
  unfold setSubstitute
  split
  · rfl
  · split; · rfl
    split; · rfl
    exact (structural_of_described (applySubstitute_described _ _)).trans rfl

theorem readDayBook_described (n : Nat) (a b : Bool) : (readDayBook n a b y).1.described = y.described := by
  unfold readDayBook
  dsimp only
  repeat' split
  all_goals simp

theorem takeNotice_described : (takeNotice y).1.described = y.described := by
  unfold takeNotice; split <;> rfl

end

/-! ### Requests and events in general -/

section
variable {β : Type} (g : Yard → β) {s : State}

/-- What its owner keeps of the yard, the taking of a request keeps. -/
theorem takeRequest_view (kind tag : Byte) (p : List Byte) (form : Form) (b : Bool) (asks : Option ResetAsk)
    {owner : RequestWork} (h : ∀ q l fs, g (owner q l fs s.yard).1 = g s.yard) :
    g (takeRequest kind tag p form b asks owner s).yard = g s.yard := by
  unfold takeRequest
  dsimp only
  repeat' split
  any_goals exact h _ _ _
  all_goals rfl

theorem plain_view (kind tag : Byte) (p : List Byte) (form : List Byte → Form) {work : List Field → Yard → Yard × Decision}
    (h : ∀ fs, g (work fs s.yard).1 = g s.yard) : g (plain kind form work tag p s).yard = g s.yard :=
  takeRequest_view g _ _ _ _ _ _ fun _ _ fs => h fs

theorem operational_view (kind tag : Byte) (p : List Byte) (form : List Byte → Form)
    {work : List Field → Yard → Yard × Decision} (h : ∀ fs, g (work fs s.yard).1 = g s.yard) :
    g (operational kind form work tag p s).yard = g s.yard := by
  refine plain_view g _ _ _ _ fun fs => ?_
  split
  · exact h fs
  · rfl

theorem orderRequest_view (kind tag : Byte) (k : OrderKind) (p : List Byte) (h : ∀ a, g (takeOrder a s.yard).1 = g s.yard) :
    g (orderRequest kind k tag p s).yard = g s.yard := by
  refine takeRequest_view g _ _ _ _ _ _ fun q l fs => ?_
  split
  · exact h _
  · rfl

theorem query_yard (kind tag : Byte) (p : List Byte) (form : List Byte → Form) (data : List Field → Yard → Decision) :
    (query kind form data tag p s).yard = s.yard :=
  plain_view id kind tag p form fun _ => rfl

/-- A WHEN or UNTIL leaves the yard. -/
theorem takeQualifier_yard (kind tag : Byte) (p : List Byte) (form : Form) (read : List Field → Qualifier) :
    (takeQualifier kind tag p form read s).yard = s.yard := by
  unfold takeQualifier
  split
  · split <;> rfl
  · rfl

/-- What the work of an event keeps, the event keeps, without power too. -/
theorem whilePowered_view {f : Yard → Yard} (h : g (f s.yard) = g s.yard) : g (whilePowered f s).yard = g s.yard := by
  unfold whilePowered
  split
  · exact h
  · rfl

end

/-! ### Resets -/

@[simp] theorem coldYard_desc (c : Option ClockTime) (y : Yard) : (coldYard c y).yds.desc = .opened := rfl

/-- The start-up of a power restore or a warm restart keeps the structural items (R13, R132). -/
theorem restartYard_structural (c : KeepClass) (y : Yard) : (restartYard c y).structural = y.structural := by
  have kept (w : Bool) (z : Yard) : ({ z with yds := restartYds z.yds, scs := restartScs w z.scs } : Yard).structural =
      z.structural := by
    simp [Yard.structural, restartYds, restartScs, Scs.fresh, Function.comp_def, Entry.fixed]
  cases c with
  | powerRestore => exact (structural_of_described (makeDue_described _)).trans (kept false y)
  | warmRestart n => exact kept true y

/-- A reset that leaves the description COMMITTED keeps the structural items. -/
theorem beginReset_structural {a : ResetAsk} {s : State} (h : (beginReset a s).yard.yds.desc = .committed) :
    (beginReset a s).yard.structural = s.yard.structural := by
  cases a with
  | coldStart => simp [beginReset] at h
  | warmRestart n => exact restartYard_structural _ _

theorem answerGone_structural {s : State} (h : (answerGone s).yard.yds.desc = .committed) :
    (answerGone s).yard.structural = s.yard.structural := by
  unfold answerGone at h ⊢
  dsimp only at h ⊢
  split
  · next a rest e =>
    rw [e] at h
    dsimp only at h
    split
    · next r er => rw [er] at h; exact beginReset_structural h
    · rfl
  · rfl

theorem powerUp_structural {b : Bool} {s : State} (h : (powerUp b s).yard.yds.desc = .committed) :
    (powerUp b s).yard.structural = s.yard.structural := by
  unfold powerUp at h ⊢
  dsimp only at h ⊢
  split
  · exact restartYard_structural _ _
  · next c => rw [if_neg c] at h; exact absurd h (by simp)

end Sys2Proof.Machine
end

section
/-! O60: the structural items stand while the description stays COMMITTED (R1, R2). -/

namespace Sys2Proof.Machine

/-- A request whose owner keeps what describes the yard keeps the structural items. -/
theorem plain_structural {s : State} (kind tag : Byte) (p : List Byte) (form : List Byte → Form)
    {work : List Field → Yard → Yard × Decision} (h : ∀ fs, (work fs s.yard).1.structural = s.yard.structural) :
    (plain kind form work tag p s).yard.structural = s.yard.structural :=
  plain_view Yard.structural kind tag p form h

theorem operational_structural {s : State} (kind tag : Byte) (p : List Byte) (form : List Byte → Form)
    {work : List Field → Yard → Yard × Decision} (h : ∀ fs, (work fs s.yard).1.described = s.yard.described) :
    (operational kind form work tag p s).yard.structural = s.yard.structural :=
  operational_view Yard.structural kind tag p form fun fs => structural_of_described (h fs)

theorem orderRequest_structural {s : State} (kind tag : Byte) (k : OrderKind) (p : List Byte) :
    (orderRequest kind k tag p s).yard.structural = s.yard.structural :=
  orderRequest_view Yard.structural kind tag k p fun a => structural_of_described (takeOrder_described _ a)

theorem event_structural {s : State} {f : Yard → Yard} (h : ∀ y, (f y).described = y.described) :
    (whilePowered f s).yard.structural = s.yard.structural :=
  whilePowered_view Yard.structural (structural_of_described (h s.yard))

theorem frameGapEvent_described (s : State) : (frameGapEvent s).yard.described = s.yard.described := by
  unfold frameGapEvent; split <;> rfl

/-- Every command, with the description COMMITTED before it and after it, keeps the structural items (R1, R2): the
structural requests are refused, a cold start opens the description, and no other command touches them. -/
theorem exec_structural (i : Instr) {s : State} (hs : s.yard.yds.desc = .committed) :
    ∃ u, exec i s = concluded u ∧ (u.yard.yds.desc = .committed → u.yard.structural = s.yard.structural) := by
  cases i with
  | holder => exact ⟨_, rfl, fun _ => plain_structural _ _ _ _ fun _ => by rw [describeHolder_fixed hs]⟩
  | lift => exact ⟨_, rfl, fun _ => plain_structural _ _ _ _ fun _ => by rw [describeLift_fixed hs]⟩
  | vapourTable => exact ⟨_, rfl, fun _ => plain_structural _ _ _ _ fun _ => setVapour_structural _ _⟩
  | district => exact ⟨_, rfl, fun _ => plain_structural _ _ _ _ fun _ => by rw [describeDistrict_fixed hs]⟩
  | outstation => exact ⟨_, rfl, fun _ => plain_structural _ _ _ _ fun _ => by rw [describeOutstation_fixed hs]⟩
  | point => exact ⟨_, rfl, fun _ => plain_structural _ _ _ _ fun _ => by rw [describePoint_fixed hs]⟩
  | bind => exact ⟨_, rfl, fun _ => plain_structural _ _ _ _ fun _ => by rw [describeBinding_fixed hs]⟩
  | lineSettings => exact ⟨_, rfl, fun _ => plain_structural _ _ _ _ fun _ => by rw [setLine_fixed hs]⟩
  | commit => exact ⟨_, rfl, fun _ => plain_structural _ _ _ _ fun _ => by rw [commit_fixed hs]⟩
  | recommission => exact ⟨_, rfl, fun _ => plain_structural _ _ _ _ fun _ => recommission_structural _⟩
  | setHolderLimits => exact ⟨_, rfl, fun _ => plain_structural _ _ _ _ fun _ =>
      setHolderLimits_structural _ _ _ _⟩
  | setProfile => exact ⟨_, rfl, fun _ => plain_structural _ _ _ _ fun _ => setProfile_structural _ _ _⟩
  | setPeak =>
    refine ⟨_, rfl, fun _ => plain_structural _ _ _ _ fun _ => ?_⟩
    split
    · exact setPeak_structural _ _ _ _ _ _ _ _
    · exact dropPeak_structural _ _ _
  | setTrim => exact ⟨_, rfl, fun _ => plain_structural _ _ _ _ fun _ => setTrim_structural _ _ _ _ _ _⟩
  | setFeed =>
    refine ⟨_, rfl, fun _ => plain_structural _ _ _ _ fun _ => ?_⟩
    split
    · exact setFeed_structural _ _ _ _ _ _
    · rfl
  | setLag => exact ⟨_, rfl, fun _ => plain_structural _ _ _ _ fun _ => rfl⟩
  | setDayPattern => exact ⟨_, rfl, fun _ => plain_structural _ _ _ _ fun _ => rfl⟩
  | setPeriodMark => exact ⟨_, rfl, fun _ => plain_structural _ _ _ _ fun _ => setPeriodMark_structural _ _⟩
  | setCv => exact ⟨_, rfl, fun _ => plain_structural _ _ _ _ fun _ => rfl⟩
  | setBalanceLimit => exact ⟨_, rfl, fun _ => plain_structural _ _ _ _ fun _ => rfl⟩
  | setScan => exact ⟨_, rfl, fun _ => plain_structural _ _ _ _ fun _ => rfl⟩
  | setSubstitute => exact ⟨_, rfl, fun _ => plain_structural _ _ _ _ fun _ =>
      setSubstitute_structural _ _ _ _ _ _ _⟩
  | setValveLimit => exact ⟨_, rfl, fun _ => plain_structural _ _ _ _ fun _ => rfl⟩
  | setTime =>
    refine ⟨_, rfl, fun _ => plain_structural _ _ _ _ fun _ => ?_⟩
    dsimp only
    split
    · rfl
    · exact structural_of_described (setTime_described _ _ _ _ _)
  | stopClock => exact ⟨_, rfl, fun _ => plain_structural _ _ _ _ fun _ =>
      structural_of_described (stopClock_described _)⟩
  | forceDay => exact ⟨_, rfl, fun _ => operational_structural _ _ _ _ fun _ => forceDay_described _ _ _⟩
  | whenReq => exact ⟨_, rfl, fun _ => by rw [takeQualifier_yard]⟩
  | untilReq => exact ⟨_, rfl, fun _ => by rw [takeQualifier_yard]⟩
  | fill => exact ⟨_, rfl, fun _ => orderRequest_structural _ _ _ _⟩
  | draw => exact ⟨_, rfl, fun _ => orderRequest_structural _ _ _ _⟩
  | floatReq => exact ⟨_, rfl, fun _ => orderRequest_structural _ _ _ _⟩
  | cancel => exact ⟨_, rfl, fun _ => operational_structural _ _ _ _ fun _ => cancelOrder_described _ _⟩
  | couple => exact ⟨_, rfl, fun _ => operational_structural _ _ _ _ fun _ => couplePair_described _ _⟩
  | uncouple => exact ⟨_, rfl, fun _ => operational_structural _ _ _ _ fun _ => uncouplePair_described _ _⟩
  | shutHolder => exact ⟨_, rfl, fun _ => operational_structural _ _ _ _ fun _ => shutHolder_described _ _⟩
  | trip => exact ⟨_, rfl, fun _ => operational_structural _ _ _ _ fun _ => tripRequest_described _⟩
  | clearTrip => exact ⟨_, rfl, fun _ => operational_structural _ _ _ _ fun _ => clearTrip_described _⟩
  | lineReset => exact ⟨_, rfl, fun _ => operational_structural _ _ _ _ fun _ => lineReset_described _⟩
  | loadOutstation => exact ⟨_, rfl, fun _ => operational_structural _ _ _ _ fun _ =>
      loadRequest_described _ _ _ _⟩
  | readStatus => exact ⟨_, rfl, fun _ => takeRequest_view Yard.structural _ _ _ _ _ _ fun _ _ _ => rfl⟩
  | readHolder => exact ⟨_, rfl, fun _ => by rw [query_yard]⟩
  | readOrders => exact ⟨_, rfl, fun _ => by rw [query_yard]⟩
  | readDistrict => exact ⟨_, rfl, fun _ => by rw [query_yard]⟩
  | readOutstation => exact ⟨_, rfl, fun _ => by rw [query_yard]⟩
  | readQuantity => exact ⟨_, rfl, fun _ => by rw [query_yard]⟩
  | readPeriod => exact ⟨_, rfl, fun _ => by rw [query_yard]⟩
  | readDay => exact ⟨_, rfl, fun _ => by rw [query_yard]⟩
  | readDayBook => exact ⟨_, rfl, fun _ => plain_structural _ _ _ _ fun _ =>
      structural_of_described (readDayBook_described _ _ _ _)⟩
  | takeNotice => exact ⟨_, rfl, fun _ => plain_structural _ _ _ _ fun _ =>
      structural_of_described (takeNotice_described _)⟩
  | restart => exact ⟨_, rfl, fun _ => takeRequest_view Yard.structural _ _ _ _ _ _ fun _ _ _ => rfl⟩
  | coldStart => exact ⟨_, rfl, fun _ => takeRequest_view Yard.structural _ _ _ _ _ _ fun _ _ _ => rfl⟩
  | unknownKind =>
    refine ⟨_, rfl, fun _ => ?_⟩
    split
    · rfl
    · exact takeRequest_view Yard.structural _ _ _ _ _ _ fun _ _ _ => rfl
  | requestFrame => exact ⟨_, rfl, fun _ => by split <;> rfl⟩
  | frameGap => exact ⟨_, rfl, fun _ => by
      split
      exacts [structural_of_described (frameGapEvent_described _), rfl]⟩
  | answerSent =>
    refine ⟨_, rfl, fun hu => ?_⟩
    split at hu
    · next c => rw [if_pos c]; exact answerGone_structural hu
    · next c => rw [if_neg c]
  | powerUp => exact ⟨_, rfl, powerUp_structural⟩
  | powerFail => exact ⟨_, rfl, fun _ => by split <;> rfl⟩
  | yardTripAsserted => exact ⟨_, rfl, fun _ => by
      split
      exacts [structural_of_described (tripAsserted_described _ _), rfl]⟩
  | yardTripReleased => exact ⟨_, rfl, fun _ => by
      split
      exacts [structural_of_described (tripReleased_described _), rfl]⟩
  | yardTripWatchExpiry => exact ⟨_, rfl, fun _ => event_structural fun y => tripWatchOver_described y⟩
  | clockSecond => exact ⟨_, rfl, fun _ => event_structural fun y => clockSecond_described y⟩
  | periodEnd => exact ⟨_, rfl, fun _ => event_structural fun y => periodEnd_described y⟩
  | stockComputationResult => exact ⟨_, rfl, fun _ => event_structural fun y => stockBack_described y _⟩
  | closingStockResult => exact ⟨_, rfl, fun _ => event_structural fun y => closingBack_described y _⟩
  | meterVolumeResult => exact ⟨_, rfl, fun _ => event_structural fun y => meterResult_described y _ _⟩
  | remainderResult => exact ⟨_, rfl, fun _ => event_structural fun y => remainderBack_described y _⟩
  | valveTimerExpiry => exact ⟨_, rfl, fun _ => event_structural fun y => valveTimerOver_described y _⟩
  | boosterRunUpExpiry => exact ⟨_, rfl, fun _ => event_structural fun y => runUpExpiry_described y _⟩
  | adoptionWaitExpiry => exact ⟨_, rfl, fun _ => event_structural fun y => adoptionExpiry_described y _⟩
  | scanCycleStart => exact ⟨_, rfl, fun _ => event_structural fun y => intervalOver_described y⟩
  | sleeperPollWaitExpiry => exact ⟨_, rfl, fun _ => event_structural fun y => sleepOver_described y⟩
  | unsetHoldTick => exact ⟨_, rfl, fun _ => event_structural fun y => holdTick_described y⟩
  | guardExpiry => exact ⟨_, rfl, fun _ => event_structural fun y => guardExpiry_described y⟩
  | frameSent => exact ⟨_, rfl, fun _ => event_structural fun y => frameSent_described y⟩
  | breakSent => exact ⟨_, rfl, fun _ => event_structural fun y => breakSent_described y⟩
  | replyWindowExpiry => exact ⟨_, rfl, fun _ => event_structural fun y => windowExpiry_described y⟩
  | replyStart => exact ⟨_, rfl, fun _ => event_structural fun y => replyStart_described y _⟩
  | replyHeaderReceived => exact ⟨_, rfl, fun _ => event_structural fun y => replyHeader_described y _ _ _ _⟩
  | replyComplete => exact ⟨_, rfl, fun _ => event_structural fun y => replyComplete_described y _ _⟩
  | replyDeadlineExpiry => exact ⟨_, rfl, fun _ => event_structural fun y => deadlineExpiry_described y⟩
  | stopBitAtSpace => exact ⟨_, rfl, fun _ => event_structural fun y => stopBit_described y _⟩
  | drainEnd => exact ⟨_, rfl, fun _ => event_structural fun y => drainEnd_described y⟩
  | drainTimeout => exact ⟨_, rfl, fun _ => event_structural fun y => drainTimeout_described y⟩
  | lineHeld => exact ⟨_, rfl, fun _ => event_structural fun y => lineHeld_described y⟩
  | lineHeldRelease => exact ⟨_, rfl, fun _ => event_structural fun y => heldRelease_described y⟩
  | hostLinkCharacter => exact ⟨_, rfl, fun _ => by split <;> rfl⟩
  | lineGoesToSpace => exact ⟨_, rfl, fun _ => by
      split
      exacts [structural_of_described (goesToSpace_described _ _), rfl]⟩
  | lineReturnsToMark => exact ⟨_, rfl, fun _ => by
      split
      exacts [structural_of_described (returnsToMark_described _ _), rfl]⟩

theorem step_structural {s t : State} (h : step s = .next t) (hs : s.yard.yds.desc = .committed)
    (ht : t.yard.yds.desc = .committed) : t.yard.structural = s.yard.structural := by
  unfold step at h
  split at h
  · next c rest _ =>
    obtain ⟨u, hu, keep⟩ := exec_structural c (s := { s with pending := rest }) hs
    obtain rfl := concluded_eq_next.1 (hu.symm.trans h)
    rw [State.resealed_yard] at ht ⊢
    exact keep ht
  · cases h; rfl

/-- Settles O60, by the structural items that every command keeps. -/
theorem structureStandsWhileCommitted : Obligations.StructureStandsWhileCommitted := by
  intro s t h hs ht
  have e := step_structural h hs ht
  simp only [Yard.structural, Prod.mk.injEq] at e
  exact e

end Sys2Proof.Machine
end

section
/-! O2 and O53: the machine after a cold start (R13, R31, R64, R78, R96, R116, R132, R144, R160, R172). -/

namespace Sys2Proof.Machine

@[simp] theorem Meters.get_all {α : Type} (a : α) (m : Meter) : (Meters.all a).get m = a := by
  cases m <;> simp [Meters.all, Meters.get]

@[simp] theorem Bindings.cold_valve (v : Valve) : Bindings.cold.valve v = none := by
  unfold Bindings.valve
  split <;> exact Holders.get_all _ _

/-- The items of a cold start in which the pins show: the YARD TRIP watch, the detector and the break of line start. -/
theorem Yard.cold_pins (tripPin lineSpace : Bool) :
    Yard.cold tripPin lineSpace = { Yard.cold false false with
      tripPin := tripPin
      lineSpace := lineSpace
      mvs := { (Yard.cold false false).mvs with watch := if tripPin then .running 0 else .idle }
      ylc := { (Yard.cold false false).ylc with
        detector := if lineSpace then some 0 else none, driving := !lineSpace } } := rfl

/-- Settles O2: each item is read off the state after a reset. -/
theorem coldStartValues : Obligations.ColdStartValues := by
  refine ⟨rfl, rfl, fun h => ⟨Holders.get_all _ h, Holders.get_all _ h⟩, Districts.get_all _, rfl, rfl, Holders.get_all _, rfl,
    fun d => ⟨Districts.get_all _ d, Districts.get_all _ d, Districts.get_all _ d⟩, rfl, rfl, rfl, rfl, rfl, rfl, rfl, rfl,
    fun q => ⟨Slots.get_make _ q, Slots.get_make _ q⟩, Bindings.cold_valve,
    fun d => ⟨Districts.get_all _ d, Districts.get_all _ d⟩, Holders.get_all _, rfl, rfl, rfl,
    fun h => ⟨Holders.get_all _ h, Holders.get_all _ h, Holders.get_all _ h, Holders.get_all _ h, Holders.get_all _ h⟩,
    rfl, rfl, rfl, rfl, rfl, rfl, Districts.get_all _, rfl, rfl, rfl, rfl, rfl, rfl, rfl, rfl, rfl, rfl, rfl, rfl, rfl, rfl,
    rfl, rfl, rfl, rfl, rfl, rfl, rfl, rfl, Slots.get_make _, rfl, rfl, rfl, rfl, rfl, rfl, rfl, rfl, rfl, rfl,
    Meters.get_all _, rfl, rfl, rfl, rfl, reset_checkWord, Yard.cold_pins⟩

/-! ### The bounds after a cold start -/

section
variable (tripPin lineSpace : Bool)

theorem Link.fresh_lawful : Link.fresh.Lawful where
  recv := rfl
  counts := by decide
  queue := by decide
  staging := by decide
  refusals := by decide
  first := rfl
  places := rfl
  full := by simp [Link.fresh]

theorem Yard.cold_notices : (Yard.cold tripPin lineSpace).notices.Lawful where
  length := by simp [Yard.cold]
  distinct := by simp [Yard.cold]
  repeats := by simp [Yard.cold]
  lost := by simp [Yard.cold]

theorem Mvs.cold_lawful (now : Time) : (Mvs.cold tripPin now).Lawful where
  length := by simp [Mvs.cold]
  numbers := by simp [Mvs.cold]
  single := by simp [Mvs.cold]
  follower := by simp [Mvs.cold]

theorem Scs.fresh_lawful (owed : Bool) : (Scs.fresh [] owed).Lawful where
  roster := by simp [Scs.fresh]
  ascending := by simp [Scs.fresh]
  commands := by simp [Scs.fresh]
  points := by simp [Scs.fresh]
  loads := by simp [Scs.fresh]

theorem Yds.cold_district (d : District) : Yds.cold.districts.get d = none := Districts.get_all _ d

theorem Yard.cold_feed : (Yard.cold tripPin lineSpace).FeedLawful where
  bounds := by simp [Yard.cold, Yds.cold_district]
  loss := by simp [Yard.cold, Yds.cold]
  slew := by simp [Yard.cold, Yds.cold, FeedSet.cold]
  limit := by simp [Yard.cold, Yds.cold, TrimSet.cold]
  trim := by simp [Yard.cold, Yds.cold_district]
  opened := by simp [Yard.cold, Yds.cold_district]
  run := by simp [Yard.cold, Yds.cold_district]
  adopting := by simp [Yard.cold, Yds.cold_district]
  waits := by simp [Yard.cold, Yds.cold_district]

theorem Yard.cold_books : (Yard.cold tripPin lineSpace).BooksLawful where
  ring := by simp [Yard.cold, Qpr.cold]
  book := by simp [Yard.cold, Soa.cold]
  ascending := by simp [Yard.cold, Soa.cold]
  cursor := by simp [Yard.cold, Soa.cold]
  balance := by simp [Yard.cold, Soa.cold]
  current := by simp [Yard.cold, Soa.cold]
  pending := by simp [Yard.cold, Soa.cold]
  entries := by simp [Yard.cold, Soa.cold]
  waiting := by simp [Yard.cold, Soa.cold]
  once := by simp [Yard.cold, Soa.cold]

/-- After a cold start no valve stands commanded. -/
theorem Mvs.cold_valve (now : Time) (v : Valve) : (Mvs.cold tripPin now).valve v = .fresh := by
  unfold Mvs.valve
  split <;> exact Holders.get_all _ _

theorem Yard.cold_valves : (Yard.cold tripPin lineSpace).ValvesLawful where
  opened := fun _ => rfl
  worked := by simp [Yard.cold, Mvs.cold_valve, ValveRec.fresh]
  tripped := by simp [Yard.cold, Mvs.cold]

theorem Slot.outer_le (q : Slot) : q.outer.1 ≤ q.outer.2 := by cases q <;> simp [Slot.outer]

theorem Yard.cold_quantities : (Yard.cold tripPin lineSpace).QuantitiesLawful where
  ranges := by simp [Yard.cold, Yds.cold, Slot.defaultSub, Slot.outer_le]
  meters := by simp [Yard.cold, Yds.cold, Slot.defaultSub]
  values := by simp [Yard.cold, Qpr.cold, QRec.fresh]

end

/-- Settles O53, law by law. -/
theorem resetIsLawful : Obligations.ResetIsLawful := fun tripPin lineSpace =>
  ⟨Link.fresh_lawful, rfl, Yard.cold_notices _ _, Mvs.cold_lawful _ _, Scs.fresh_lawful _, Yard.cold_feed _ _,
    Yard.cold_books _ _, Yard.cold_valves tripPin lineSpace, Yard.cold_quantities _ _⟩

end Sys2Proof.Machine
end

section
/-! O9, O10 and O11: qualifiers, and what the description state refuses (R1, R12, R166). -/

namespace Sys2Proof.Machine

section
variable {s : State} {kind tag : Byte} {p : List Byte} {before after : List Request}

/-! ### What the description state refuses -/

/-- An operational request while the description is OPEN (R12). -/
theorem operational_open {form : List Byte → Form} {work : List Field → Yard → Yard × Decision} {fs : List Field}
    (h : Front s ⟨kind, tag, p, false⟩ before after) (hf : form p = .ok fs) (hc : s.yard.yds.desc = .opened) :
    operational kind form work tag p s =
      s.answered ⟨kind, tag, p, false⟩ before after s.yard (.refuse .notCommitted [.u8 0]) := by
  simp [operational, plain_ok h hf, not_isCommitted_of hc, refuse]

/-- An order request while the description is OPEN (R12). -/
theorem orderRequest_open {k : OrderKind} {fs : List Field}
    (h : Front s ⟨kind, tag, p, false⟩ before after) (hf : formOf layOrder p = .ok fs) (hc : s.yard.yds.desc = .opened) :
    orderRequest kind k tag p s =
      s.ordered ⟨kind, tag, p, false⟩ before after s.yard (.refuse .notCommitted [.u8 0]) := by
  simp [orderRequest, hf, takeRequest_ok h, not_isCommitted_of hc, refuse, State.ordered]

/-- A WHEN or UNTIL while the description is OPEN, or of a bad form, leaves the slot (R12, R166). -/
theorem takeQualifier_open {read : List Field → Qualifier} {fs : List Field}
    (h : Front s ⟨kind, tag, p, false⟩ before after) (hc : s.yard.yds.desc = .opened) :
    takeQualifier kind tag p (.ok fs) read s =
      s.staged ⟨kind, tag, p, false⟩ before after s.link.staging (.refuse .notCommitted [.u8 0]) := by
  simp [takeQualifier, h.on, claim_front h, not_isCommitted_of hc, refuse, State.staged]

theorem takeQualifier_bad {read : List Field → Qualifier} {n : Nat} (h : Front s ⟨kind, tag, p, false⟩ before after) :
    takeQualifier kind tag p (.bad n) read s =
      s.staged ⟨kind, tag, p, false⟩ before after s.link.staging (.refuse .badForm [.u8 n]) := by
  simp [takeQualifier, h.on, claim_front h, State.staged]

/-- An owner that refuses FIXED over an untouched yard (R1). -/
theorem plain_fixed {form : List Byte → Form} {work : List Field → Yard → Yard × Decision} {fs : List Field}
    (h : Front s ⟨kind, tag, p, false⟩ before after) (hf : form p = .ok fs) (hw : work fs s.yard = (s.yard, refuse .fixed)) :
    plain kind form work tag p s =
      s.answered ⟨kind, tag, p, false⟩ before after s.yard (.refuse .fixed [.u8 0]) := by
  rw [plain_ok h hf, hw]; rfl

end

/-- Settles O11: each structural request is refused FIXED by its owner. -/
theorem fixedWhileCommitted : Obligations.FixedWhileCommitted := by
  intro i kind tag p fs s before after hi hr hf hc h
  cases i <;> simp only [Instr.structural, Bool.false_eq_true] at hi <;>
    simp only [Instr.request, Option.some.injEq, Prod.mk.injEq] at hr <;> obtain ⟨rfl, rfl, rfl⟩ := hr <;>
    refine congrArg concluded (plain_fixed h hf ?_)
  · exact describeHolder_fixed hc _ _ _ _ _ _
  · exact describeLift_fixed hc _ _ _ _ _
  · exact describeDistrict_fixed hc _ _ _ _ _ _
  · exact describeOutstation_fixed hc _ _ _ _
  · exact describePoint_fixed hc _ _ _ _
  · exact describeBinding_fixed hc _ _ _
  · exact setLine_fixed hc _ _
  · exact commit_fixed hc

/-! ### Staging (R166) -/

theorem stage_of_short {q : Qualifier} {qs : List Qualifier} (h : qs.length < 2) : stage q qs = (qs ++ [q], .staged) := by
  match qs, h with
  | [], _ => rfl
  | [a], _ => rfl

theorem stage_of_full (q a b : Qualifier) (rest : List Qualifier) : stage q (a :: b :: rest) = ([a, q], .replaced) := rfl

/-- A request that qualifies is a WHEN or an UNTIL, taken with its own form and its own reading of the fields. -/
theorem exec_qualifier {i : Instr} {kind tag : Byte} {p : List Byte} (hq : i.qualifies = true)
    (hr : i.request = some (kind, tag, p)) :
    ∃ read, (∀ s, exec i s = concluded (takeQualifier kind tag p i.form read s)) ∧
      ∀ fs q, i.carries fs q → read fs = q := by
  cases i <;> simp only [Instr.qualifies, Bool.false_eq_true] at hq <;>
    simp only [Instr.request, Option.some.injEq, Prod.mk.injEq] at hr <;> obtain ⟨rfl, rfl, rfl⟩ := hr
  case whenReq =>
    refine ⟨_, fun _ => rfl, ?_⟩
    rintro fs q ⟨n, above, x, rfl, rfl⟩
    cases above <;> simp [natAt, intAt, fieldAt]
  case untilReq =>
    refine ⟨_, fun _ => rfl, ?_⟩
    rintro fs q (⟨x, rfl, rfl⟩ | ⟨v, rfl, rfl⟩ | ⟨n, rfl, rfl⟩) <;> simp [untilOf, natAt, intAt, fieldAt]

/-- Settles O9: the form, the description state and the slot decide what becomes of a qualifier. -/
theorem qualifiersStaged : Obligations.QualifiersStaged := by
  intro i kind tag p s before after hq hr h
  obtain ⟨read, taken, reads⟩ := exec_qualifier hq hr
  refine ⟨fun n hf => ?_, fun fs hf hc => ?_, fun fs q hf hcar hc => ?_⟩
  · rw [taken, hf, takeQualifier_bad h]
  · rw [taken, hf, takeQualifier_open h hc]
  · rw [taken, hf, takeQualifier_ok h hc, reads fs q hcar]
    exact ⟨fun hl => by rw [stage_of_short hl], fun a b rest e => by rw [e, stage_of_full]⟩

/-! ### NOT COMMITTED (R12) -/

/-- A decision that is no refusal NOT COMMITTED. -/
def Decision.passes : Decision → Bool
  | .refuse .notCommitted _ => false
  | _ => true

theorem Decision.ne_of_passes {d : Decision} (h : d.passes = true) (data : List Fig) : d ≠ .refuse .notCommitted data := by
  rintro rfl; simp [Decision.passes] at h

section
variable (y : Yard)

theorem describeHolder_passes (n : Nat) (b : Bool) (c d e f : Option Int) :
    (describeHolder n b c d e f y).2.passes = true := by
  unfold describeHolder
  dsimp only
  repeat' split
  all_goals rfl

theorem describeLift_passes (n k : Nat) (a s w : Int) : (describeLift n k a s w y).2.passes = true := by
  unfold describeLift
  dsimp only
  repeat' split
  all_goals rfl

theorem setVapour_passes (es : List Nat) : (setVapour es y).2.passes = true := by
  unfold setVapour
  repeat' split
  all_goals rfl

theorem describeDistrict_passes (n : Nat) (b : Bool) (c d e f : Option Int) :
    (describeDistrict n b c d e f y).2.passes = true := by
  unfold describeDistrict
  dsimp only
  repeat' split
  all_goals rfl

theorem describeOutstation_passes (a : Nat) (b : Bool) (k : Option OutstationKind) (c : Bool) :
    (describeOutstation a b k c y).2.passes = true := by
  unfold describeOutstation
  dsimp only
  repeat' split
  all_goals rfl

theorem describePoint_passes (a c : Nat) (b : Bool) (k : Option PointKind) :
    (describePoint a c b k y).2.passes = true := by
  unfold describePoint
  dsimp only
  repeat' split
  all_goals rfl

theorem describeBinding_passes (n : Nat) (b : Bool) (p : Option Point) :
    (describeBinding n b p y).2.passes = true := by
  unfold describeBinding
  repeat' split
  all_goals rfl

theorem setLine_passes (r w : Int) : (setLine r w y).2.passes = true := by
  unfold setLine
  repeat' split
  all_goals rfl

theorem commit_passes : (commit y).2.passes = true := by
  unfold commit
  repeat' split
  all_goals rfl

theorem recommission_passes : (recommission y).2.passes = true := by
  unfold recommission
  repeat' split
  all_goals rfl

theorem setHolderLimits_passes (n : Nat) (a b : Int) : (setHolderLimits n a b y).2.passes = true := by
  unfold setHolderLimits
  dsimp only
  repeat' split
  all_goals rfl

theorem setProfile_passes (n : Nat) (b : Int) : (setProfile n b y).2.passes = true := by
  unfold setProfile
  dsimp only
  repeat' split
  all_goals rfl

theorem setPeak_passes (n k : Nat) (s l h t v : Int) : (setPeak n k s l h t v y).2.passes = true := by
  unfold setPeak
  dsimp only
  repeat' split
  all_goals rfl

theorem dropPeak_passes (n k : Nat) : (dropPeak n k y).2.passes = true := by
  unfold dropPeak
  dsimp only
  repeat' split
  all_goals rfl

theorem setTrim_passes (n : Nat) (a b c d : Int) : (setTrim n a b c d y).2.passes = true := by
  unfold setTrim
  dsimp only
  repeat' split
  all_goals rfl

theorem setFeed_passes (n : Nat) (a b c d : Int) : (setFeed n a b c d y).2.passes = true := by
  unfold setFeed
  dsimp only
  repeat' split
  all_goals rfl

theorem setPeriodMark_passes (p : Option Int) : (setPeriodMark p y).2.passes = true := by
  unfold setPeriodMark
  dsimp only
  repeat' split
  all_goals rfl

theorem setSubstitute_passes (n : Nat) (a b c : Int) (d e : Option Int) :
    (setSubstitute n a b c d e y).2.passes = true := by
  unfold setSubstitute
  dsimp only
  repeat' split
  all_goals rfl

theorem setTime_passes (d w p s : Nat) : (setTime d w p s y).2.passes = true := by
  unfold setTime
  dsimp only
  repeat' split
  all_goals rfl

theorem forceDay_passes (b : Bool) (t : DayType) : (forceDay b t y).2.passes = true := by
  unfold forceDay
  dsimp only
  repeat' split
  all_goals rfl

theorem takeOrder_passes (a : OrderAsk) : (takeOrder a y).2.passes = true := by
  unfold takeOrder
  dsimp only
  repeat' split
  all_goals rfl

theorem cancelOrder_passes (n : Nat) : (cancelOrder n y).2.passes = true := by
  unfold cancelOrder
  repeat' split
  all_goals rfl

theorem couplePair_passes (n : Nat) : (couplePair n y).2.passes = true := by
  unfold couplePair
  dsimp only
  repeat' split
  all_goals rfl

theorem uncouplePair_passes (n : Nat) : (uncouplePair n y).2.passes = true := by
  unfold uncouplePair
  dsimp only
  repeat' split
  all_goals rfl

theorem shutHolder_passes (n : Nat) : (shutHolder n y).2.passes = true := by
  unfold shutHolder
  dsimp only
  repeat' split
  all_goals rfl

theorem clearTrip_passes : (clearTrip y).2.passes = true := by
  unfold clearTrip
  dsimp only
  repeat' split
  all_goals rfl

theorem loadRequest_passes (a : Nat) (p v : Int) : (loadRequest a p v y).2.passes = true := by
  unfold loadRequest
  dsimp only
  repeat' split
  all_goals rfl

theorem readDayBook_passes (n : Nat) (a b : Bool) : (readDayBook n a b y).2.passes = true := by
  unfold readDayBook
  dsimp only
  repeat' split
  all_goals rfl

theorem takeNotice_passes : (takeNotice y).2.passes = true := by
  unfold takeNotice
  repeat' split
  all_goals rfl

theorem readHolder_passes (n : Nat) : (readHolder n y).passes = true := by
  unfold readHolder
  repeat' split
  all_goals rfl

theorem readDistrict_passes (n : Nat) : (readDistrict n y).passes = true := by
  unfold readDistrict
  repeat' split
  all_goals rfl

theorem readOutstation_passes (n : Nat) : (readOutstation n y).passes = true := by
  unfold readOutstation
  repeat' split
  all_goals rfl

theorem readQuantity_passes (n : Nat) : (readQuantity n y).passes = true := by
  unfold readQuantity
  repeat' split
  all_goals rfl

theorem readPeriod_passes (a k : Nat) : (readPeriod a k y).passes = true := by
  unfold readPeriod
  repeat' split
  all_goals rfl

theorem readDay_passes (k : Nat) (b : Bool) : (readDay k b y).passes = true := by
  unfold readDay
  dsimp only
  repeat' split
  all_goals rfl

end

/-- One answer has been formed, and it is no refusal NOT COMMITTED. -/
def State.PassedOn (s u : State) : Prop := ∃ a, u.link.answers = s.link.answers ++ [a] ∧ a.decision.passes = true

section
variable {s : State} {kind tag : Byte} {p : List Byte} {before after : List Request}

theorem takeRequest_passes {form : Form} {b : Bool} {asks : Option ResetAsk} {owner : RequestWork}
    (h : Front s ⟨kind, tag, p, false⟩ before after)
    (ho : ∀ fs, (owner s.link.staging { s.link with queue := before ++ ⟨kind, tag, p, true⟩ :: after } fs
      s.yard).2.passes = true) : s.PassedOn (takeRequest kind tag p form b asks owner s) := by
  cases form with
  | ok fs => rw [takeRequest_ok h]; exact ⟨_, rfl, ho fs⟩
  | bad n => rw [takeRequest_bad h]; exact ⟨_, rfl, rfl⟩

theorem plain_passes {form : List Byte → Form} {work : List Field → Yard → Yard × Decision}
    (h : Front s ⟨kind, tag, p, false⟩ before after) (hw : ∀ fs, (work fs s.yard).2.passes = true) :
    s.PassedOn (plain kind form work tag p s) :=
  takeRequest_passes h hw

theorem operational_passes {form : List Byte → Form} {work : List Field → Yard → Yard × Decision}
    (h : Front s ⟨kind, tag, p, false⟩ before after) (hc : s.yard.yds.desc = .committed)
    (hw : ∀ fs, (work fs s.yard).2.passes = true) : s.PassedOn (operational kind form work tag p s) :=
  plain_passes h fun fs => by rw [if_pos (isCommitted_of hc)]; exact hw fs

theorem orderRequest_passes (h : Front s ⟨kind, tag, p, false⟩ before after) (hc : s.yard.yds.desc = .committed)
    (k : OrderKind) : s.PassedOn (orderRequest kind k tag p s) :=
  takeRequest_passes h fun fs => by rw [if_pos (isCommitted_of hc)]; exact takeOrder_passes _ _

theorem takeQualifier_passes {form : Form} (h : Front s ⟨kind, tag, p, false⟩ before after)
    (hc : s.yard.yds.desc = .committed) (read : List Field → Qualifier) :
    s.PassedOn (takeQualifier kind tag p form read s) := by
  cases form with
  | ok fs => rw [takeQualifier_ok h hc]; exact ⟨_, rfl, rfl⟩
  | bad n => rw [takeQualifier_bad h]; exact ⟨_, rfl, rfl⟩

end

/-- A request that is not operational, or comes while the description is COMMITTED, is passed to its owner (R12). -/
theorem exec_passes {i : Instr} {kind tag : Byte} {p : List Byte} {s : State} {before after : List Request}
    (hr : i.request = some (kind, tag, p)) (hk : i.eventFits = true)
    (hc : i.operational = false ∨ s.yard.yds.desc = .committed) (h : Front s ⟨kind, tag, p, false⟩ before after) :
    ∃ u, exec i s = concluded u ∧ s.PassedOn u := by
  have ho : i.operational = true → s.yard.yds.desc = .committed := fun e => hc.resolve_left (by simp [e])
  cases i <;> simp only [Instr.request, Option.some.injEq, Prod.mk.injEq, reduceCtorEq] at hr <;>
    obtain ⟨rfl, rfl, rfl⟩ := hr
  case holder => exact ⟨_, rfl, plain_passes h fun _ => describeHolder_passes _ _ _ _ _ _ _⟩
  case lift => exact ⟨_, rfl, plain_passes h fun _ => describeLift_passes _ _ _ _ _ _⟩
  case vapourTable => exact ⟨_, rfl, plain_passes h fun _ => setVapour_passes _ _⟩
  case district => exact ⟨_, rfl, plain_passes h fun _ => describeDistrict_passes _ _ _ _ _ _ _⟩
  case outstation => exact ⟨_, rfl, plain_passes h fun _ => describeOutstation_passes _ _ _ _ _⟩
  case point => exact ⟨_, rfl, plain_passes h fun _ => describePoint_passes _ _ _ _ _⟩
  case bind => exact ⟨_, rfl, plain_passes h fun _ => describeBinding_passes _ _ _ _⟩
  case lineSettings => exact ⟨_, rfl, plain_passes h fun _ => setLine_passes _ _ _⟩
  case commit => exact ⟨_, rfl, plain_passes h fun _ => commit_passes _⟩
  case recommission => exact ⟨_, rfl, plain_passes h fun _ => recommission_passes _⟩
  case setHolderLimits => exact ⟨_, rfl, plain_passes h fun _ => setHolderLimits_passes _ _ _ _⟩
  case setProfile => exact ⟨_, rfl, plain_passes h fun _ => setProfile_passes _ _ _⟩
  case setPeak =>
    refine ⟨_, rfl, plain_passes h fun _ => ?_⟩
    split
    · exact setPeak_passes _ _ _ _ _ _ _ _
    · exact dropPeak_passes _ _ _
  case setTrim => exact ⟨_, rfl, plain_passes h fun _ => setTrim_passes _ _ _ _ _ _⟩
  case setFeed =>
    refine ⟨_, rfl, plain_passes h fun _ => ?_⟩
    split
    · exact setFeed_passes _ _ _ _ _ _
    · exact rfl
  case setLag => exact ⟨_, rfl, plain_passes h fun _ => rfl⟩
  case setDayPattern => exact ⟨_, rfl, plain_passes h fun _ => rfl⟩
  case setPeriodMark => exact ⟨_, rfl, plain_passes h fun _ => setPeriodMark_passes _ _⟩
  case setCv => exact ⟨_, rfl, plain_passes h fun _ => rfl⟩
  case setBalanceLimit => exact ⟨_, rfl, plain_passes h fun _ => rfl⟩
  case setScan => exact ⟨_, rfl, plain_passes h fun _ => rfl⟩
  case setSubstitute => exact ⟨_, rfl, plain_passes h fun _ => setSubstitute_passes _ _ _ _ _ _ _⟩
  case setValveLimit => exact ⟨_, rfl, plain_passes h fun _ => rfl⟩
  case setTime =>
    refine ⟨_, rfl, plain_passes h fun _ => ?_⟩
    dsimp only
    split
    · rfl
    · exact setTime_passes _ _ _ _ _
  case stopClock => exact ⟨_, rfl, plain_passes h fun _ => rfl⟩
  case readDayBook => exact ⟨_, rfl, plain_passes h fun _ => readDayBook_passes _ _ _ _⟩
  case takeNotice => exact ⟨_, rfl, plain_passes h fun _ => takeNotice_passes _⟩
  case forceDay => exact ⟨_, rfl, operational_passes h (ho rfl) fun _ => forceDay_passes _ _ _⟩
  case cancel => exact ⟨_, rfl, operational_passes h (ho rfl) fun _ => cancelOrder_passes _ _⟩
  case couple => exact ⟨_, rfl, operational_passes h (ho rfl) fun _ => couplePair_passes _ _⟩
  case uncouple => exact ⟨_, rfl, operational_passes h (ho rfl) fun _ => uncouplePair_passes _ _⟩
  case shutHolder => exact ⟨_, rfl, operational_passes h (ho rfl) fun _ => shutHolder_passes _ _⟩
  case trip => exact ⟨_, rfl, operational_passes h (ho rfl) fun _ => rfl⟩
  case clearTrip => exact ⟨_, rfl, operational_passes h (ho rfl) fun _ => clearTrip_passes _⟩
  case lineReset => exact ⟨_, rfl, operational_passes h (ho rfl) fun _ => rfl⟩
  case loadOutstation => exact ⟨_, rfl, operational_passes h (ho rfl) fun _ => loadRequest_passes _ _ _ _⟩
  case readHolder => exact ⟨_, rfl, plain_passes h fun _ => readHolder_passes _ _⟩
  case readOrders => exact ⟨_, rfl, plain_passes h fun _ => rfl⟩
  case readDistrict => exact ⟨_, rfl, plain_passes h fun _ => readDistrict_passes _ _⟩
  case readOutstation => exact ⟨_, rfl, plain_passes h fun _ => readOutstation_passes _ _⟩
  case readQuantity => exact ⟨_, rfl, plain_passes h fun _ => readQuantity_passes _ _⟩
  case readPeriod => exact ⟨_, rfl, plain_passes h fun _ => readPeriod_passes _ _ _⟩
  case readDay => exact ⟨_, rfl, plain_passes h fun _ => readDay_passes _ _ _⟩
  case whenReq => exact ⟨_, rfl, takeQualifier_passes h (ho rfl) _⟩
  case untilReq => exact ⟨_, rfl, takeQualifier_passes h (ho rfl) _⟩
  case fill => exact ⟨_, rfl, orderRequest_passes h (ho rfl) _⟩
  case draw => exact ⟨_, rfl, orderRequest_passes h (ho rfl) _⟩
  case floatReq => exact ⟨_, rfl, orderRequest_passes h (ho rfl) _⟩
  case readStatus => exact ⟨_, rfl, takeRequest_passes h fun _ => rfl⟩
  case restart => exact ⟨_, rfl, takeRequest_passes h fun _ => rfl⟩
  case coldStart => exact ⟨_, rfl, takeRequest_passes h fun _ => rfl⟩
  case unknownKind =>
    refine ⟨_, rfl, ?_⟩
    rw [if_neg (by simpa [Instr.eventFits] using hk)]
    exact takeRequest_passes h fun _ => rfl

/-- An operational request while the description is OPEN is refused, whatever its operands (R12). -/
theorem exec_operational_open {i : Instr} {kind tag : Byte} {p : List Byte} {fs : List Field} {s : State}
    {before after : List Request} (hi : i.operational = true) (hr : i.request = some (kind, tag, p)) (hf : i.form = .ok fs)
    (hc : s.yard.yds.desc = .opened) (h : Front s ⟨kind, tag, p, false⟩ before after) :
    exec i s =
      concluded (if i.qualifies then
          s.staged ⟨kind, tag, p, false⟩ before after s.link.staging (.refuse .notCommitted [.u8 0])
        else if i.orders then s.ordered ⟨kind, tag, p, false⟩ before after s.yard (.refuse .notCommitted [.u8 0])
        else s.answered ⟨kind, tag, p, false⟩ before after s.yard (.refuse .notCommitted [.u8 0])) := by
  cases i <;> simp only [Instr.operational, Bool.false_eq_true] at hi <;>
    simp only [Instr.request, Option.some.injEq, Prod.mk.injEq] at hr <;> obtain ⟨rfl, rfl, rfl⟩ := hr
  case whenReq => exact congrArg concluded ((congrArg (takeQualifier _ _ _ · _ s) hf).trans (takeQualifier_open h hc))
  case untilReq => exact congrArg concluded ((congrArg (takeQualifier _ _ _ · _ s) hf).trans (takeQualifier_open h hc))
  case fill => exact congrArg concluded (orderRequest_open h hf hc)
  case draw => exact congrArg concluded (orderRequest_open h hf hc)
  case floatReq => exact congrArg concluded (orderRequest_open h hf hc)
  all_goals exact congrArg concluded (operational_open h hf hc)

/-- Settles O10: OPEN refuses the operational requests, and nothing else answers NOT COMMITTED. -/
theorem notCommittedRefused : Obligations.NotCommittedRefused := by
  refine ⟨fun i kind tag p fs s before after hi hr hf hc h => exec_operational_open hi hr hf hc h,
    fun i kind tag p s before after hr hk hc h => ?_⟩
  obtain ⟨u, hu, a, ha, hp⟩ := exec_passes hr hk hc h
  exact ⟨u.resealed, a, hu, by rw [State.resealed_link, ha], Decision.ne_of_passes hp⟩

end Sys2Proof.Machine
end

section
/-! O17: the derived geometry (R5), and what the checks of COMMIT come to (R9). -/

namespace Sys2Proof.Machine

/-! ### Running sums -/

@[simp] theorem sums_length (a : Int) (ss : List Int) : (sums a ss).length = ss.length := by
  induction ss generalizing a with
  | nil => rfl
  | cons s ss ih => simp [sums, ih]

theorem sums_getD {a : Int} {ss : List Int} {k : Nat} (h : k < ss.length) :
    (sums a ss).getD k 0 = a + (ss.take (k + 1)).sum := by
  induction ss generalizing a k with
  | nil => simp at h
  | cons s ss ih =>
    cases k with
    | zero => simp [sums]
    | succ k => rw [sums, List.getD_cons_succ, ih (by simpa using h)]; simp; omega

theorem sums_getLast? {a : Int} {ss : List Int} (h : ss ≠ []) : (sums a ss).getLast? = some (a + ss.sum) := by
  have hl : ss.length ≠ 0 := by simpa using h
  have hk : ss.length - 1 < ss.length := by omega
  rw [List.getLast?_eq_getElem?, sums_length, List.getElem?_eq_getElem (by simpa using hk)]
  have e := sums_getD (a := a) hk
  rw [List.getD_eq_getElem _ _ (by simpa using hk)] at e
  rw [e, show ss.length - 1 + 1 = ss.length by omega, List.take_length]

/-! ### The geometry of a record -/

section
variable {r : HolderRec} {ls : List Lift}

/-- The lifts described of a record that has them all. -/
theorem HolderRec.described_of (h : r.lifts.toList.take r.count = ls.map some) : r.described = ls := by
  simp [HolderRec.described, h, List.filterMap_map]

theorem geometryOf_zones (h : r.lifts.toList.take r.count = ls.map some) :
    (geometryOf r).zones = sums 0 (ls.map (·.stroke)) := by
  simp [geometryOf, HolderRec.described_of h]

theorem geometryOf_full (h : r.lifts.toList.take r.count = ls.map some) (hn : ls ≠ []) :
    (geometryOf r).full = (ls.map (·.stroke)).sum := by
  have hs : ls.map (·.stroke) ≠ [] := by simpa using hn
  change (geometryOf r).zones.getLast?.getD 0 = _
  rw [geometryOf_zones h, sums_getLast? hs]
  simp

end

/-! ### The checks of COMMIT (R9), one by one -/

theorem orElse_eq_none {α : Type} {a b : Option α} : (a <|> b) = none ↔ a = none ∧ b = none := by
  cases a <;> simp

theorem holderCheck_eq_none {d : Yds} {k : Nat} {fails : Holder → HolderRec → Bool} :
    holderCheck d k fails = none ↔ ∀ h r, d.holders.get h = some r → fails h r = false := by
  simp only [holderCheck, Option.map_eq_none_iff, List.find?_eq_none]
  constructor
  · intro c h r e
    simpa [e] using c h (Holder.mem_list h)
  · intro c h _
    cases e : d.holders.get h with
    | none => simp
    | some r => simpa using c h r e

/-- Every lift of a record is described (R9, the first check). -/
theorem lifts_described {r : HolderRec} :
    (r.lifts.toList.take r.count).any (·.isNone) = false ↔ none ∉ r.lifts.toList.take r.count := by
  rw [List.any_eq_false]
  constructor
  · intro h m; exact h none m rfl
  · intro h x m e; rw [Option.isNone_iff_eq_none] at e; exact h (e ▸ m)

theorem HolderRec.mem_described {r : HolderRec} {l : Lift} :
    l ∈ r.described ↔ some l ∈ r.lifts.toList.take r.count := by
  simp only [HolderRec.described, List.mem_filterMap, id_eq]
  exact ⟨fun ⟨_, m, e⟩ => e ▸ m, fun m => ⟨_, m, rfl⟩⟩

theorem bandsFail_eq_false {r : HolderRec} :
    bandsFail r = false ↔ ∀ l, some l ∈ r.lifts.toList.take r.count → 4 * r.cup < l.stroke := by
  simp only [bandsFail, List.any_eq_false, HolderRec.mem_described, decide_eq_true_eq, Int.not_le]

theorem marginsFail_eq_false {r : HolderRec} :
    marginsFail r = false ↔ (geometryOf r).landing < (geometryOf r).topStop ∧
      ∀ b ∈ (geometryOf r).bands, (geometryOf r).landing < b.1 ∧ b.2 < (geometryOf r).topStop := by
  simp [marginsFail, List.any_eq_false]

/-- The pairs are those of the leading holders. -/
theorem pairCheck_eq_none {y : Yard} :
    pairCheck y = none ↔ ∀ h : Holder, h.leads = true → y.mvs.coupled.get h.pair = true →
      y.yds.holders.get h ≠ none ∧ y.yds.holders.get h.partner ≠ none := by
  simp only [pairCheck, Option.map_eq_none_iff, List.find?_eq_none, Yds.holderPresent]
  constructor
  · intro c h hl hc
    have m : (h.pair, h, h.partner) ∈ pairs := by cases h <;> simp_all [pairs, Holder.leads, Holder.pair, Holder.partner]
    simpa [hc, Option.isSome_iff_ne_none] using c _ m
  · intro c p m
    obtain ⟨h, hl, rfl⟩ : ∃ h : Holder, h.leads = true ∧ p = (h.pair, h, h.partner) := by
      simp only [pairs, List.mem_cons, List.not_mem_nil, or_false] at m
      obtain rfl | rfl | rfl := m
      exacts [⟨.h1, rfl, rfl⟩, ⟨.h3, rfl, rfl⟩, ⟨.h5, rfl, rfl⟩]
    simpa [Option.isSome_iff_ne_none] using c h hl

theorem boosterCheck_eq_none {d : Yds} :
    boosterCheck d = none ↔ ∀ x r, d.districts.get x = some r → r.booster = true → d.bind.booster.get x ≠ none := by
  simp only [boosterCheck, Option.map_eq_none_iff, List.find?_eq_none]
  constructor
  · intro c x r e hb hn
    exact c x (District.mem_list x) (by simp [Yds.hasBooster, e, hb, hn])
  · intro c x _ t
    cases e : d.districts.get x with
    | none => simp [Yds.hasBooster, e] at t
    | some r =>
      have t : r.booster = true ∧ d.bind.booster.get x = none := by simpa [Yds.hasBooster, e] using t
      exact c x r e t.1 t.2

/-! ### The points bound -/

/-- A point is named by a binding exactly where it stands among the points of the binding. -/
theorem mem_namedPoints {b : Bindings} {x : Binding} {p : Point} :
    (∃ k, (k, x, p) ∈ namedPoints b) ↔ x ∈ Binding.list ∧ p ∈ b.points x := by
  simp only [namedPoints, List.mem_flatMap, List.mem_map, Prod.mk.injEq]
  constructor
  · rintro ⟨k, ⟨z, n⟩, hz, q, hq, rfl, rfl, rfl⟩
    exact ⟨(List.mem_zipIdx' hz).2 ▸ List.getElem_mem _, hq⟩
  · rintro ⟨hx, hp⟩
    obtain ⟨n, hn, e⟩ := List.getElem_of_mem hx
    exact ⟨n, (x, n), List.mk_mem_zipIdx_iff_getElem?.2 (e ▸ List.getElem?_eq_getElem hn), p, hp, rfl, rfl, rfl⟩

theorem namedPoints_points (b : Bindings) : (namedPoints b).map (·.2.2) = Binding.list.flatMap b.points := by
  simp only [namedPoints, List.map_flatMap, List.map_map]
  calc Binding.list.zipIdx.flatMap (fun x => (b.points x.1).map ((·.2.2) ∘ fun p => (x.2, x.1, p)))
      = Binding.list.zipIdx.flatMap (fun x => b.points x.1) := by simp [Function.comp_def]
    _ = (Binding.list.zipIdx.map Prod.fst).flatMap b.points := by rw [List.flatMap_map]
    _ = _ := by rw [List.zipIdx_map_fst]

theorem bindingFault_eq_none {k : Nat} {x : Option (Nat × Binding × Point)} : bindingFault k x = none ↔ x = none := by
  simp [bindingFault]

/-- The roster describes a point with a kind. -/
theorem Scs.kindAt_eq_some {u : Scs} {p : Point} {k : PointKind} :
    u.kindAt p = some k ↔ p.channel ≤ 3 ∧ ∃ e, u.entryAt p.outstation = some e ∧ e.points.get p.channel = some k := by
  unfold Scs.kindAt Scs.pointsAt
  split
  · next hc =>
    cases e : u.entryAt p.outstation with
    | none => simp [hc]
    | some e => simp [hc]
  · next hc => simp [hc]

/-- The checks of the points bound: each is described, with the kind that suits its binding (R9). -/
theorem kindChecks_eq_none {y : Yard} :
    ((namedPoints y.yds.bind).find? (fun x => (y.scs.kindAt x.2.2).isNone) = none ∧
      (namedPoints y.yds.bind).find? (fun x => y.scs.kindAt x.2.2 != some x.2.1.kind) = none) ↔
    ∀ b ∈ Binding.list, ∀ p ∈ y.yds.bind.points b, y.scs.kindAt p = some b.kind := by
  simp only [List.find?_eq_none]
  constructor
  · rintro ⟨-, c⟩ b hb p hp
    obtain ⟨k, m⟩ := mem_namedPoints.2 ⟨hb, hp⟩
    simpa using c _ m
  · intro c
    have all : ∀ x ∈ namedPoints y.yds.bind, y.scs.kindAt x.2.2 = some x.2.1.kind := fun x m =>
      have ⟨hb, hp⟩ := mem_namedPoints.1 ⟨x.1, m⟩
      c _ hb _ hp
    exact ⟨fun x m => by simp [all x m], fun x m => by simp [all x m]⟩

theorem firstTwice_eq_none {seen : List Point} {xs : List (Nat × Binding × Point)} :
    firstTwice seen xs = none ↔ (xs.map (·.2.2)).Nodup ∧ ∀ x ∈ xs, x.2.2 ∉ seen := by
  induction xs generalizing seen with
  | nil => simp [firstTwice]
  | cons x xs ih =>
    unfold firstTwice
    split
    · next h => simp_all
    · next h =>
      have h : x.2.2 ∉ seen := by simpa using h
      rw [ih]
      simp only [List.map_cons, List.nodup_cons, List.mem_map, List.mem_cons, not_or, forall_eq_or_imp]
      constructor
      · rintro ⟨nd, c⟩
        exact ⟨⟨fun ⟨z, hz, e⟩ => (c z hz).1 e, nd⟩, h, fun z hz => (c z hz).2⟩
      · rintro ⟨⟨nx, nd⟩, -, c⟩
        exact ⟨nd, fun z hz => ⟨fun e => nx ⟨z, hz, e⟩, c z hz⟩⟩

/-- A COMMIT finds no fault exactly when every check of R9 passes. -/
theorem commitFault_eq_none {y : Yard} :
    commitFault y = none ↔
      (∀ h r, y.yds.holders.get h = some r →
        none ∉ r.lifts.toList.take r.count ∧ (y.yds.bind.slots.travel.get h).primary ≠ none ∧
        (∀ l, some l ∈ r.lifts.toList.take r.count → 4 * r.cup < l.stroke) ∧
        (geometryOf r).landing < (geometryOf r).topStop ∧
        (∀ b ∈ (geometryOf r).bands, (geometryOf r).landing < b.1 ∧ b.2 < (geometryOf r).topStop)) ∧
      pairCheck y = none ∧ boosterCheck y.yds = none ∧
      (∀ b ∈ Binding.list, ∀ p ∈ y.yds.bind.points b, y.scs.kindAt p = some b.kind) ∧
      (Binding.list.flatMap y.yds.bind.points).Nodup := by
  have primary (o : Option Point) : o.isNone = false ↔ o ≠ none := by cases o <;> simp
  simp only [commitFault, orElse_eq_none, holderCheck_eq_none, lifts_described, primary, bandsFail_eq_false,
    marginsFail_eq_false, bindingFault_eq_none, firstTwice_eq_none, namedPoints_points, List.not_mem_nil,
    not_false_eq_true, implies_true, and_true, ← kindChecks_eq_none]
  constructor
  · rintro ⟨l, t, b, m, p, o, k, k', nd⟩
    exact ⟨fun h r e => ⟨l h r e, t h r e, b h r e, m h r e⟩, p, o, ⟨k, k'⟩, nd⟩
  · rintro ⟨c, p, o, ⟨k, k'⟩, nd⟩
    exact ⟨fun h r e => (c h r e).1, fun h r e => (c h r e).2.1, fun h r e => (c h r e).2.2.1,
      fun h r e => (c h r e).2.2.2, p, o, k, k', nd⟩

/-- Settles O17, from the running sums and the checks one by one. -/
theorem geometryAndCommitChecks : Obligations.GeometryAndCommitChecks := by
  refine ⟨fun r ls h hl hn => ?_, fun y => ?_⟩
  · have full := geometryOf_full h (by rintro rfl; simp at hl; omega)
    refine ⟨rfl, by simp [geometryOf_zones h, hl], fun k hk => ?_, full, ?_, rfl, ?_⟩
    · rw [geometryOf_zones h, sums_getD (by simpa [hl] using hk), Int.zero_add, List.map_take]
    · rw [← full]; rfl
    · rw [List.dropLast_eq_take, geometryOf_zones h, sums_length, List.length_map, hl, ← geometryOf_zones h]
      rfl
  · simp only [commitFault_eq_none, pairCheck_eq_none, boosterCheck_eq_none, Scs.kindAt_eq_some]

end Sys2Proof.Machine
end

section
/-! O12: HOLDER (R3). -/

namespace Sys2Proof.Machine

/-- A request that its owner answers from its fields and the yard alone. -/
theorem gives_of_plain {kind : Byte} {c : Byte → List Byte → Instr} {form : List Byte → Form} {fs : List Field}
    {y y' : Yard} {d : Decision} {work : List Field → Yard → Yard × Decision}
    (he : ∀ tag p s, exec (c tag p) s = concluded (plain kind form work tag p s)) (hw : work fs y = (y', d)) :
    Gives kind c form fs y y' d := by
  rintro s tag p before after rfl h hf
  rw [he, plain_ok h hf, hw]

theorem firstFault_ne_none {ts : List (Nat × Bool)} : firstFault ts ≠ none ↔ ∃ t ∈ ts, t.2 = false := by
  induction ts with
  | nil => simp [firstFault]
  | cons t ts ih => cases h : t.2 <;> simp_all [firstFault]

theorem mustIn_eq_false {lo hi : Int} {v : Option Int} : mustIn lo hi v = false ↔ ∀ x ∈ v, x < lo ∨ hi < x := by
  cases v <;> simp [mustIn, inRange]; omega

theorem optIn_eq_false {lo hi : Int} {v : Option Int} : optIn lo hi v = false ↔ ∃ x ∈ v, x < lo ∨ hi < x := by
  cases v <;> simp [optIn, inRange]; omega

theorem optIn_eq_true {lo hi : Int} {v : Option Int} : optIn lo hi v = true ↔ ∀ x ∈ v, lo ≤ x ∧ x ≤ hi := by
  cases v <;> simp [optIn, inRange]

/-- Slots released: their bindings and records go, and their settings return to the defaults (R3, R79, R135). -/
theorem releaseSlots_eq (qs : List Slot) (y : Yard) :
    releaseSlots qs y =
      { y with
        yds := { y.yds with
          bind := { y.yds.bind with slots := qs.foldl (fun t q => t.set q ⟨none, none⟩) y.yds.bind.slots }
          subs := qs.foldl (fun t q => t.set q q.defaultSub) y.yds.subs }
        qpr := { y.qpr with recs := qs.foldl (fun t q => t.set q .fresh) y.qpr.recs } } := by
  induction qs generalizing y with
  | nil => rfl
  | cons q qs ih => exact (ih _).trans rfl

section
variable {y : Yard} {h : Holder}

/-- A present holder with values in their ranges keeps its lifts 1 to n (R3). -/
theorem describeHolder_again {n : Nat} {c : Int} {top land : Option Int} {r : HolderRec} (ho : y.yds.desc = .opened)
    (hv : firstFault [(3, mustIn 1 4 (some (n : Int))), (4, mustIn 50 500 (some c)), (5, optIn 100 1000 top),
      (6, optIn 50 1000 land)] = none) (hr : y.yds.holders.get h = some r) :
    describeHolder h.number true (some n) (some c) top land y =
      (y.updYds fun d => { d with
        holders := d.holders.set h (some ⟨n, c, top.getD 300, land.getD 200, keepLifts n r.lifts⟩) }, okAnswer) := by
  simp [describeHolder, not_isCommitted_of ho, hv, hr]

/-- A holder that was not present starts with no lift described (R3). -/
theorem describeHolder_new {n : Nat} {c : Int} {top land : Option Int} (ho : y.yds.desc = .opened)
    (hv : firstFault [(3, mustIn 1 4 (some (n : Int))), (4, mustIn 50 500 (some c)), (5, optIn 100 1000 top),
      (6, optIn 50 1000 land)] = none) (hr : y.yds.holders.get h = none) :
    describeHolder h.number true (some n) (some c) top land y =
      ((y.updYds fun d => { d with
        holders := d.holders.set h (some ⟨n, c, top.getD 300, land.getD 200, .all none⟩) }).updHolder h fun _ => .fresh,
        okAnswer) := by
  simp [describeHolder, not_isCommitted_of ho, hv, hr]

theorem describeHolder_absent {n c top land : Option Int} (ho : y.yds.desc = .opened) :
    describeHolder h.number false n c top land y = (removeHolder h y, okAnswer) := by
  simp [describeHolder, not_isCommitted_of ho]

/-- A value out of range refuses HOLDER (R3). -/
theorem describeHolder_invalid {n c top land : Option Int} (ho : y.yds.desc = .opened)
    (hb : (∀ v ∈ n, v < 1 ∨ 4 < v) ∨ (∀ v ∈ c, v < 50 ∨ 500 < v) ∨
        (∃ v ∈ top, v < 100 ∨ 1000 < v) ∨ (∃ v ∈ land, v < 50 ∨ 1000 < v)) :
    ∃ f, describeHolder h.number true n c top land y = (y, invalid f) := by
  have bad : firstFault [(3, mustIn 1 4 n), (4, mustIn 50 500 c), (5, optIn 100 1000 top), (6, optIn 50 1000 land)] ≠
      none := firstFault_ne_none.2 (by simpa [mustIn_eq_false, optIn_eq_false] using hb)
  obtain ⟨f, e⟩ := Option.ne_none_iff_exists'.1 bad
  exact ⟨f, by simp [describeHolder, not_isCommitted_of ho, e]⟩

end

/-- HOLDER answers what its owner makes of its six fields. -/
theorem gives_holder {y y' : Yard} {h : Holder} {k : Int} {n c top land : Option Int} {d : Decision}
    (hw : describeHolder h.number (k == 1) n c top land y = (y', d)) :
    Gives 0x10#8 .holder (formOf layHolder) [some (h.number : Int), some k, n, c, top, land] y y' d :=
  gives_of_plain (fun _ _ _ => rfl) hw

/-- Settles O12, from the three outcomes of its owner. -/
theorem holderDescribed : Obligations.HolderDescribed := by
  intro y h ho
  refine ⟨fun n c top land h1 h4 hc hc' ht hl => ?_, fun n c top land => ?_, fun n c top land hb => ?_⟩
  · have hn : mustIn 1 4 (some (n : Int)) = true := inRange_iff.2 (by omega)
    have hc : mustIn 50 500 (some c) = true := inRange_iff.2 ⟨hc, hc'⟩
    have hv : firstFault [(3, mustIn 1 4 (some (n : Int))), (4, mustIn 50 500 (some c)), (5, optIn 100 1000 top),
        (6, optIn 50 1000 land)] = none := by
      simp [firstFault, hn, hc, optIn_eq_true.2 ht, optIn_eq_true.2 hl]
    refine ⟨fun r hr => gives_holder ?_, fun hr => gives_holder ?_⟩
    · refine (describeHolder_again ho hv hr).trans ?_
      simp only [keepLifts, if_pos h1]
      rfl
    · exact describeHolder_new ho hv hr
  · exact gives_holder ((describeHolder_absent ho).trans (by rw [removeHolder, releaseSlots_eq]; rfl))
  · obtain ⟨f, e⟩ := describeHolder_invalid ho hb
    exact ⟨f, gives_holder e⟩

end Sys2Proof.Machine
end

section
/-! O13: LIFT and VAPOUR TABLE (R4, R7), and the stocks of present holders formed anew (R23, R24). -/

namespace Sys2Proof.Machine

/-! ### LIFT -/

section
variable {y : Yard} {h : Holder} {r : HolderRec} {k : Nat} {a s w : Int}

theorem describeLift_present (ho : y.yds.desc = .opened) (hr : y.yds.holders.get h = some r)
    (hv : firstFault [(2, decide (1 ≤ k) && decide (k ≤ r.count)), (3, inRange 100 400000 a), (4, inRange 500 15000 s),
      (5, inRange 0 2000 w)] = none) :
    describeLift h.number k a s w y =
      (y.updYds fun d => { d with
        holders := d.holders.set h (some { r with lifts := r.lifts.set (k - 1) (some ⟨a, s, w⟩) }) }, okAnswer) := by
  simp [describeLift, not_isCommitted_of ho, hr, hv]

theorem describeLift_invalid (ho : y.yds.desc = .opened) (hr : y.yds.holders.get h = some r)
    (hv : firstFault [(2, decide (1 ≤ k) && decide (k ≤ r.count)), (3, inRange 100 400000 a), (4, inRange 500 15000 s),
      (5, inRange 0 2000 w)] ≠ none) :
    ∃ f, describeLift h.number k a s w y = (y, invalid f) := by
  obtain ⟨f, e⟩ := Option.ne_none_iff_exists'.1 hv
  exact ⟨f, by simp [describeLift, not_isCommitted_of ho, hr, e]⟩

theorem describeLift_absent (ho : y.yds.desc = .opened) (hr : y.yds.holders.get h = none) :
    describeLift h.number k a s w y = (y, noSuch 1) := by
  simp [describeLift, not_isCommitted_of ho, hr]

theorem firstFault_eq_none {ts : List (Nat × Bool)} : firstFault ts = none ↔ ∀ t ∈ ts, t.2 = true := by
  rw [← not_iff_not, ← ne_eq, firstFault_ne_none]
  simp

/-- The tests of LIFT (R4). -/
theorem liftTests_pass :
    firstFault [(2, decide (1 ≤ k) && decide (k ≤ r.count)), (3, inRange 100 400000 a), (4, inRange 500 15000 s),
      (5, inRange 0 2000 w)] = none ↔
    1 ≤ k ∧ k ≤ r.count ∧ 100 ≤ a ∧ a ≤ 400000 ∧ 500 ≤ s ∧ s ≤ 15000 ∧ 0 ≤ w ∧ w ≤ 2000 := by
  rw [firstFault_eq_none]
  simp only [List.forall_mem_cons, List.not_mem_nil, false_imp_iff, implies_true, and_true, inRange_iff,
    Bool.and_eq_true, decide_eq_true_eq]
  omega

theorem gives_lift {y' : Yard} {d : Decision} (hw : describeLift h.number k a s w y = (y', d)) :
    Gives 0x11#8 .lift (formOf layLift) [some (h.number : Int), some (k : Int), some a, some s, some w] y y' d :=
  gives_of_plain (fun _ _ _ => rfl) hw

end

/-! ### The stocks of present holders formed anew -/

section
variable {y : Yard} {h : Holder}

theorem liveJob_travelless (ht : (y.hsu.holders.get h).travel = none) : liveJob y h = none := by
  cases g : y.yds.geometry.get h <;> simp [liveJob, jobOf, ht, g]

/-- The status of a holder put to UNKNOWN leaves every computation as it would be formed. -/
theorem unknown_inputs (k : Holder) :
    ((y.hsu.holders.set h { y.hsu.holders.get h with status := .unknown }).get k).travel = (y.hsu.holders.get k).travel ∧
    ((y.hsu.holders.set h { y.hsu.holders.get h with status := .unknown }).get k).temp = (y.hsu.holders.get k).temp := by
  by_cases e : k = h
  · subst e; simp
  · simp [Holders.get_set_ne _ _ e]

/-- The inputs of the computations of two yards agree, and so do the computations. -/
theorem liveJob_congr {z : Yard} {k : Holder} (hy : z.yds = y.yds) (hb : z.hsu.baro = y.hsu.baro)
    (hw : z.qpr.recs.yardTemp.value = y.qpr.recs.yardTemp.value)
    (ht : (z.hsu.holders.get k).travel = (y.hsu.holders.get k).travel)
    (hs : (z.hsu.holders.get k).temp = (y.hsu.holders.get k).temp) : liveJob z k = liveJob y k := by
  simp only [liveJob, jobOf, hy, hb, hw, ht, hs]

/-- The standing assessment of a holder with no accepted travel, no order that works it OPENING or RUNNING (R24, R29). -/
theorem formStock_travelless (hc : y.yds.desc = .committed) (hp : y.yds.holderPresent h = true)
    (ht : (y.hsu.holders.get h).travel = none) (hr : ∀ o, y.mvs.activeOrder h = some o → o.state = .closing) :
    formStock h y =
      { y with
        hsu := { y.hsu with holders := y.hsu.holders.set h { y.hsu.holders.get h with status := .unknown } }
        mvs := { y.mvs with prevTravel := y.mvs.prevTravel.set h none } } := by
  have e : formStock h y = assess h y := by simp [formStock, isCommitted_of hc, hp, liveJob_travelless ht]
  rw [e]
  refine (mvsReading_lost (y := y.updHolder h fun r => { r with status := .unknown }) ?_ hr).trans rfl
  simpa [Yard.updHolder, Yard.updHsu] using ht

/-- A computation handed to CU (R23). -/
theorem formStock_job {j : StockJob} (hc : y.yds.desc = .committed) (hp : y.yds.holderPresent h = true)
    (hj : liveJob y h = some j) :
    formStock h y = { y with hsu := { y.hsu with stockJobs := y.hsu.stockJobs ++ [j] } } := by
  simp [formStock, isCommitted_of hc, hp, hj, Yard.updHsu]

end

/-- The stocks of some present holders formed: each is handed to CU, or stands UNKNOWN for want of a travel (R23, R24). -/
theorem formAll_eq (hs : List Holder) (y : Yard) (hc : y.yds.desc = .committed)
    (hp : ∀ h ∈ hs, y.yds.holderPresent h = true)
    (hr : ∀ h ∈ hs, (y.hsu.holders.get h).travel = none → ∀ o, y.mvs.activeOrder h = some o → o.state = .closing)
    (hj : ∀ h ∈ hs, (y.hsu.holders.get h).travel ≠ none → (liveJob y h).isSome = true) :
    formAll hs y =
      { y with
        hsu := { y.hsu with
          stockJobs := y.hsu.stockJobs ++ hs.filterMap (liveJob y)
          holders := (hs.filter fun h => (y.hsu.holders.get h).travel.isNone).foldl
            (fun t h => t.set h { t.get h with status := .unknown }) y.hsu.holders }
        mvs := { y.mvs with
          prevTravel := (hs.filter fun h => (y.hsu.holders.get h).travel.isNone).foldl
            (fun t h => t.set h none) y.mvs.prevTravel } } := by
  induction hs generalizing y with
  | nil => simp [formAll]
  | cons h hs ih =>
    have hp' := List.forall_mem_cons.1 hp
    have hr' := List.forall_mem_cons.1 hr
    have hj' := List.forall_mem_cons.1 hj
    rw [formAll, List.foldl_cons, ← formAll]
    cases ht : (y.hsu.holders.get h).travel with
    | none =>
      rw [formStock_travelless hc hp'.1 ht (hr'.1 ht)]
      generalize ez : ({ y with
        hsu := { y.hsu with holders := y.hsu.holders.set h { y.hsu.holders.get h with status := .unknown } }
        mvs := { y.mvs with prevTravel := y.mvs.prevTravel.set h none } } : Yard) = z
      have inputs (k : Holder) : (z.hsu.holders.get k).travel = (y.hsu.holders.get k).travel ∧
          (z.hsu.holders.get k).temp = (y.hsu.holders.get k).temp := by rw [← ez]; exact unknown_inputs k
      have jobs : liveJob z = liveJob y := funext fun k =>
        liveJob_congr (by rw [← ez]) (by rw [← ez]) (by rw [← ez]) (inputs k).1 (inputs k).2
      have act (k : Holder) : z.mvs.activeOrder k = y.mvs.activeOrder k := by rw [← ez]; rfl
      rw [ih z (by rw [← ez]; exact hc) (by rw [← ez]; exact hp'.2) (by simpa only [inputs, act] using hr'.2)
        (by simpa only [inputs, jobs] using hj'.2)]
      rw [List.filter_cons_of_pos (by simp [ht]), List.filterMap_cons_none (liveJob_travelless ht)]
      simp only [inputs, jobs]
      rw [← ez]
      rfl
    | some t =>
      obtain ⟨j, e⟩ := Option.isSome_iff_exists.1 (hj'.1 (by simp [ht]))
      rw [formStock_job hc hp'.1 e]
      rw [List.filter_cons_of_neg (by simp [ht]), List.filterMap_cons_some e]
      refine (ih { y with hsu := { y.hsu with stockJobs := y.hsu.stockJobs ++ [j] } } hc hp'.2 hr'.2 hj'.2).trans ?_
      simp only [List.append_assoc, List.singleton_append]
      rfl

/-- The order that works a holder with no accepted travel is at rest. -/
theorem Yard.TravellessAtRest.closing {y : Yard} (h : y.TravellessAtRest) {k : Holder} (hp : y.yds.holderPresent k = true)
    (ht : (y.hsu.holders.get k).travel = none) (o : Order) (ha : y.mvs.activeOrder k = some o) : o.state = .closing := by
  have act := List.find?_some ha
  simp only [Bool.and_eq_true, beq_iff_eq] at act
  have mem : k ∈ y.travelless := by
    simpa [Yard.travelless, Holder.mem_list, ht, Yds.holderPresent] using hp
  obtain w | w := h k mem o (List.mem_of_find?_eq_some ha) (act.2 ▸ Mvs.mem_worked _ _)
  · exact absurd act.1 (by simp [w, OrderState.active])
  · exact w

/-! ### VAPOUR TABLE -/

theorem vapourFault_eq_none {k b : Nat} {es : List Nat} :
    vapourFault k b es = none ↔ (b :: es).IsChain (· ≤ ·) ∧ ∀ e ∈ es, e ≤ 10000 := by
  induction es generalizing k b with
  | nil => simp [vapourFault]
  | cons e es ih =>
    unfold vapourFault
    split
    · next h => simp_all [List.isChain_cons_cons]
    · next h => simp_all [List.isChain_cons_cons]; omega

theorem gives_vapour {y y' : Yard} {e : Vapour} {d : Decision}
    (hw : setVapour [e.e0, e.e1, e.e2, e.e3, e.e4, e.e5, e.e6, e.e7, e.e8] y = (y', d)) :
    Gives 0x12#8 .vapourTable (formOf layVapour) [some (e.e0 : Int), some (e.e1 : Int), some (e.e2 : Int),
      some (e.e3 : Int), some (e.e4 : Int), some (e.e5 : Int), some (e.e6 : Int), some (e.e7 : Int), some (e.e8 : Int)]
      y y' d :=
  gives_of_plain (fun _ _ _ => rfl) hw

/-- Nine entries pass the tests of R7 exactly when they rise to 10,000 Pa at the most. -/
theorem vapourFault_nine {e : Vapour} :
    vapourFault 1 0 [e.e0, e.e1, e.e2, e.e3, e.e4, e.e5, e.e6, e.e7, e.e8] = none ↔
      e.e0 ≤ e.e1 ∧ e.e1 ≤ e.e2 ∧ e.e2 ≤ e.e3 ∧ e.e3 ≤ e.e4 ∧ e.e4 ≤ e.e5 ∧ e.e5 ≤ e.e6 ∧ e.e6 ≤ e.e7 ∧
      e.e7 ≤ e.e8 ∧ e.e8 ≤ 10000 := by
  rw [vapourFault_eq_none]
  simp only [List.isChain_cons_cons, List.isChain_singleton, List.forall_mem_cons, List.not_mem_nil, false_imp_iff,
    implies_true, and_true]
  omega

/-- Settles O13, from the tests of its two owners and the stocks formed anew. -/
theorem liftsAndVapourTable : Obligations.LiftsAndVapourTable := by
  refine ⟨fun y h ho => ⟨fun r k a s w hr _ => ⟨fun hv => ?_, fun hv => ?_⟩, fun hr k a s w => ?_⟩, fun y e => ?_⟩
  · exact gives_lift (describeLift_present ho hr (liftTests_pass.2 hv))
  · obtain ⟨f, e⟩ := describeLift_invalid ho hr fun c => hv (liftTests_pass.1 c)
    exact ⟨f, gives_lift e⟩
  · exact gives_lift (describeLift_absent ho hr)
  · refine ⟨fun hv ho => ?_, fun hv hc hr hj => ?_, fun hv => ?_⟩
    · refine gives_vapour ?_
      simp only [setVapour, vapourFault_nine.2 hv]
      have idle (z : Yard) (hz : z.yds.desc = .opened) (hs : List Holder) : formAll hs z = z :=
        List.foldl_fixed' (fun h => by simp [formStock, not_isCommitted_of hz]) hs
      exact congrArg (·, okAnswer) (idle (y.updYds fun u => { u with vapour := e }) ho _)
    · refine gives_vapour ?_
      simp only [setVapour, vapourFault_nine.2 hv, hsuVapour, formPresent]
      have present : ∀ h ∈ y.yds.presentHolders, y.yds.holderPresent h = true := fun h m => (List.mem_filter.1 m).2
      have formed := formAll_eq y.yds.presentHolders (y.updYds fun u => { u with vapour := e }) hc present
        (fun h m ht => hr.closing (present h m) ht) hj
      have lost : (y.yds.presentHolders.filter fun h => (y.hsu.holders.get h).travel.isNone) = y.travelless := by
        simp only [Yds.presentHolders, Yard.travelless, List.filter_filter, Yds.holderPresent, Bool.and_comm]
      refine congrArg (·, okAnswer) (formed.trans ?_)
      simp only [Yard.updYds, lost]
      rfl
    · obtain ⟨f, he⟩ := Option.ne_none_iff_exists'.1 fun c => hv (vapourFault_nine.1 c)
      exact ⟨f, gives_vapour (by simp only [setVapour, he]; rfl)⟩

end Sys2Proof.Machine
end

section
/-! O19: SET HOLDER LIMITS, SET PROFILE and SET PEAK, and the lag test (R8, R58, R74). -/

namespace Sys2Proof.Machine

/-! ### The settings -/

theorem settled_eq {b : Bool} {p : Prop} [Decidable p] (h : b = false ↔ p) :
    settled b = .answer (if p then .none else .clamped) [] := by
  cases b <;> simp_all [settled]

section
variable {y : Yard}

theorem setHolderLimits_present {h : Holder} (hp : y.yds.holders.get h ≠ none) (tol lag : Int) :
    setHolderLimits h.number tol lag y =
      (let stored := y.updYds fun d => { d with
        limits := d.limits.set h ⟨min 1000 (max 50 tol), min 1000 (max 50 lag)⟩ }
      (if (y.yds.limits.get h).lagThreshold = min 1000 (max 50 lag) then stored else lagTest stored,
        .answer (if 50 ≤ tol ∧ tol ≤ 1000 ∧ 50 ≤ lag ∧ lag ≤ 1000 then .none else .clamped) [])) := by
  simp only [setHolderLimits, presentHolder_some hp, clampTo_eq (show (50 : Int) ≤ 1000 by decide)]
  refine Prod.ext ?_ (settled_eq ?_)
  · by_cases c : (y.yds.limits.get h).lagThreshold = min 1000 (max 50 lag) <;> simp [c]
  · simp only [anyMoved, List.any_cons, List.any_nil, Bool.or_false, Bool.or_eq_false_iff, bne_eq_false_iff_eq]
    omega

theorem setHolderLimits_absent {h : Holder} (hp : y.yds.holders.get h = none) (tol lag : Int) :
    setHolderLimits h.number tol lag y = (y, noSuch 1) := by
  simp only [setHolderLimits, presentHolder_none hp]

theorem setProfile_present {d : District} (hp : y.yds.districts.get d ≠ none) (base : Int) :
    setProfile d.number base y =
      (y.updYds fun u => { u with
        programme := u.programme.set d { u.programme.get d with base := min 5000 (max 500 base) } },
        .answer (if 500 ≤ base ∧ base ≤ 5000 then .none else .clamped) []) := by
  simp only [setProfile, presentDistrict_some hp, clampTo_eq (show (500 : Int) ≤ 5000 by decide)]
  refine Prod.ext rfl (settled_eq ?_)
  rw [bne_eq_false_iff_eq]
  omega

theorem setProfile_absent {d : District} (hp : y.yds.districts.get d = none) (base : Int) :
    setProfile d.number base y = (y, noSuch 1) := by
  simp only [setProfile, presentDistrict_none hp]

theorem setPeak_present {d : District} {k : Nat} (hp : y.yds.districts.get d ≠ none) (h1 : 1 ≤ k) (h3 : k ≤ 3)
    (s l h t v : Int) :
    setPeak d.number k s l h t v y =
      (y.updYds fun u => { u with
        programme := u.programme.set d { u.programme.get d with
          peaks := (u.programme.get d).peaks.set k (some
            ⟨(min 95 (max 0 s)).toNat, (min 8 (max 0 l)).toNat, (min 32 (max 1 h)).toNat, (min 8 (max 0 t)).toNat,
              max (min 5000 (max 500 v)) (u.programme.get d).base⟩) } },
        .answer (if 0 ≤ s ∧ s ≤ 95 ∧ 0 ≤ l ∧ l ≤ 8 ∧ 1 ≤ h ∧ h ≤ 32 ∧ 0 ≤ t ∧ t ≤ 8 ∧
          max (min 5000 (max 500 v)) (y.yds.programme.get d).base = v then .none else .clamped) []) := by
  have hk : (decide (k < 1) || decide (3 < k)) = false := by simp; omega
  simp only [setPeak, presentDistrict_some hp, hk, Bool.false_eq_true, if_false,
    clampTo_eq (show (0 : Int) ≤ 95 by decide), clampTo_eq (show (0 : Int) ≤ 8 by decide),
    clampTo_eq (show (1 : Int) ≤ 32 by decide), clampTo_eq (show (500 : Int) ≤ 5000 by decide)]
  refine Prod.ext rfl (settled_eq ?_)
  simp only [anyMoved, List.any_cons, List.any_nil, Bool.or_false, Bool.or_eq_false_iff, bne_eq_false_iff_eq]
  omega

theorem dropPeak_present {d : District} {k : Nat} (hp : y.yds.districts.get d ≠ none) (h1 : 1 ≤ k) (h3 : k ≤ 3) :
    dropPeak d.number k y =
      (y.updYds fun u => { u with
        programme := u.programme.set d { u.programme.get d with peaks := (u.programme.get d).peaks.set k none } },
        okAnswer) := by
  have hk : (decide (k < 1) || decide (3 < k)) = false := by simp; omega
  simp only [dropPeak, presentDistrict_some hp, hk, Bool.false_eq_true, if_false]
  rfl

/-- A slot that is none of the three (R74). -/
theorem peak_invalid {d : District} {k : Nat} (hp : y.yds.districts.get d ≠ none) (hk : k = 0 ∨ 3 < k)
    (s l h t v : Int) :
    setPeak d.number k s l h t v y = (y, invalid 2) ∧ dropPeak d.number k y = (y, invalid 2) := by
  have hk : (decide (k < 1) || decide (3 < k)) = true := by simpa using hk
  simp only [setPeak, dropPeak, presentDistrict_some hp, hk, if_true, and_self]

theorem peak_absent {d : District} {k : Nat} (hp : y.yds.districts.get d = none) (s l h t v : Int) :
    setPeak d.number k s l h t v y = (y, noSuch 1) ∧ dropPeak d.number k y = (y, noSuch 1) := by
  simp only [setPeak, dropPeak, presentDistrict_none hp, and_self]

end

/-! ### The drawing set (R58) -/

/-- A RUNNING DRAW or FLOAT. -/
def Order.drawing (o : Order) : Bool := o.state == .running && o.kind != .fill

theorem Order.drawing_iff {o : Order} : o.drawing = true ↔ o.state = .running ∧ o.kind ≠ .fill := by
  simp [Order.drawing]

theorem OrderKind.draws_iff {k : OrderKind} : k.draws = true ↔ k ≠ .fill := by cases k <;> decide

/-- The holders an order works, no order being the follower's, are those whose orders it stands among. -/
theorem Mvs.mem_worked_iff {m : Mvs} {a h : Holder} (hf : m.role a ≠ .follower) :
    h ∈ m.worked a ↔ a = m.orderHolder h := by
  constructor
  · intro w
    by_cases c : m.coupled.get a.pair = true
    · have lead : a.leads = true := by
        by_contra n; exact hf (by simp [Mvs.role, Mvs.isCoupled, c, n])
      simp only [Mvs.worked, Mvs.isCoupled, c, lead, Bool.and_self, if_true, List.mem_cons, List.not_mem_nil, or_false] at w
      obtain rfl | rfl := w
      · simp [Mvs.orderHolder, lead]
      · have hp : a.partner.pair = a.pair ∧ a.partner.leads = false ∧ a.partner.partner = a := by
          cases a <;> simp_all [Holder.leads, Holder.partner, Holder.pair]
        simp [Mvs.orderHolder, Mvs.isCoupled, hp, c]
    · simp only [Mvs.worked, Mvs.isCoupled, c, Bool.false_and, Bool.false_eq_true, if_false, List.mem_singleton] at w
      subst w
      simp [Mvs.orderHolder, Mvs.isCoupled, c]
  · rintro rfl
    exact m.mem_worked h

theorem Mvs.Lawful.eq_of_number {m : Mvs} (lw : m.Lawful) {a b : Order} (ha : a ∈ m.orders) (hb : b ∈ m.orders)
    (e : a.number = b.number) : a = b := by
  have : Std.Symm fun x y : Order => x.number ≠ y.number := ⟨fun _ _ => Ne.symm⟩
  by_contra n
  exact lw.numbers.forall ha hb n e

theorem Mvs.Lawful.eq_of_active {m : Mvs} (lw : m.Lawful) {a b : Order} (ha : a ∈ m.orders) (hb : b ∈ m.orders)
    (aa : a.state.active = true) (ab : b.state.active = true) (e : a.holder = b.holder) : a = b := by
  have : Std.Symm fun x y : Order => ¬(x.state.active = true ∧ y.state.active = true ∧ x.holder = y.holder) :=
    ⟨fun _ _ h c => h ⟨c.2.1, c.1, c.2.2.symm⟩⟩
  by_contra n
  exact lw.single.forall ha hb n ⟨aa, ab, e⟩

section
variable {y : Yard} {h : Holder} {o : Order}

theorem drawnBy_eq_some (lw : y.mvs.Lawful) :
    drawnBy y h = some o ↔ o ∈ y.mvs.orders ∧ o.drawing = true ∧ h ∈ y.mvs.worked o.holder := by
  constructor
  · intro e
    unfold drawnBy at e
    split at e
    · next p a =>
      split at e
      · next c =>
        cases e
        have act := List.find?_some a
        simp only [Bool.and_eq_true, beq_iff_eq, OrderKind.draws_iff] at act c
        exact ⟨List.mem_of_find?_eq_some a, Order.drawing_iff.2 c, act.2 ▸ y.mvs.mem_worked h⟩
      · cases e
    · cases e
  · rintro ⟨m, dr, w⟩
    obtain ⟨r, k⟩ := Order.drawing_iff.1 dr
    have holder := (Mvs.mem_worked_iff (lw.follower o m)).1 w
    have act : o.state.active = true := by rw [r]; rfl
    have found : y.mvs.activeOrder h = some o := by
      cases f : y.mvs.activeOrder h with
      | none => exact absurd (List.find?_eq_none.1 f o m) (by simp [act, holder])
      | some p =>
        have ap := List.find?_some f
        simp only [Bool.and_eq_true, beq_iff_eq] at ap
        rw [lw.eq_of_active (List.mem_of_find?_eq_some f) m ap.1 act (ap.2.trans holder.symm)]
    simp [drawnBy, found, r, OrderKind.draws_iff.2 k]

theorem drawnBy_isSome (lw : y.mvs.Lawful) :
    (drawnBy y h).isSome = true ↔ ∃ o ∈ y.mvs.orders, h ∈ y.mvs.worked o.holder ∧ o.drawing = true := by
  rw [Option.isSome_iff_exists]
  simp only [drawnBy_eq_some lw]
  exact ⟨fun ⟨o, m, d, w⟩ => ⟨o, m, w, d⟩, fun ⟨o, m, w, d⟩ => ⟨o, m, d, w⟩⟩

/-- No order RUNNING, nothing is drawn. -/
theorem lagTest_idle (hr : ∀ o ∈ y.mvs.orders, o.state ≠ .running) : lagTest y = y := by
  have none (h : Holder) : (drawnBy y h).isSome = false := by
    unfold drawnBy
    split
    · next o a =>
      have := hr o (List.mem_of_find?_eq_some a)
      simp [this]
    · rfl
  have empty : drawingSet y = [] := by simp [drawingSet, none]
  simp [lagTest, empty]

end

/-! ### The lag test (R58) -/

/-- A holder of the drawing set lies below the highest contribution by more than its own threshold. -/
def Yard.lags (y : Yard) (best : Int) (h : Holder) : Bool :=
  decide ((y.yds.limits.get h).lagThreshold < best - contribution y h)

/-- A RUNNING DRAW or FLOAT with the marks of the holders of a list set where they lag. -/
def Yard.marked (y : Yard) (best : Int) (hs : List Holder) (o : Order) : Order :=
  if o.drawing then
    { o with
      lagOwn := o.lagOwn || (decide (o.holder ∈ hs) && y.lags best o.holder)
      lagOther := o.lagOther ||
        (y.mvs.isCoupled o.holder && (decide (o.holder.partner ∈ hs) && y.lags best o.holder.partner)) }
  else o

/-- A holder of the drawing set that lags, its mark not standing yet. -/
def Yard.lagsNow (y : Yard) (best : Int) (h : Holder) : Bool :=
  (drawnBy y h).any fun o => !o.lagMark h && y.lags best h

section
variable {y : Yard} {best : Int} {hs : List Holder} {h : Holder} {o : Order}

theorem Yard.marked_of_drawing (d : o.drawing = true) :
    y.marked best hs o = { o with
      lagOwn := o.lagOwn || (decide (o.holder ∈ hs) && y.lags best o.holder)
      lagOther := o.lagOther ||
        (y.mvs.isCoupled o.holder && (decide (o.holder.partner ∈ hs) && y.lags best o.holder.partner)) } := if_pos d

theorem Yard.marked_of_not_drawing (n : o.drawing = false) : y.marked best hs o = o := by simp [Yard.marked, n]

@[simp] theorem Yard.marked_number : (y.marked best hs o).number = o.number := by unfold Yard.marked; split <;> rfl
@[simp] theorem Yard.marked_holder : (y.marked best hs o).holder = o.holder := by unfold Yard.marked; split <;> rfl
@[simp] theorem Yard.marked_state : (y.marked best hs o).state = o.state := by unfold Yard.marked; split <;> rfl
@[simp] theorem Yard.marked_kind : (y.marked best hs o).kind = o.kind := by unfold Yard.marked; split <;> rfl
@[simp] theorem Yard.marked_drawing : (y.marked best hs o).drawing = o.drawing := by simp [Order.drawing]

@[simp] theorem Yard.marked_nil : y.marked best [] o = o := by simp [Yard.marked]

/-- Marks set leave the order list lawful. -/
theorem Mvs.Lawful.marked (lw : y.mvs.Lawful) :
    ({ y.mvs with orders := y.mvs.orders.map (y.marked best hs) } : Mvs).Lawful where
  length := by simpa using lw.length
  numbers := by simpa [List.pairwise_map] using lw.numbers
  single := by simpa [List.pairwise_map] using lw.single
  follower := by
    intro o m
    obtain ⟨p, mp, rfl⟩ := List.mem_map.1 m
    rw [Yard.marked_holder]
    exact lw.follower p mp

/-- An order that works a holder works it as its own, or as its own holder's coupled partner. -/
theorem Mvs.worked_own_or_partner {m : Mvs} {a : Holder} (w : h ∈ m.worked a) :
    a = h ∨ a ≠ h ∧ a.partner = h ∧ m.isCoupled a = true := by
  unfold Mvs.worked at w
  split at w
  · next c =>
    simp only [List.mem_cons, List.not_mem_nil, or_false] at w
    obtain rfl | rfl := w
    · exact .inl rfl
    · refine .inr ⟨?_, rfl, by simp_all⟩
      cases a <;> decide
  · exact .inl (List.mem_singleton.1 w).symm

theorem Mvs.worked_of_partner {m : Mvs} {a : Holder} (hf : m.role a ≠ .follower) (c : m.isCoupled a = true) :
    a.partner ∈ m.worked a := by
  have l : a.leads = true := by
    by_contra n; exact hf (by simp [Mvs.role, c, n])
  simp [Mvs.worked, c, l]

theorem Mvs.worked_self (m : Mvs) (a : Holder) : a ∈ m.worked a := by unfold Mvs.worked; split <;> simp

/-- An order marked for one holder: the one that draws it has its mark set where it lags, and no other changes. -/
theorem Yard.marked_singleton (lw : y.mvs.Lawful) (hd : drawnBy y h = some o) {x : Order} (mx : x ∈ y.mvs.orders) :
    y.marked best [h] x = if x.number == o.number && y.lags best h then x.setLag h else x := by
  obtain ⟨mo, dr, w⟩ := (drawnBy_eq_some lw).1 hd
  by_cases e : x = o
  · subst e
    obtain rfl | ⟨ne, rfl, c⟩ := Mvs.worked_own_or_partner w
    · have np : x.holder.partner ≠ x.holder := by cases x.holder <;> decide
      by_cases l : y.lags best x.holder <;> simp [Yard.marked, dr, l, Order.setLag, np]
    · by_cases l : y.lags best x.holder.partner <;> simp [Yard.marked, dr, l, Order.setLag, ne, c]
  · have nn : x.number ≠ o.number := fun c => e (lw.eq_of_number mx mo c)
    simp only [beq_eq_false_iff_ne.2 nn, Bool.false_and, Bool.false_eq_true, if_false]
    cases dx : x.drawing
    · exact Yard.marked_of_not_drawing dx
    · have other : ∀ k, k ∈ y.mvs.worked x.holder → k ≠ h := fun k wk ek =>
        e (Option.some.inj (((drawnBy_eq_some lw).2 ⟨mx, dx, ek ▸ wk⟩).symm.trans hd))
      have own := other _ (y.mvs.worked_self x.holder)
      by_cases c : y.mvs.isCoupled x.holder = true
      · have part := other _ (Mvs.worked_of_partner (lw.follower x mx) c)
        simp [Yard.marked, dx, own, part]
      · simp [Yard.marked, dx, own, c]

theorem Order.setLag_of_mark (m : o.lagMark h = true) : o.setLag h = o := by
  obtain ⟨_, a, _, _, _, _, _, _, own, other, _, _⟩ := o
  by_cases e : a = h <;> simp_all [Order.setLag, Order.lagMark]

/-- One holder of the lag test: marked and reported where it lags and its mark does not stand (R58). -/
theorem lagOne_eq (lw : y.mvs.Lawful) (hd : (drawnBy y h).isSome = true) :
    lagOne best y h =
      { y with
        mvs := { y.mvs with orders := y.mvs.orders.map (y.marked best [h]) }
        notices := if y.lagsNow best h then
            y.notices.raise .laggingHolder h.number (best - contribution y h) (y.gdc.clock.map (·.day))
              (y.gdc.clock.map (·.period))
          else y.notices } := by
  obtain ⟨o, hd⟩ := Option.isSome_iff_exists.1 hd
  obtain ⟨mo, dr, w⟩ := (drawnBy_eq_some lw).1 hd
  rw [List.map_congr_left fun x mx => Yard.marked_singleton (best := best) lw hd mx]
  cases l : y.lags best h
  · have l' : ¬(y.yds.limits.get h).lagThreshold < best - contribution y h := by simpa [Yard.lags] using l
    simp [lagOne, hd, Yard.lagsNow, l, l']
  · have l' : (y.yds.limits.get h).lagThreshold < best - contribution y h := by simpa [Yard.lags] using l
    cases m : o.lagMark h
    · simp [lagOne, hd, Yard.lagsNow, l, l', m, raiseNotice, Yard.updMvs, Mvs.updOrder]
    · have same : (y.mvs.orders.map fun x => if (x.number == o.number && true) = true then x.setLag h else x) =
          y.mvs.orders := by
        refine (List.map_congr_left fun x mx => ?_).trans (List.map_id _)
        split
        · next e =>
          obtain rfl : x = o := lw.eq_of_number mx mo (by simpa using e)
          exact Order.setLag_of_mark m
        · rfl
      rw [same]
      simp [lagOne, hd, Yard.lagsNow, m]

/-- A mark set for one holder leaves the mark that the order holds for another. -/
theorem Yard.lagMark_marked {k : Holder} (w : k ∈ y.mvs.worked o.holder) (hk : k ≠ h) :
    (y.marked best [h] o).lagMark k = o.lagMark k := by
  unfold Yard.marked
  split
  · obtain e | ⟨ne, e, -⟩ := Mvs.worked_own_or_partner w
    · simp [Order.lagMark, e, hk]
    · simp [Order.lagMark, ne, e, hk]
  · rfl

/-- Marks set for one holder and then for others are the marks set for all of them. -/
theorem Yard.marked_cons {z : Yard} (hl : z.lags best = y.lags best) (hc : z.mvs.isCoupled = y.mvs.isCoupled) (x : Order) :
    z.marked best hs (y.marked best [h] x) = y.marked best (h :: hs) x := by
  cases dx : x.drawing
  · simp only [Yard.marked_of_not_drawing dx]
  · have dm : (y.marked best [h] x).drawing = true := by simpa using dx
    have join (a c d e l : Bool) : ((a || (c && (d && l))) || (c && (e && l))) = (a || (c && ((d || e) && l))) := by
      revert a c d e l; decide
    have own := join x.lagOwn true (decide (x.holder = h)) (decide (x.holder ∈ hs)) (y.lags best x.holder)
    rw [Yard.marked_of_drawing dm, Yard.marked_of_drawing dx, Yard.marked_of_drawing dx]
    simpa only [hl, hc, List.mem_cons, List.not_mem_nil, or_false, Bool.decide_or, join, Bool.true_and,
      Order.mk.injEq, true_and, and_true] using own

/-- The lag test over some holders of the drawing set, one after the other. -/
theorem lagOne_fold (hs : List Holder) (y : Yard) (lw : y.mvs.Lawful) (nd : hs.Nodup)
    (hd : ∀ h ∈ hs, (drawnBy y h).isSome = true) :
    hs.foldl (lagOne best) y =
      { y with
        mvs := { y.mvs with orders := y.mvs.orders.map (y.marked best hs) }
        notices := (hs.filter (y.lagsNow best)).foldl
          (fun q h => q.raise .laggingHolder h.number (best - contribution y h) (y.gdc.clock.map (·.day))
            (y.gdc.clock.map (·.period))) y.notices } := by
  induction hs generalizing y with
  | nil =>
    have same : y.mvs.orders.map (y.marked best []) = y.mvs.orders :=
      (List.map_congr_left fun _ _ => Yard.marked_nil).trans (List.map_id _)
    rw [same]
    rfl
  | cons h hs ih =>
    obtain ⟨hn, nd⟩ := List.nodup_cons.1 nd
    obtain ⟨hh, hd⟩ := List.forall_mem_cons.1 hd
    rw [List.foldl_cons, lagOne_eq lw hh]
    generalize ez : ({ y with
        mvs := { y.mvs with orders := y.mvs.orders.map (y.marked best [h]) }
        notices := if y.lagsNow best h then
            y.notices.raise .laggingHolder h.number (best - contribution y h) (y.gdc.clock.map (·.day))
              (y.gdc.clock.map (·.period))
          else y.notices } : Yard) = z
    have lz : z.mvs.Lawful := by rw [← ez]; exact lw.marked
    have drawn {k : Holder} {o : Order} (e : drawnBy y k = some o) :
        drawnBy z k = some (y.marked best [h] o) ∧ k ∈ y.mvs.worked o.holder := by
      obtain ⟨mo, dr, w⟩ := (drawnBy_eq_some lw).1 e
      refine ⟨(drawnBy_eq_some lz).2 ⟨?_, by simpa using dr, ?_⟩, w⟩
      · rw [← ez]; exact List.mem_map_of_mem mo
      · rw [Yard.marked_holder, ← ez]; exact w
    have lagsz (k : Holder) : z.lags best k = y.lags best k := by rw [← ez]; rfl
    have now : ∀ k ∈ hs, z.lagsNow best k = y.lagsNow best k := by
      intro k m
      obtain ⟨o, e⟩ := Option.isSome_iff_exists.1 (hd k m)
      obtain ⟨ez, w⟩ := drawn e
      simp only [Yard.lagsNow, e, ez, Option.any_some, lagsz,
        Yard.lagMark_marked w (ne_of_mem_of_not_mem m hn)]
    have twice (x : Order) : z.marked best hs (y.marked best [h] x) = y.marked best (h :: hs) x :=
      Yard.marked_cons (funext lagsz) (by rw [← ez]; rfl) x
    rw [ih z lz nd fun k m => by
      obtain ⟨o, e⟩ := Option.isSome_iff_exists.1 (hd k m)
      simp [(drawn e).1]]
    rw [List.filter_congr now, List.filter_cons]
    have marks : z.mvs.orders.map (z.marked best hs) = y.mvs.orders.map (y.marked best (h :: hs)) := by
      rw [← ez]
      simp only [List.map_map]
      exact List.map_congr_left fun x _ => ez ▸ twice x
    rw [marks, ← ez]
    split <;> rfl

end

theorem foldl_max_le_iff {l : List Int} {i z : Int} : l.foldl max i ≤ z ↔ i ≤ z ∧ ∀ x ∈ l, x ≤ z := by
  induction l generalizing i with
  | nil => simp
  | cons x l ih => simp [ih, and_assoc]

/-- The highest of a list is found from any of its own values. -/
theorem highest_eq {α : Type} {c : α → Int} {a : α} {l : List α} {h : α} (m : h ∈ a :: l) :
    ((a :: l).map c).foldl max (c h) = l.foldl (fun m h => max m (c h)) (c a) := by
  have mapped : l.foldl (fun m h => max m (c h)) (c a) = (l.map c).foldl max (c a) := List.foldl_map.symm
  rw [mapped]
  refine eq_of_forall_ge_iff fun z => ?_
  simp only [foldl_max_le_iff, List.forall_mem_map]
  constructor
  · rintro ⟨-, all⟩
    exact List.forall_mem_cons.1 all
  · intro all
    have all : ∀ j ∈ a :: l, c j ≤ z := List.forall_mem_cons.2 all
    exact ⟨all h m, all⟩

section
variable {y : Yard}

/-- The drawing set of a lawful order list. -/
theorem drawingSet_eq (lw : y.mvs.Lawful) :
    drawingSet y = Holder.list.filter fun h =>
      y.mvs.orders.any fun o => decide (h ∈ y.mvs.worked o.holder ∧ o.state = .running ∧ o.kind ≠ .fill) := by
  refine List.filter_congr fun h _ => ?_
  rw [Bool.eq_iff_iff, drawnBy_isSome lw, List.any_eq_true]
  simp only [decide_eq_true_eq, Order.drawing_iff]

theorem lagTest_single (hl : (drawingSet y).length < 2) : lagTest y = y := by
  unfold lagTest
  match h : drawingSet y, hl with
  | [], _ => rfl
  | [_], _ => rfl

/-- The lag test with two or more holders drawn, the highest contribution among them being best (R58). -/
theorem lagTest_eq (lw : y.mvs.Lawful) (h2 : 2 ≤ (drawingSet y).length) :
    ∃ best, (∀ h ∈ drawingSet y, ((drawingSet y).map (contribution y)).foldl max (contribution y h) = best) ∧
      lagTest y = { y with
        mvs := { y.mvs with orders := y.mvs.orders.map (y.marked best (drawingSet y)) }
        notices := ((drawingSet y).filter (y.lagsNow best)).foldl
          (fun q h => q.raise .laggingHolder h.number (best - contribution y h) (y.gdc.clock.map (·.day))
            (y.gdc.clock.map (·.period))) y.notices } := by
  have nd : (drawingSet y).Nodup := List.Nodup.filter _ (by decide)
  have drawn : ∀ h ∈ drawingSet y, (drawnBy y h).isSome = true := fun h m => (List.mem_filter.1 m).2
  match e : drawingSet y, h2 with
  | a :: b :: rest, _ =>
    refine ⟨_, fun h m => highest_eq m, ?_⟩
    rw [e] at nd drawn
    rw [← lagOne_fold _ y lw nd drawn]
    simp only [lagTest, e]

/-- The marks of the lag test, written with the shortfall of each holder drawn. -/
theorem Yard.marked_drawingSet (lw : y.mvs.Lawful) {best : Int} {f : Holder → Int}
    (hb : ∀ h ∈ drawingSet y, f h = best - contribution y h) {o : Order} (mo : o ∈ y.mvs.orders) :
    y.marked best (drawingSet y) o =
      if o.state = .running ∧ o.kind ≠ .fill then
        { o with
          lagOwn := o.lagOwn || decide ((y.yds.limits.get o.holder).lagThreshold < f o.holder)
          lagOther := o.lagOther || (y.mvs.isCoupled o.holder &&
            decide ((y.yds.limits.get o.holder.partner).lagThreshold < f o.holder.partner)) }
      else o := by
  have drawn {h : Holder} (d : o.drawing = true) (w : h ∈ y.mvs.worked o.holder) : h ∈ drawingSet y :=
    List.mem_filter.2 ⟨Holder.mem_list h, (drawnBy_isSome lw).2 ⟨o, mo, w, d⟩⟩
  by_cases d : o.drawing = true
  · have own := drawn d (y.mvs.worked_self o.holder)
    rw [if_pos (Order.drawing_iff.1 d), Yard.marked_of_drawing d]
    simp only [own, hb _ own, decide_true, Bool.true_and, Yard.lags]
    by_cases c : y.mvs.isCoupled o.holder = true
    · have other := drawn d (Mvs.worked_of_partner (lw.follower o mo) c)
      simp only [other, hb _ other, decide_true, Bool.true_and]
    · simp only [Bool.not_eq_true] at c
      simp only [c, Bool.false_and]
  · rw [if_neg fun c => d (Order.drawing_iff.2 c), Yard.marked_of_not_drawing (by simpa using d)]

/-- The holders reported by the lag test. -/
theorem Yard.lagsNow_iff (lw : y.mvs.Lawful) {best : Int} {h : Holder} :
    y.lagsNow best h = y.mvs.orders.any fun o => decide (h ∈ y.mvs.worked o.holder ∧ o.state = .running ∧ o.kind ≠ .fill ∧
      (if o.holder = h then o.lagOwn else o.lagOther) = false ∧
      (y.yds.limits.get h).lagThreshold < best - contribution y h) := by
  rw [Bool.eq_iff_iff, Yard.lagsNow, Option.any_eq_true, List.any_eq_true]
  simp only [drawnBy_eq_some lw, decide_eq_true_eq, Order.drawing_iff, Order.lagMark, Bool.and_eq_true,
    Bool.not_eq_true', beq_iff_eq, Yard.lags]
  constructor
  · rintro ⟨o, ⟨m, ⟨r, k⟩, w⟩, n, l⟩
    exact ⟨o, m, w, r, k, n, l⟩
  · rintro ⟨o, m, w, r, k, n, l⟩
    exact ⟨o, ⟨m, ⟨r, k⟩, w⟩, n, l⟩

end

theorem gives_peak {y y' : Yard} {d : District} {k : Nat} {s l h t v : Int} {c : Decision}
    (hw : setPeak d.number k s l h t v y = (y', c)) :
    Gives 0x22#8 .setPeak formPeak
      [some (d.number : Int), some (k : Int), some 1, some s, some l, some h, some t, some v] y y' c :=
  gives_of_plain (fun _ _ _ => rfl) hw

theorem gives_dropPeak {y y' : Yard} {d : District} {k : Nat} {c : Decision} (hw : dropPeak d.number k y = (y', c)) :
    Gives 0x22#8 .setPeak formPeak [some (d.number : Int), some (k : Int), some 0] y y' c :=
  gives_of_plain (fun _ _ _ => rfl) hw

theorem gives_limits {y y' : Yard} {h : Holder} {tol lag : Int} {c : Decision}
    (hw : setHolderLimits h.number tol lag y = (y', c)) :
    Gives 0x20#8 .setHolderLimits (formOf layLimits) [some (h.number : Int), some tol, some lag] y y' c :=
  gives_of_plain (fun _ _ _ => rfl) hw

/-- Settles O19, from the settings of its three owners and the lag test over the drawing set. -/
theorem limitsAndProgrammeSet : Obligations.LimitsAndProgrammeSet := by
  intro y
  refine ⟨fun h tol lag hp hr => ?_, fun h tol lag hp => ?_, fun lw => ?_, fun h tol lag hp => ?_, fun d base hp => ?_,
    fun d base hp => ?_, fun d k s l h t v hp h1 h3 => ?_, fun d k hp h1 h3 => ?_,
    fun d k s l h t v => ⟨fun hp hk => ?_, fun hp => ?_⟩⟩
  · refine gives_limits ((setHolderLimits_present hp tol lag).trans ?_)
    dsimp only
    rw [lagTest_idle (y := y.updYds _) hr, ite_self]
    rfl
  · exact gives_limits (setHolderLimits_present hp tol lag)
  · dsimp only
    rw [← drawingSet_eq lw]
    refine ⟨lagTest_single, fun h2 => ?_⟩
    obtain ⟨best, hb, e⟩ := lagTest_eq lw h2
    have behind : ∀ h ∈ drawingSet y, ((drawingSet y).map (contribution y)).foldl max (contribution y h) - contribution y h =
        best - contribution y h := fun h m => by rw [hb h m]
    rw [e, List.map_congr_left fun o mo => Yard.marked_drawingSet lw behind mo]
    refine congrArg (fun ns => ({ y with mvs := _, notices := ns } : Yard)) ?_
    rw [List.filter_congr fun h m => (Yard.lagsNow_iff lw).trans (by rw [← behind h m])]
    refine List.foldl_ext _ _ _ fun q h m => ?_
    rw [behind h (List.mem_of_mem_filter m)]
  · exact gives_limits (setHolderLimits_absent hp tol lag)
  · exact gives_of_plain (fun _ _ _ => rfl) (setProfile_present hp base)
  · exact gives_of_plain (fun _ _ _ => rfl) (setProfile_absent hp base)
  · exact gives_peak (setPeak_present hp h1 h3 s l h t v)
  · exact gives_dropPeak (dropPeak_present hp h1 h3)
  · exact ⟨gives_peak (peak_invalid hp hk s l h t v).1, gives_dropPeak (peak_invalid hp hk s l h t v).2⟩
  · exact ⟨gives_peak (peak_absent hp s l h t v).1, gives_dropPeak (peak_absent hp s l h t v).2⟩

end Sys2Proof.Machine
end

section
/-! O49: the queries, and what their answers hold (R29, R39, R81, R118, R134, R143, R157, R158, R171). -/

namespace Sys2Proof.Machine

/-- A query answers what it draws from the yard, and the yard stands. -/
theorem gives_of_query {kind : Byte} {c : Byte → List Byte → Instr} {form : List Byte → Form} {fs : List Field} {y : Yard}
    {d : Decision} {data : List Field → Yard → Decision}
    (he : ∀ tag p s, exec (c tag p) s = concluded (query kind form data tag p s)) (hd : data fs y = d) :
    Gives kind c form fs y y d :=
  gives_of_plain he (Prod.ext rfl hd)

/-! ### Figures (R173) -/

theorem inMJ_eq (v : Int) : inMJ v = .s64 (some ((2 * v + 1000000) / 2000000)) := by
  simp [inMJ, roundDiv]

theorem sampledFigs_eq (v : Option Sampled) :
    sampledFigs v = [.s32 (v.map (·.value)), .u8 ((v.map (·.source.code)).getD 255)] := by
  cases v <;> rfl

theorem closingFigs_eq (c : Option Closing) :
    closingFigs c = [.s64 (c.bind (·.stock)), .u8 ((c.map (·.status.code)).getD 255), .u8 ((c.map (·.period)).getD 255)] := by
  cases c <;> rfl

theorem liftFigs_eq (l : Option Lift) :
    liftFigs l = [.s32 (l.map (·.area)), .s32 (l.map (·.stroke)), .s32 (l.map (·.weight))] := by
  cases l <;> rfl

theorem pointFigs_eq (p : Option Point) :
    pointFigs p = [.u8 ((p.map (·.outstation)).getD 255), .u8 ((p.map (·.channel)).getD 255)] := by
  cases p <;> rfl

theorem goodTimeFigs_eq (g : Option GoodTime) :
    goodTimeFigs g = [.s32 (g.map fun t => (t.cycle : Int)), .u16 (((g.bind (·.clock)).map (·.1)).getD 65535),
      .u8 (((g.bind (·.clock)).map (·.2.1)).getD 255), .s32 ((g.bind (·.clock)).map fun c => (c.2.2 : Int))] := by
  cases g <;> rfl

theorem Status.worse_code (a b : Status) : (a.worse b).code = max a.code b.code := by cases a <;> cases b <;> rfl

theorem committed_fig (y : Yard) : flagFig y.isCommitted = .u8 (if y.yds.desc = .committed then 1 else 0) := by
  cases e : y.yds.desc <;> simp [flagFig, Yard.isCommitted, e]

theorem EntryDyn.wokenAt_eq (d : EntryDyn) :
    d.wokenAt = if d.state = .waking then some d.wakeTime else d.woken := by
  simp only [EntryDyn.wokenAt, beq_iff_eq]

theorem adoptWait_fig (t : Timer) : flagFig (t != .idle) = .u8 (if t = .idle then 0 else 1) := by
  cases t <;> rfl

/-! ### The owners of the queries -/

section
variable {y : Yard}

theorem readHolder_present {h : Holder} {r : HolderRec} (e : y.yds.holders.get h = some r) :
    readHolder h.number y = .answer .none (holderData y h r) := by simp [readHolder, e]

theorem readHolder_absent {h : Holder} (e : y.yds.holders.get h = none) : readHolder h.number y = noSuch 1 := by
  simp [readHolder, e]

theorem readDistrict_present {d : District} {r : DistrictRec} (e : y.yds.districts.get d = some r) :
    readDistrict d.number y =
      .answer .none ([flagFig r.booster, .s32 (some r.floor), .s32 (some r.ceiling), .s32 (some r.factor)]
        ++ settingFigs y.yds d ++ districtDynFigs (y.dgu.districts.get d) ++ [.s32 y.dgu.available]) := by
  simp [readDistrict, e]

theorem readDistrict_absent {d : District} (e : y.yds.districts.get d = none) : readDistrict d.number y = noSuch 1 := by
  simp [readDistrict, e]

theorem readOutstation_present {a : Nat} {e : Entry} (h : y.scs.entryAt a = some e) :
    readOutstation a y =
      .answer .none ([.u8 e.address, .u8 e.kind.code, flagFig e.sleeper] ++ pointKindFigs e.points ++
        entryDynFigs e.dyn) := by
  simp [readOutstation, h]

theorem readOutstation_absent {a : Nat} (h : y.scs.entryAt a = none) : readOutstation a y = noSuch 1 := by
  simp [readOutstation, h]

theorem readQuantity_present {q : Slot} (h : y.yds.slotPresent q = true) :
    readQuantity q.code y = .answer .none (quantityData y q) := by simp [readQuantity, h]

theorem readQuantity_absent {q : Slot} (h : y.yds.slotPresent q = false) : readQuantity q.code y = noSuch 1 := by
  simp [readQuantity, h]

/-! ### READ PERIOD (R143) -/

theorem recordOfAge_eq (q : Qpr) (age : Nat) :
    recordOfAge q age = if age = 0 then q.current else q.ring.reverse[age - 1]? := by
  simp only [recordOfAge, List.head?_drop]

theorem holder_number_range (h : Holder) : 1 ≤ h.number ∧ h.number ≤ 6 := by cases h <;> decide

theorem district_number_range (d : District) : 1 ≤ d.number ∧ d.number ≤ 8 := by cases d <;> decide

theorem sectionSlots_holder (d : Yds) (h : Holder) :
    sectionSlots d h.number = if d.holders.get h ≠ none then some (holderSlots h) else none := by
  have r := holder_number_range h
  rw [sectionSlots, if_neg (by omega), if_pos r.2]
  cases e : d.holders.get h with
  | none => simp [presentHolder_none e]
  | some x => simp [presentHolder_some (d := d) (h := h) (by simp [e])]

theorem sectionSlots_district (d : Yds) (x : District) :
    sectionSlots d (6 + x.number) = if d.districts.get x ≠ none then some (districtSlots x) else none := by
  have r := district_number_range x
  rw [sectionSlots, if_neg (by omega), if_neg (by omega), Nat.add_sub_cancel_left]
  cases e : d.districts.get x with
  | none => simp [presentDistrict_none e]
  | some z => simp [presentDistrict_some (d := d) (x := x) (by simp [e])]

theorem readPeriod_none {age sec : Nat} (ha : age ≤ 8) (hs : sec ≤ 14) (hr : recordOfAge y.qpr age = none) :
    readPeriod age sec y = noSuch 1 := by
  have ha : ¬8 < age := by omega
  have hs : ¬14 < sec := by omega
  simp [readPeriod, ha, hs, hr]

/-- A section of a record that is there (R143). -/
theorem readPeriod_section {age sec : Nat} {r : PeriodRec} (ha : age ≤ 8) (hs : sec ≤ 14)
    (hr : recordOfAge y.qpr age = some r) :
    (∀ qs, sectionSlots y.yds sec = some qs → readPeriod age sec y = .answer .none (recordData r qs)) ∧
    (sectionSlots y.yds sec = none → readPeriod age sec y = noSuch 2) := by
  have ha : ¬8 < age := by omega
  have hs : ¬14 < sec := by omega
  exact ⟨fun qs e => by simp [readPeriod, ha, hs, hr, e], fun e => by simp [readPeriod, ha, hs, hr, e]⟩

/-! ### READ DAY and READ DAY BOOK (R157, R158) -/

/-- The day that READ DAY reads. -/
def Yard.dayRead (y : Yard) (pending : Bool) : Option Day := if pending then y.soa.pending.map (·.day) else y.soa.current

theorem unreported_eq (c : Day) :
    unreported y c = (Meter.list.filter fun m => y.yds.meterBound m && !(c.meters.get m).latched).length := by
  simp only [unreported, Yds.boundMeters, List.filter_filter, Bool.and_comm]

theorem readDay_yard {p : Bool} {c : Day} (hc : y.dayRead p = some c) :
    readDay 0 p y = .answer .none (dayFigs y c p ++ if p then [.u8 (unreported y c)] else []) := by
  simp only [Yard.dayRead] at hc
  simp [readDay, hc]

theorem readDay_none {p : Bool} {sec : Nat} (hs : sec ≤ 8) (hc : y.dayRead p = none) : readDay sec p y = noSuch 2 := by
  have hs : ¬8 < sec := by omega
  simp only [Yard.dayRead] at hc
  simp [readDay, hs, hc]

theorem readDay_district {p : Bool} {c : Day} {d : District} (hc : y.dayRead p = some c)
    (hd : y.yds.districts.get d ≠ none) :
    readDay d.number p y = .answer .none (dayDistrictFigs (c.meters.get (.district d)) ++
      if p then [.u8 (unreported y c)] else []) := by
  have r := district_number_range d
  have h8 : ¬8 < d.number := by omega
  have h0 : d.number ≠ 0 := by omega
  simp only [Yard.dayRead] at hc
  simp [readDay, h8, h0, hc, presentDistrict_some hd]

theorem readDay_absent {p : Bool} {c : Day} {d : District} (hc : y.dayRead p = some c)
    (hd : y.yds.districts.get d = none) : readDay d.number p y = noSuch 1 := by
  have r := district_number_range d
  have h8 : ¬8 < d.number := by omega
  have h0 : d.number ≠ 0 := by omega
  simp only [Yard.dayRead] at hc
  simp [readDay, h8, h0, hc, presentDistrict_none hd]

/-- The cursor that READ DAY BOOK starts from, and the yard with its cursor moved. -/
def Yard.bookPlace (y : Yard) (newest : Bool) : Nat := if newest then y.soa.book.length - 1 else y.soa.cursor

def Yard.cursorAt (y : Yard) (k : Nat) : Yard := { y with soa := { y.soa with cursor := k } }

theorem readDayBook_ended {sec : Nat} {a n : Bool} (hs : sec ≤ 8) (hb : y.soa.book[y.bookPlace n]? = none) :
    readDayBook sec a n y = (y.cursorAt (y.bookPlace n), .answer .ended []) := by
  have hs : ¬8 < sec := by omega
  simp only [Yard.bookPlace] at hb ⊢
  simp only [readDayBook, hs, if_false, List.head?_drop, hb]
  rfl

theorem readDayBook_section {sec : Nat} {a n : Bool} {e : BookEntry} (hs : sec ≤ 8)
    (hb : y.soa.book[y.bookPlace n]? = some e) :
    (∀ d, e.sectionFigs sec = some d →
      readDayBook sec a n y =
        (y.cursorAt (if a then y.bookPlace n + 1 else y.bookPlace n), .answer .none d)) ∧
    (e.sectionFigs sec = none → readDayBook sec a n y = (y, noSuch 1)) := by
  have hs : ¬8 < sec := by omega
  simp only [Yard.bookPlace] at hb ⊢
  refine ⟨fun d h => ?_, fun h => ?_⟩ <;> simp only [readDayBook, hs, if_false, List.head?_drop, hb, h]
  rfl

theorem sectionFigs_district (e : BookEntry) (d : District) :
    e.sectionFigs d.number = (e.districts.get d).map bookDistrictFigs := by
  have r := district_number_range d
  rw [BookEntry.sectionFigs, if_neg (by omega), districtOf_number, Option.bind_some]

end

/-! ### The answers, figure by figure -/

section
variable {y : Yard}

/-- READ STATUS (R171). -/
theorem exec_readStatus {s : State} {tag : Byte} {before after : List Request}
    (h : Front s ⟨0x60#8, tag, [], false⟩ before after) :
    exec (.readStatus tag []) s = concluded (s.answered ⟨0x60#8, tag, [], false⟩ before after s.yard
      (.answer .none (statusData s.link s.yard))) := by
  have same : statusData { s.link with queue := before ++ ⟨0x60#8, tag, [], true⟩ :: after } s.yard =
      statusData s.link s.yard := by simp [statusData, h.queue]
  exact congrArg concluded ((takeRequest_ok h false none _).trans (by rw [same]; rfl))

end

theorem gives_period {y : Yard} {age sec : Nat} {d : Decision} (hd : readPeriod age sec y = d) :
    Gives 0x66#8 .readPeriod (formOf layPeriod) [some (age : Int), some (sec : Int)] y y d :=
  gives_of_query (fun _ _ _ => rfl) hd

theorem gives_day {y : Yard} {sec : Nat} {p : Bool} {d : Decision} (hd : readDay sec p y = d) :
    Gives 0x67#8 .readDay (formOf layDay) [some (sec : Int), some (if p then 1 else 0)] y y d := by
  refine gives_of_query (fun _ _ _ => rfl) (Eq.trans ?_ hd)
  cases p <;> rfl

theorem gives_book {y y' : Yard} {sec : Nat} {a n : Bool} {d : Decision} (hd : readDayBook sec a n y = (y', d)) :
    Gives 0x68#8 .readDayBook (formOf layBook)
      [some (sec : Int), some (if a then 1 else 0), some (if n then 1 else 0)] y y' d := by
  refine gives_of_plain (fun _ _ _ => rfl) (Eq.trans ?_ hd)
  cases a <;> cases n <;> rfl

/-- Settles O49, query by query. -/
theorem queriesAnswer : Obligations.QueriesAnswer := by
  refine ⟨by decide, fun s tag before after h => ?_, fun y => ⟨fun h => ⟨fun e => ?_, fun r e => ?_⟩, ?_,
    fun d => ⟨fun e => ?_, fun x e => ?_⟩, fun a => ⟨fun e => ?_, fun x e => ?_⟩, fun q => ⟨fun e => ?_, fun e => ?_⟩,
    fun age sec => ⟨fun ha => ?_, fun ha hs => ?_, fun ha hs hr => ?_, fun r ha hr =>
      ⟨?_, fun h => ⟨fun hp => ?_, fun hp => ?_⟩, fun d => ⟨fun hp => ?_, fun hp => ?_⟩⟩⟩,
    fun pending => ⟨fun sec hs => ?_, fun sec hs hd => ?_, fun c hc => ⟨?_, fun d => ⟨fun hd => ?_, fun hd => ?_⟩⟩⟩,
    fun advance newest sec => ⟨fun hs => ?_, fun hs hb => ?_, fun e he =>
      ⟨fun h0 => ?_, fun d hd => ⟨fun b hb => ?_, fun hb => ?_⟩⟩⟩⟩⟩
  · rw [exec_readStatus h, statusData, committed_fig]
    dsimp only
    refine congrArg (fun d => concluded (s.answered _ before after s.yard (.answer .none d))) ?_
    generalize s.yard.gdc.clock = c, s.yard.mvs.tripCause = t
    cases c <;> rcases t with _ | _ | _ | _ <;> rfl
  · exact gives_of_query (fun _ _ _ => rfl) (readHolder_absent e)
  · refine gives_of_query (fun _ _ _ => rfl) ((readHolder_present e).trans ?_)
    dsimp only [holderData]
    rw [sampledFigs_eq, sampledFigs_eq, sampledFigs_eq, closingFigs_eq, recordFigs, funext liftFigs_eq]
    refine congrArg (Decision.answer .none) (congrArg₂ (· ++ ·) (congrArg₂ (· ++ ·) ?_ ?_) ?_)
    · simp only [List.append_assoc]
      rfl
    · generalize y.yds.geometry.get h = g
      cases g <;> rfl
    · by_cases l : y.mvs.role h = .leader
      · rw [if_pos (by simpa using l), if_neg (not_not.2 l), pairStock]
        generalize (y.hsu.holders.get h).stock = a, (y.hsu.holders.get h.partner).stock = b
        cases a with
        | none => rfl
        | some a =>
          cases b with
          | none => rfl
          | some b => exact congrArg (fun c => [Fig.s64 (some (a + b)), .u8 c]) (Status.worse_code _ _)
      · rw [if_neg (by simpa using l), if_pos l]
  · refine gives_of_query (fun _ _ _ => rfl) ?_
    refine congrArg (fun f => Decision.answer .none (.u8 y.mvs.orders.length :: y.mvs.orders.flatMap f))
      (funext fun o => ?_)
    rw [orderFigs]
    generalize o.start = a, o.finish = b
    cases a <;> cases b <;> rfl
  · exact gives_of_query (fun _ _ _ => rfl) (readDistrict_absent e)
  · refine gives_of_query (fun _ _ _ => rfl) ((readDistrict_present e).trans ?_)
    dsimp only
    rw [districtDynFigs, adoptWait_fig, settingFigs]
    refine congrArg (Decision.answer .none) ?_
    generalize (y.dgu.districts.get d).runUp = u, (y.yds.programme.get d).peaks = p
    obtain ⟨p, q, r⟩ := p
    cases u <;> cases p <;> cases q <;> cases r <;> rfl
  · exact gives_of_query (fun _ _ _ => rfl) (readOutstation_absent e)
  · refine gives_of_query (fun _ _ _ => rfl) ((readOutstation_present e).trans ?_)
    refine congrArg (Decision.answer .none) ?_
    rw [entryDynFigs, EntryDyn.wokenAt_eq]
    dsimp only
    generalize x.dyn.fitted = f, x.dyn.lastGood = g
    cases f <;> cases g <;> rfl
  · exact gives_of_query (fun _ _ _ => rfl) (readQuantity_absent e)
  · refine gives_of_query (fun _ _ _ => rfl) ((readQuantity_present e).trans ?_)
    dsimp only [quantityData]
    rw [pointFigs_eq, pointFigs_eq, goodTimeFigs_eq]
    refine congrArg (Decision.answer .none) ?_
    simp only [List.append_assoc]
    generalize (y.qpr.recs.get q).base = b
    cases b <;> rfl
  · exact gives_period (if_pos ha)
  · exact gives_period ((if_neg (Nat.not_lt.2 ha)).trans (if_pos hs))
  · exact gives_period (readPeriod_none ha hs ((recordOfAge_eq _ _).trans hr))
  · have read := (readPeriod_section (sec := 0) ha (by decide) ((recordOfAge_eq _ _).trans hr)).1 _ rfl
    refine gives_period (read.trans (congrArg (Decision.answer .none) ?_))
    simp only [recordData, List.flatMap_cons, List.flatMap_nil, entryFigs]
    generalize (r.entries.get .makeMeter).heat = v
    cases v <;> rfl
  · have read := (readPeriod_section ha (by have := holder_number_range h; omega) ((recordOfAge_eq _ _).trans hr)).1 _
      ((sectionSlots_holder _ h).trans (if_pos hp))
    exact gives_period (read.trans (congrArg (Decision.answer .none) rfl))
  · exact gives_period ((readPeriod_section ha (by have := holder_number_range h; omega)
      ((recordOfAge_eq _ _).trans hr)).2 ((sectionSlots_holder _ h).trans (if_neg (not_not.2 hp))))
  · have read := (readPeriod_section ha (by have := district_number_range d; omega) ((recordOfAge_eq _ _).trans hr)).1 _
      ((sectionSlots_district _ d).trans (if_pos hp))
    refine gives_period (sec := 6 + d.number) (read.trans (congrArg (Decision.answer .none) ?_))
    simp only [recordData, districtSlots, List.flatMap_cons, List.flatMap_nil, entryFigs]
    generalize (r.entries.get (.meter d)).heat = v
    cases v <;> rfl
  · exact gives_period (sec := 6 + d.number) ((readPeriod_section ha (by have := district_number_range d; omega)
      ((recordOfAge_eq _ _).trans hr)).2 ((sectionSlots_district _ d).trans (if_neg (not_not.2 hp))))
  · exact gives_day (if_pos hs)
  · exact gives_day (readDay_none hs hd)
  · refine gives_day ((readDay_yard hc).trans (congrArg (Decision.answer .none) ?_))
    rw [dayFigs, inMJ_eq, Soa.inHand, unreported_eq]
    simp only [beq_eq_decide]
    rfl
  · refine gives_day ((readDay_district hc hd).trans (congrArg (Decision.answer .none) ?_))
    rw [dayDistrictFigs, inMJ_eq, unreported_eq]
    rfl
  · exact gives_day (readDay_absent hc hd)
  · exact gives_book (if_pos hs)
  · exact gives_book (readDayBook_ended hs hb)
  · subst h0
    exact gives_book ((readDayBook_section (by decide) he).1 _ rfl)
  · subst hd
    exact gives_book ((readDayBook_section (by have := district_number_range d; omega) he).1 _
      ((sectionFigs_district e d).trans (by rw [hb]; rfl)))
  · subst hd
    exact gives_book ((readDayBook_section (by have := district_number_range d; omega) he).2
      ((sectionFigs_district e d).trans (by rw [hb]; rfl)))

end Sys2Proof.Machine
end

section
/-! SUPPORT. The completion of a pending day close, and what the start-up of a reset leaves (R153, R160, R177). -/

namespace Sys2Proof.Machine

/-! ### A pending close touches the accounts and the notices alone -/

/-- The yard with the accounts and the notices blotted out. -/
def Yard.unbooked (y : Yard) : Yard := { y with soa := .cold, notices := ⟨[], 0⟩ }

theorem eq_of_unbooked {y z : Yard} (h : z.unbooked = y.unbooked) : z = { y with soa := z.soa, notices := z.notices } := by
  have e : ∀ w : Yard, w = { w.unbooked with soa := w.soa, notices := w.notices } := fun _ => rfl
  rw [e z, h]
  rfl

section
variable (y : Yard)

@[simp] theorem Yard.updSoa_unbooked (f : Soa → Soa) : (y.updSoa f).unbooked = y.unbooked := rfl
@[simp] theorem raiseNotice_unbooked (k : NoticeKind) (o : Nat) (v : Int) :
    (raiseNotice k o v y).unbooked = y.unbooked := rfl
@[simp] theorem takeRemainder_unbooked (m : Meter) (v : Int) : (takeRemainder m v y).unbooked = y.unbooked := rfl

@[simp] theorem closeDay_unbooked (d : Day) : (closeDay d y).1.unbooked = y.unbooked := by
  unfold closeDay
  dsimp only
  split
  · split <;> rfl
  · rfl

@[simp] theorem finishPending_unbooked : (finishPending y).unbooked = y.unbooked := by
  unfold finishPending
  split
  · split
    · simp
    · rfl
  · rfl

@[simp] theorem correctRemainder_unbooked (m : Meter) : (correctRemainder y m).unbooked = y.unbooked := by
  unfold correctRemainder
  split
  · dsimp only
    split <;> simp
  · rfl

@[simp] theorem startCompletion_unbooked : (startCompletion y).unbooked = y.unbooked := by
  unfold startCompletion
  split
  · simp [foldl_keeps Yard.unbooked fun z m => correctRemainder_unbooked z m]
  · rfl

@[simp] theorem tryComplete_unbooked : (tryComplete y).unbooked = y.unbooked := by
  unfold tryComplete
  split
  · split <;> simp
  · rfl

@[simp] theorem makeDue_unbooked : (makeDue y).unbooked = y.unbooked := by simp [makeDue]

/-- A close made due changes the accounts and the notices alone (R153). -/
theorem makeDue_frame : makeDue y = { y with soa := (makeDue y).soa, notices := (makeDue y).notices } :=
  eq_of_unbooked (makeDue_unbooked y)

end

/-! ### The line plays no part in a close -/

section
variable (y : Yard) (l : Ylc)

theorem closeDay_ylc (d : Day) :
    closeDay d { y with ylc := l } = ({ (closeDay d y).1 with ylc := l }, (closeDay d y).2) := by
  have b : balanceOf { y with ylc := l } d = balanceOf y d := rfl
  simp only [closeDay, b]
  cases (balanceOf y d).permille with
  | none => rfl
  | some p => dsimp only; split <;> rfl

theorem finishPending_ylc : finishPending { y with ylc := l } = { finishPending y with ylc := l } := by
  unfold finishPending
  dsimp only
  split
  · split
    · rw [closeDay_ylc]; rfl
    · rfl
  · rfl

theorem correctRemainder_ylc (m : Meter) : correctRemainder { y with ylc := l } m = { correctRemainder y m with ylc := l } := by
  unfold correctRemainder
  dsimp only
  split
  · split <;> rfl
  · rfl

theorem startCompletion_ylc : startCompletion { y with ylc := l } = { startCompletion y with ylc := l } := by
  have fold (ms : List Meter) (z : Yard) :
      ms.foldl correctRemainder { z with ylc := l } = { ms.foldl correctRemainder z with ylc := l } := by
    induction ms generalizing z with
    | nil => rfl
    | cons m ms ih => rw [List.foldl_cons, correctRemainder_ylc, ih]; rfl
  unfold startCompletion
  dsimp only
  split
  · rw [← finishPending_ylc, ← fold]; rfl
  · rfl

theorem tryComplete_ylc : tryComplete { y with ylc := l } = { tryComplete y with ylc := l } := by
  unfold tryComplete
  dsimp only
  cases y.soa.pending with
  | none => rfl
  | some p =>
    dsimp only
    cases p.due && !p.started && !(y.soa.corrections.any (·.day == p.day.day))
    · rfl
    · exact startCompletion_ylc y l

/-- A close made due reads nothing of the line. -/
theorem makeDue_ylc : makeDue { y with ylc := l } = { makeDue y with ylc := l } :=
  tryComplete_ylc (y.updSoa fun u => u.updPending fun p => { p with due := true }) l

end

/-! ### The cursor of the day book -/

theorem Soa.append_cursor {u : Soa} (h : u.cursor = 0) (e : BookEntry) : (u.append e).cursor = 0 := by
  unfold Soa.append
  dsimp only
  rw [h]
  cases hb : u.book with
  | nil => simp
  | cons x xs =>
    have z : (if x.day < e.day then (List.filter (fun b : BookEntry => decide (b.day < e.day)) []).length else 0) = 0 := by
      split <;> rfl
    simp only [List.drop_zero, List.head?_cons, List.take_zero, z]
    split <;> rfl

/-! ### How a close made due goes on (R153) -/

/-- Whether a day has the three conditions of a correction of a meter. -/
def Day.gives (d : Day) (m : Meter) : Bool := (d.conditions.bind (·.full m)).isSome

theorem Day.gives_eq (d : Day) (m : Meter) :
    d.gives m = d.conditions.any fun c => (c.press.get m).isSome && c.temp.isSome && c.baro.isSome := by
  unfold Day.gives
  cases d.conditions with
  | none => rfl
  | some c =>
    simp only [Option.bind_some, Option.any_some, Conditions.full]
    cases c.press.get m <;> cases c.temp <;> cases c.baro <;> rfl

section
variable {y : Yard} {p : PendingDay}

/-- With no day pending there is nothing to make due. -/
theorem makeDue_none (h : y.soa.pending = none) : makeDue y = y := by
  have e : (y.updSoa fun u => u.updPending fun p => { p with due := true }) = y := by
    have : (y.soa.updPending fun p => { p with due := true }) = y.soa := by
      simp only [Soa.updPending, h, Option.map_none]
      rw [← h]
    simp only [Yard.updSoa, this]
  rw [makeDue, e, tryComplete, h]

/-- A close that waits for a correction of its day, or for its remainders, becomes due and no more. -/
theorem makeDue_waits (h : y.soa.pending = some p) (hw : p.started = true ∨ ∃ c ∈ y.soa.corrections, c.day = p.day.day) :
    makeDue y = { y with soa := { y.soa with pending := some { p with due := true } } } := by
  have e : (y.updSoa fun u => u.updPending fun p => { p with due := true }) =
      { y with soa := { y.soa with pending := some { p with due := true } } } := by
    simp only [Yard.updSoa, Soa.updPending, h, Option.map_some]
  rw [makeDue, e, tryComplete]
  dsimp only
  obtain hs | ⟨c, mc, ec⟩ := hw
  · simp [hs]
  · have any : (y.soa.corrections.any fun c => c.day == p.day.day) = true :=
      List.any_eq_true.2 ⟨c, mc, by simpa using ec⟩
    simp [any]

/-- Else the completion starts. -/
theorem makeDue_starts (h : y.soa.pending = some p) (hw : ¬(p.started = true ∨ ∃ c ∈ y.soa.corrections, c.day = p.day.day)) :
    makeDue y = startCompletion { y with soa := { y.soa with pending := some { p with due := true } } } := by
  have e : (y.updSoa fun u => u.updPending fun p => { p with due := true }) =
      { y with soa := { y.soa with pending := some { p with due := true } } } := by
    simp only [Yard.updSoa, Soa.updPending, h, Option.map_some]
  obtain ⟨hs, hc⟩ := not_or.1 hw
  have any : (y.soa.corrections.any fun c => c.day == p.day.day) = false := by
    rw [List.any_eq_false]
    exact fun c mc ec => hc ⟨c, mc, by simpa using ec⟩
  rw [makeDue, e, tryComplete]
  simp [hs, any]

/-- A remainder taken changes one meter of the pending day. -/
theorem takeRemainder_pending (h : y.soa.pending = some p) (m : Meter) (v : Int) :
    ∃ f, takeRemainder m v y = { y with soa := { y.soa with pending := some { p with day := p.day.updMeter m f } } } :=
  ⟨_, by simp only [takeRemainder, Yard.updSoa, Soa.updPending, h, Option.map_some]; rfl⟩

/-- The corrections of the remainders: those of the meters that have their conditions are handed to CU, the others are taken
into the day (R153). -/
theorem correctRemainder_fold (ms : List Meter) (h : y.soa.pending = some p) :
    ∃ (d : Day) (rs : List Remainder), d.day = p.day.day ∧ rs.map (·.meter) = ms.filter p.day.gives ∧
      ms.foldl correctRemainder y =
        { y with soa := { y.soa with pending := some { p with day := d }, remainders := y.soa.remainders ++ rs } } := by
  induction ms generalizing y p with
  | nil =>
    refine ⟨p.day, [], rfl, rfl, ?_⟩
    simp only [List.foldl_nil, List.append_nil]
    rw [← h]
  | cons m ms ih =>
    rw [List.foldl_cons]
    cases c : p.day.conditions.bind (·.full m) with
    | none =>
      obtain ⟨f, t⟩ := takeRemainder_pending h m (roundDiv (p.day.meters.get m).remainder 1000)
      have e : correctRemainder y m = { y with soa := { y.soa with pending := some { p with day := p.day.updMeter m f } } } := by
        simp only [correctRemainder, h, c]
        exact t
      obtain ⟨d', rs, ed', hrs, e'⟩ := ih (p := { p with day := p.day.updMeter m f })
        (y := { y with soa := { y.soa with pending := some { p with day := p.day.updMeter m f } } }) rfl
      refine ⟨d', rs, ed', ?_, by rw [e, e']⟩
      rw [hrs, List.filter_cons_of_neg (by simp [Day.gives, c])]
      rfl
    | some x =>
      obtain ⟨press, temp, baro⟩ := x
      have e : correctRemainder y m = { y with soa := { y.soa with
          remainders := y.soa.remainders ++ [⟨m, (p.day.meters.get m).remainder, press, temp, baro⟩] } } := by
        simp only [correctRemainder, h, c, Yard.updSoa]
      obtain ⟨d, rs, ed, hrs, e'⟩ := ih (y := { y with soa := { y.soa with
          remainders := y.soa.remainders ++ [⟨m, (p.day.meters.get m).remainder, press, temp, baro⟩] } }) (p := p) h
      refine ⟨d, ⟨m, (p.day.meters.get m).remainder, press, temp, baro⟩ :: rs, ed, ?_, ?_⟩
      · rw [List.map_cons, hrs, List.filter_cons_of_pos (by simp [Day.gives, c])]
      · rw [e, e', List.append_assoc]; rfl

/-- Where the completion of a close starts, the bound meters that have their conditions are handed to CU, and the close waits
for them or is finished (R153). -/
theorem startCompletion_eq (h : y.soa.pending = some p) :
    ∃ (d : Day) (rs : List Remainder), d.day = p.day.day ∧ rs.map (·.meter) = y.yds.boundMeters.filter p.day.gives ∧
      startCompletion y = finishPending { y with soa := { y.soa with
        pending := some ⟨d, p.due, true⟩, remainders := y.soa.remainders ++ rs } } := by
  let carried := y.yds.boundMeters.any fun m => !(p.day.meters.get m).latched
  let q : PendingDay := { p with
    started := true, day := { p.day with flags := { p.day.flags with carried := p.day.flags.carried || carried } } }
  obtain ⟨d, rs, ed, er, e⟩ := correctRemainder_fold (y := { y with soa := { y.soa with pending := some q } })
    y.yds.boundMeters rfl
  refine ⟨d, rs, ed, er, ?_⟩
  have start : startCompletion y =
      finishPending (y.yds.boundMeters.foldl correctRemainder { y with soa := { y.soa with pending := some q } }) := by
    simp only [startCompletion, h, Yard.updSoa, Soa.updPending, Option.map_some]
    rfl
  rw [start, e]

/-- A close with remainders at CU waits for them. -/
theorem finishPending_waits (h : y.soa.remainders ≠ []) : finishPending y = y := by
  unfold finishPending
  split
  · rw [if_neg (by simp [h])]
  · rfl

/-- A close whose remainders are all back: the day is balanced and appended, and its closing stock opens the current day. -/
theorem finishPending_closes (h : y.soa.pending = some p) (hs : p.started = true) (hr : y.soa.remainders = []) :
    finishPending y = (closeDay p.day y).1.updSoa fun u =>
      { u.updCurrent (fun d => { d with opening := some (closeDay p.day y).2 }) with pending := none } := by
  simp only [finishPending, h, hs, hr, List.isEmpty_nil, Bool.and_self, if_true]

/-- The notices of a close: BALANCE OUT where the permille lies beyond the limit, then DAY CLOSED (R155). -/
def closeNotices (limit : Int) (clock : Option ClockTime) (n : Nat) (permille : Option Int) (q : Notices) : Notices :=
  let day := clock.map (·.day)
  let period := clock.map (·.period)
  let out := match permille with
    | some v => if limit < (v.natAbs : Int) then q.raise .balanceOut n v day period else q
    | none => q
  out.raise .dayClosed n n day period

/-- A day closed: its entry appended, its notices raised. -/
theorem closeDay_eq (d : Day) (y : Yard) :
    closeDay d y =
      ({ y with
        soa := y.soa.append (bookEntry y d (balanceOf y d))
        notices := closeNotices y.yds.balanceLimit y.gdc.clock d.day (balanceOf y d).permille y.notices },
        ((balanceOf y d).closing, (balanceOf y d).closingEst)) := by
  unfold closeDay closeNotices
  dsimp only
  cases (balanceOf y d).permille with
  | none => rfl
  | some v =>
    dsimp only
    split <;> rfl

/-- What an entry appended to the day book leaves, the cursor standing on the oldest (R156, R157). -/
theorem Soa.append_eq {u : Soa} (h : u.cursor = 0) (e : BookEntry) :
    u.append e = { u with book :=
      if (u.book.filter (·.day < e.day) ++ [e]).length ≤ 14 then u.book.filter (·.day < e.day) ++ [e]
      else (u.book.filter (·.day < e.day) ++ [e]).drop 1 } := by
  have c := Soa.append_cursor h e
  have cursor : u.append e = { u.append e with cursor := u.cursor } := by rw [h, ← c]
  rw [cursor]
  unfold Soa.append
  dsimp only
  split
  · next l => rw [if_neg (by omega)]
  · next l => rw [if_pos (by omega)]

end

end Sys2Proof.Machine
end

section
/-! O51 and O52: the resets, and what each leaves (R13, R31, R64, R78, R96, R116, R132, R144, R160, R172, R175 to R178). -/

namespace Sys2Proof.Machine

theorem formGeometry_get (hs : Holders (Option HolderRec)) (h : Holder) :
    (formGeometry hs).get h = (hs.get h).map geometryOf := by cases h <;> rfl

theorem restartYds_geometry (d : Yds) (h : Holder) :
    (restartYds d).geometry.get h = if d.desc = .committed then (d.holders.get h).map geometryOf else none := by
  cases c : d.desc <;> simp [restartYds, c, formGeometry_get]

theorem restartDgu_get (d : Yds) (u : Dgu) (x : District) :
    (restartDgu d u).districts.get x =
      .fresh (u.districts.get x).profile (u.districts.get x).trim (d.hasBooster x) := by
  cases x <;> rfl

theorem restartScs_eq (warm : Bool) (u : Scs) :
    restartScs warm u = {
      roster := u.roster.map fun e =>
        { e with dyn := ⟨.unknown, 0, 0, none, 0, .unchecked, none, ⟨0, 0, 0, 0, 0, 0⟩, none, .none⟩ }
      commands := [], loads := [], cycle := 0, phase := .none, interval := 15, cycleStart := 0, pollStart := 0
      rotating := u.roster.head?.map (·.address)
      toPoll := [], polling := none, retrying := false, sleepWait := none, probed := 0, shortCount := 0
      dayOwed := warm && u.dayOwed, wakeDue := true, lastWake := none } := by
  have first : ((u.roster.map fun e => { e with dyn := .fresh }).head?.map (·.address)) = u.roster.head?.map (·.address) := by
    rw [List.head?_map, Option.map_map]; rfl
  rw [restartScs, Scs.fresh, first]
  rfl

theorem hasBooster_eq (d : Yds) (x : District) : d.hasBooster x = (d.districts.get x).any (·.booster) := by
  unfold Yds.hasBooster
  cases d.districts.get x <;> rfl

/-- The yard that a reset keeping the store leaves, before a pending close is made due and the line starts (R177). -/
def restartBase (c : KeepClass) (y : Yard) : Yard :=
  let y := if c.warm then y else { y with now := 0, secondMark := 0 }
  let y := startNotice c { y with gdc := restartGdc c.warm y.gdc }
  { y with yds := restartYds y.yds, hsu := .fresh, mvs := restartMvs y.mvs y.tripPin y.now,
           dgu := restartDgu y.yds y.dgu, scs := restartScs c.warm y.scs,
           qpr := restartQpr c.warm y.gdc.clock.isSome y.qpr y.now, soa := restartSoa c.warm y.soa }

/-- The line started over a restarted yard. -/
def lineStarted (y : Yard) : Yard := { y with ylc := .lineStart y.yds.line.rate y.lineSpace y.now }

theorem restartYard_warm (n : Nat) (y : Yard) :
    restartYard (.warmRestart n) y = lineStarted (restartBase (.warmRestart n) y) := rfl

/-- A power restore makes a pending close due (R160). -/
theorem restartYard_restore (y : Yard) : restartYard .powerRestore y = makeDue (lineStarted (restartBase .powerRestore y)) := by
  rw [lineStarted, makeDue_ylc]
  have e := makeDue_frame (restartBase .powerRestore y)
  change ({ makeDue (restartBase .powerRestore y) with
    ylc := .lineStart (makeDue (restartBase .powerRestore y)).yds.line.rate (makeDue (restartBase .powerRestore y)).lineSpace
      (makeDue (restartBase .powerRestore y)).now } : Yard) = _
  rw [e]

/-- A restarted yard, but for the accounts and the notices, is what a reset that keeps the store leaves. -/
theorem restarted_of {c : KeepClass} {y y' : Yard} (e : y'.unbooked = (lineStarted (restartBase c y)).unbooked)
    (hc : y'.soa.cursor = 0) : y.Restarted y' := by
  have f := eq_of_unbooked e
  cases c <;> rw [f] at hc ⊢
  all_goals exact {
    pins := ⟨rfl, rfl⟩
    draws := rfl
    yds := rfl
    geometry := restartYds_geometry y.yds
    holders := fun h => Holders.get_all _ h
    hand := ⟨rfl, rfl, rfl⟩
    valves := fun h => ⟨Holders.get_all _ h, Holders.get_all _ h, Holders.get_all _ h, Holders.get_all _ h,
      Holders.get_all _ h⟩
    movement := ⟨rfl, rfl, rfl, rfl⟩
    watch := rfl
    districts := fun d => (restartDgu_get y.yds y.dgu d).trans (by rw [hasBooster_eq]; rfl)
    available := rfl
    line := rfl
    scan := restartScs_eq _ y.scs
    quantities := fun q => Slots.get_make _ q
    records := ⟨rfl, rfl, rfl⟩
    cursor := hc }

/-! ### RESTART and COLD START (R178) -/

/-- The next answer sent, of a request that asked for a reset. -/
theorem exec_answerSent {s : State} {a : Answer} {rest : List Answer} {r : ResetAsk} (hp : s.powered = true)
    (ha : s.link.answers = a :: rest) (hr : a.asks = some r) :
    exec .answerSent s = concluded { s with
      link := .fresh
      yard := match r with
        | .coldStart => coldYard s.yard.gdc.clock s.yard
        | .warmRestart n => restartYard (.warmRestart n) s.yard } := by
  have e : exec .answerSent s = concluded (if s.powered then answerGone s else s) := rfl
  rw [e, if_pos hp, answerGone, ha]
  simp only [hr]
  cases r <;> rfl

theorem restartSoa_seen (w : Bool) (u : Soa) (m : Meter) : (restartSoa w u).seen.get m = ⟨none, none, none⟩ :=
  Meters.get_all _ m

/-- Settles O51: the two requests, and the yard that each reset leaves. -/
theorem resetsBegin : Obligations.ResetsBegin := by
  refine ⟨fun s tag before after kind c ask hk h => ?_, fun s a rest hp ha => ⟨fun hr => ?_, fun n hr => ?_⟩⟩
  · obtain ⟨rfl, rfl, rfl⟩ | ⟨rfl, rfl, rfl⟩ := hk
    · exact congrArg concluded (takeRequest_ok h false (some (.warmRestart s.yard.mvs.orders.length)) _)
    · exact congrArg concluded (takeRequest_ok h false (some .coldStart) _)
  · exact exec_answerSent hp ha hr
  · refine ⟨lineStarted (restartBase (.warmRestart n) s.yard), exec_answerSent hp ha hr, restarted_of rfl rfl, rfl, rfl, rfl,
      rfl, rfl, ?_, rfl, restartSoa_seen true s.yard.soa, rfl⟩
    generalize ec : s.yard.gdc.clock = c
    cases c <;> simp [lineStarted, restartBase, restartQpr, startNotice, raiseNotice, restartGdc, KeepClass.warm, ec]

/-! ### Power (R175, R176) -/

section
variable {s : State}

theorem takeRequest_off (hp : s.powered = false) (kind tag : Byte) (p : List Byte) (form : Form) (b : Bool)
    (asks : Option ResetAsk) (owner : RequestWork) : takeRequest kind tag p form b asks owner s = s := by
  simp [takeRequest, hp]

theorem plain_off (hp : s.powered = false) (kind tag : Byte) (p : List Byte) (form : List Byte → Form)
    (work : List Field → Yard → Yard × Decision) : plain kind form work tag p s = s :=
  takeRequest_off hp _ _ _ _ _ _ _

theorem operational_off (hp : s.powered = false) (kind tag : Byte) (p : List Byte) (form : List Byte → Form)
    (work : List Field → Yard → Yard × Decision) : operational kind form work tag p s = s :=
  plain_off hp _ _ _ _ _

theorem query_off (hp : s.powered = false) (kind tag : Byte) (p : List Byte) (form : List Byte → Form)
    (data : List Field → Yard → Decision) : query kind form data tag p s = s :=
  plain_off hp _ _ _ _ _

theorem takeQualifier_off (hp : s.powered = false) (kind tag : Byte) (p : List Byte) (form : Form)
    (read : List Field → Qualifier) : takeQualifier kind tag p form read s = s := by
  simp [takeQualifier, hp]

theorem whilePowered_off (hp : s.powered = false) (f : Yard → Yard) : whilePowered f s = s := by simp [whilePowered, hp]

/-- A command that moves neither pin nor supply. -/
def Instr.moves : Instr → Bool
  | .powerUp _ | .yardTripAsserted _ | .yardTripReleased | .lineGoesToSpace _ | .lineReturnsToMark _ => true
  | _ => false

/-- Without power the controller does no work (R176). -/
theorem exec_off {i : Instr} (hp : s.powered = false) (hi : Instr.moves i = false) : exec i s = concluded s := by
  cases i
  case holder | lift | vapourTable | district | outstation | point | bind | lineSettings | commit | recommission
    | setHolderLimits | setProfile | setPeak | setTrim | setFeed | setLag | setDayPattern | setPeriodMark
    | setCv | setBalanceLimit | setScan | setSubstitute | setValveLimit | setTime | stopClock | fill | draw
    | floatReq | readStatus | readDayBook | takeNotice | restart | coldStart =>
    exact congrArg concluded (takeRequest_off hp _ _ _ _ _ _ _)
  case forceDay | cancel | couple | uncouple | shutHolder | trip | clearTrip | lineReset | loadOutstation =>
    exact congrArg concluded (operational_off hp _ _ _ _ _)
  case readHolder | readOrders | readDistrict | readOutstation | readQuantity | readPeriod | readDay =>
    exact congrArg concluded (query_off hp _ _ _ _ _)
  case whenReq | untilReq => exact congrArg concluded (takeQualifier_off hp _ _ _ _ _)
  case unknownKind =>
    refine congrArg concluded ?_
    split
    · rfl
    · exact takeRequest_off hp _ _ _ _ _ _ _
  case yardTripWatchExpiry | clockSecond | periodEnd | stockComputationResult | closingStockResult
     | meterVolumeResult | remainderResult | valveTimerExpiry | boosterRunUpExpiry | adoptionWaitExpiry
     | scanCycleStart | sleeperPollWaitExpiry | unsetHoldTick | guardExpiry | frameSent | breakSent
     | replyWindowExpiry | replyStart | replyHeaderReceived | replyComplete | replyDeadlineExpiry
     | stopBitAtSpace | drainEnd | drainTimeout | lineHeld | lineHeldRelease =>
    exact congrArg concluded (whilePowered_off hp _)
  case requestFrame | frameGap | answerSent | powerFail | hostLinkCharacter =>
    exact congrArg concluded (if_neg (by simp [hp]))
  case powerUp | yardTripAsserted | yardTripReleased | lineGoesToSpace | lineReturnsToMark => cases hi

/-- Without power the two pins alone follow (R176). -/
theorem exec_off_pins {i : Instr} (hp : s.powered = false) (hi : ∀ b, i ≠ .powerUp b) :
    ∃ trip space, exec i s = .next { s with yard := { s.yard with tripPin := trip, lineSpace := space } } ∧
      ((∀ m, i ≠ .yardTripAsserted m) → i ≠ .yardTripReleased → trip = s.yard.tripPin) ∧
      ((∀ m, i ≠ .lineGoesToSpace m) → (∀ m, i ≠ .lineReturnsToMark m) → space = s.yard.lineSpace) := by
  have done (t : State) (ht : t.powered = false) : concluded t = .next t := congrArg Host.Outcome.next (State.resealed_off ht)
  have off {t e : State} : (if s.powered = true then t else e) = e := if_neg (by simp [hp])
  cases hm : Instr.moves i
  · exact ⟨_, _, (exec_off hp hm).trans (done s hp), fun _ _ => rfl, fun _ _ => rfl⟩
  · cases i <;> simp only [Instr.moves, Bool.false_eq_true] at hm
    case powerUp b => exact absurd rfl (hi b)
    case yardTripAsserted m =>
      exact ⟨true, _, (congrArg concluded off).trans (done _ hp), fun h _ => absurd rfl (h m), fun _ _ => rfl⟩
    case yardTripReleased =>
      exact ⟨false, _, (congrArg concluded off).trans (done _ hp), fun _ h => absurd rfl h, fun _ _ => rfl⟩
    case lineGoesToSpace m =>
      exact ⟨_, true, (congrArg concluded off).trans (done _ hp), fun _ _ => rfl, fun h _ => absurd rfl (h m)⟩
    case lineReturnsToMark m =>
      exact ⟨_, false, (congrArg concluded off).trans (done _ hp), fun _ _ => rfl, fun _ h => absurd rfl (h m)⟩

end

/-! ### A power restore and a pending day (R153, R160) -/

section
variable {y : Yard} {p : PendingDay}

theorem finishPending_cursor (h : y.soa.cursor = 0) : (finishPending y).soa.cursor = 0 := by
  unfold finishPending
  split
  · split
    · rw [closeDay_eq]
      exact Soa.append_cursor h _
    · exact h
  · exact h

theorem makeDue_cursor (h : y.soa.cursor = 0) : (makeDue y).soa.cursor = 0 := by
  cases hp : y.soa.pending with
  | none => rw [makeDue_none hp]; exact h
  | some p =>
    by_cases hw : p.started = true ∨ ∃ c ∈ y.soa.corrections, c.day = p.day.day
    · rw [makeDue_waits hp hw]; exact h
    · obtain ⟨d, rs, -, -, e⟩ := startCompletion_eq
        (y := { y with soa := { y.soa with pending := some { p with due := true } } }) rfl
      rw [makeDue_starts hp hw, e]
      exact finishPending_cursor h

/-- A close made due that hands remainders to CU (R153). -/
theorem makeDue_hands (hp : y.soa.pending = some p) (hw : ¬(p.started = true ∨ ∃ c ∈ y.soa.corrections, c.day = p.day.day))
    (hg : ∃ m ∈ y.yds.boundMeters, p.day.gives m = true) :
    ∃ (d : Day) (rs : List Remainder), d.day = p.day.day ∧ rs.map (·.meter) = y.yds.boundMeters.filter p.day.gives ∧
      makeDue y = { y with soa := { y.soa with pending := some ⟨d, true, true⟩, remainders := y.soa.remainders ++ rs } } := by
  obtain ⟨d, rs, ed, er, e⟩ := startCompletion_eq
    (y := { y with soa := { y.soa with pending := some { p with due := true } } }) rfl
  refine ⟨d, rs, ed, er, ?_⟩
  have some_given : rs ≠ [] := by
    rintro rfl
    obtain ⟨m, mb, mg⟩ := hg
    exact List.ne_nil_of_mem (List.mem_filter.2 ⟨mb, mg⟩) er.symm
  rw [makeDue_starts hp hw, e]
  exact finishPending_waits (by simpa using fun _ => some_given)

/-- A close made due with nothing to correct: the day closes at once (R153). -/
theorem makeDue_closes (hp : y.soa.pending = some p) (hw : ¬(p.started = true ∨ ∃ c ∈ y.soa.corrections, c.day = p.day.day))
    (hg : ∀ m ∈ y.yds.boundMeters, p.day.gives m = false) (hr : y.soa.remainders = []) (hc : y.soa.cursor = 0) :
    ∃ (e : BookEntry) (est : Bool), e.day = p.day.day ∧
      makeDue y = { y with
        soa := { y.soa with
          pending := none
          current := y.soa.current.map fun d => { d with opening := some (e.closing, est) }
          book :=
            if (y.soa.book.filter (·.day < p.day.day) ++ [e]).length ≤ 14 then y.soa.book.filter (·.day < p.day.day) ++ [e]
            else (y.soa.book.filter (·.day < p.day.day) ++ [e]).drop 1 }
        notices := closeNotices y.yds.balanceLimit y.gdc.clock p.day.day e.permille y.notices } := by
  obtain ⟨d, rs, ed, er, e⟩ := startCompletion_eq
    (y := { y with soa := { y.soa with pending := some { p with due := true } } }) rfl
  have none_given : rs = [] := by
    have : rs.map (·.meter) = [] := er.trans (List.filter_eq_nil_iff.2 fun m mb => by simp [hg m mb])
    simpa using this
  subst none_given
  have ed : d.day = p.day.day := ed
  generalize ez : ({ y with soa := { y.soa with pending := some ⟨d, true, true⟩ } } : Yard) = z
  have ez' : ({ y with soa := { y.soa with pending := some ⟨d, true, true⟩, remainders := y.soa.remainders ++ [] } } : Yard) =
      z := by rw [List.append_nil, ← ez]
  refine ⟨bookEntry z d (balanceOf z d), (balanceOf z d).closingEst, ed, ?_⟩
  have closes := finishPending_closes (y := z) (p := ⟨d, true, true⟩) (by rw [← ez]) rfl (by rw [← ez]; exact hr)
  rw [makeDue_starts hp hw, e]
  refine (congrArg finishPending ez').trans (closes.trans ?_)
  rw [closeDay_eq, Soa.append_eq (by rw [← ez]; exact hc)]
  dsimp only [Yard.updSoa, Soa.updCurrent]
  have eday : (bookEntry z d (balanceOf z d)).day = p.day.day := ed
  rw [eday, ed, ← ez]
  rfl

end

/-- The meters of a day with their open accumulators cleared. -/
theorem Day.noOpen_get (d : Day) (m : Meter) : d.noOpen.meters.get m = { d.meters.get m with openAcc := 0 } := by
  rcases m with _ | x
  · rfl
  · cases x <;> rfl

/-- BALANCE OUT where the permille lies beyond the limit on either side (R155). -/
theorem closeNotices_within {limit : Int} {n : Nat} {pm : Option Int} (q : Notices)
    (h : ∀ v, pm = some v → v ≤ limit ∧ -v ≤ limit) :
    closeNotices limit none n pm q = q.raise .dayClosed n n none none := by
  cases pm with
  | none => rfl
  | some v =>
    have := h v rfl
    simp only [closeNotices, if_neg (show ¬limit < (v.natAbs : Int) by omega), Option.map_none]

theorem closeNotices_beyond {limit : Int} {n : Nat} {v : Int} (q : Notices) (h : limit < v ∨ limit < -v) :
    closeNotices limit none n (some v) q =
      (q.raise .balanceOut n v none none).raise .dayClosed n n none none := by
  simp only [closeNotices, if_pos (show limit < (v.natAbs : Int) by omega), Option.map_none]

theorem exec_powerUp_restore {s : State} (h : s.checkWord = s.yard.storeCheck) :
    exec (.powerUp true) s = concluded { s with
      powered := true, link := .fresh, yard := restartYard .powerRestore s.yard } := by
  have e : exec (.powerUp true) s = concluded (powerUp true s) := rfl
  rw [e, powerUp]
  simp [h]

theorem exec_powerUp_cold {s : State} {held : Bool} (h : s.checkWord ≠ s.yard.storeCheck ∨ held = false) :
    exec (.powerUp held) s = concluded { s with powered := true, link := .fresh, yard := coldYard none s.yard } := by
  have e : exec (.powerUp held) s = concluded (powerUp held s) := rfl
  rw [e, powerUp]
  obtain h | rfl := h <;> simp [*]

/-- Settles O52: the failing supply, the work of an unpowered part, and the two ends of a power-up. -/
theorem powerFailsAndReturns : Obligations.PowerFailsAndReturns := by
  refine ⟨fun s torn hp => ?_, fun i s hp hi => exec_off_pins hp hi, fun s held => ⟨fun hc => ?_, ?_⟩⟩
  · have e : exec (.powerFail torn) s = concluded (if s.powered then powerFail torn s else s) := rfl
    rw [e, if_pos hp]
    exact congrArg Host.Outcome.next (State.resealed_off rfl)
  · exact exec_powerUp_cold hc
  · rintro hc rfl
    generalize ez : lineStarted (restartBase .powerRestore s.yard) = z
    have restore : restartYard .powerRestore s.yard = makeDue z := by rw [restartYard_restore, ez]
    have frame := makeDue_frame z
    have cursor : (makeDue z).soa.cursor = 0 := makeDue_cursor (by rw [← ez]; rfl)
    have same : ({ makeDue z with soa := z.soa, notices := z.notices } : Yard) = z := by rw [frame]
    refine ⟨makeDue z, (exec_powerUp_restore hc).trans (by rw [restore]; rfl),
      restarted_of (by rw [makeDue_unbooked, ← ez]) cursor, ?_, ?_, ?_, ?_, ?_, ?_, z.soa, ?_, ?_, ?_, ?_, ?_⟩
    iterate 6 rw [frame, ← ez]; rfl
    · rw [← ez]; rfl
    · rw [← ez]; exact restartSoa_seen false s.yard.soa
    · intro h; rw [← ez]; exact congrArg (Option.map Day.noOpen) h
    · intro d h
      rw [← ez]
      exact ⟨d.noOpen, congrArg (Option.map Day.noOpen) h, rfl, d.noOpen_get⟩
    · have started : z.notices = ⟨[⟨.powerRestored, 0, none, none, 0, 1⟩], 0⟩ := by rw [← ez]; rfl
      have pending : z.soa.pending = s.yard.soa.pending := by rw [← ez]; rfl
      have rem : z.soa.remainders = s.yard.soa.remainders := by rw [← ez]; rfl
      have bound : z.yds.boundMeters = Meter.list.filter s.yard.yds.meterBound := by rw [← ez]; rfl
      have limit : z.yds.balanceLimit = s.yard.yds.balanceLimit := by rw [← ez]; rfl
      have clock : z.gdc.clock = none := by rw [← ez]; rfl
      have book : z.soa.book = s.yard.soa.book := by rw [← ez]; rfl
      have corrections : z.soa.corrections = s.yard.soa.corrections := by rw [← ez]; rfl
      have same : ({ makeDue z with soa := z.soa, notices := ⟨[⟨.powerRestored, 0, none, none, 0, 1⟩], 0⟩ } : Yard) = z := by
        rw [← started, frame]
      refine ⟨fun h => ?_, fun p h => ⟨cursor, fun hw => ?_, fun hw hg => ?_, fun hw hg hr => ?_,
        congrArg (fun w => (makeDue w).soa) same.symm, congrArg (fun w => (makeDue w).notices) same.symm⟩⟩
      · rw [makeDue_none (pending.trans h)]
        exact ⟨rfl, started⟩
      · rw [makeDue_waits (pending.trans h) (by rwa [corrections])]
        exact ⟨rfl, started⟩
      · rw [← bound] at hg ⊢
        simp only [← Day.gives_eq] at hg ⊢
        obtain ⟨d, rs, ed, er, e⟩ := makeDue_hands (pending.trans h) (by rwa [corrections]) hg
        rw [e]
        refine ⟨⟨d, rfl, ed⟩, rfl, ?_, started⟩
        rw [← er, ← rem, List.map_append]
      · rw [← bound] at hg
        simp only [← Day.gives_eq] at hg
        obtain ⟨e, est, ed, eq⟩ := makeDue_closes (pending.trans h) (by rwa [corrections]) hg (rem.trans hr) (by rw [← ez]; rfl)
        refine ⟨e, est, ed, ?_, fun v => ?_, fun v hv hb => ?_⟩
        · rw [eq, ← book]
        · rw [eq, ← started, clock, limit]
          exact closeNotices_within _ v
        · rw [eq, ← started, clock, limit, hv]
          exact closeNotices_beyond _ hb

end Sys2Proof.Machine
end

section
/-! SUPPORT. What COMMIT hands to the quantities, the stocks and the movements (R23, R24, R30, R138). -/

namespace Sys2Proof.Machine

/-! ### What a change of source leaves of the quantity records -/

theorem Yard.hsu_of_unmoved {y z : Yard} (h : z.unmoved = y.unmoved) : z.hsu = y.hsu := (congrArg Yard.hsu h :)

theorem Yard.qpr_of_unmoved {y z : Yard} (h : z.unmoved = y.unmoved) : z.qpr = y.qpr := (congrArg Yard.qpr h :)

section
variable (y : Yard)

@[simp] theorem assess_qpr (h : Holder) : (assess h y).qpr = y.qpr :=
  (Yard.qpr_of_unmoved (mvsReading_unmoved _ h)).trans rfl

@[simp] theorem formStock_qpr (h : Holder) : (formStock h y).qpr = y.qpr := by
  obtain ⟨-, ⟨j, -, e⟩ | ⟨-, e⟩⟩ | ⟨-, e⟩ := formStock_cases h y
  · rw [e]
  · rw [e, assess_qpr]
  · rw [e]

@[simp] theorem formAll_qpr (hs : List Holder) : (formAll hs y).qpr = y.qpr :=
  foldl_keeps Yard.qpr (fun z h => formStock_qpr z h) hs y

@[simp] theorem pressSource_qpr (h : Holder) (s : Option Sampled) : (pressSource h s y).qpr = y.qpr :=
  (Yard.qpr_of_unmoved (newContribution_unmoved _ h)).trans rfl

@[simp] theorem hsuSource_qpr (q : Slot) (s : Option Sampled) : (hsuSource q s y).qpr = y.qpr := by
  cases q with
  | travel h => exact (formStock_qpr _ h).trans rfl
  | gasTemp h => exact (formStock_qpr _ h).trans rfl
  | holderPress h => exact pressSource_qpr y h s
  | baro => exact (formAll_qpr _ _).trans rfl
  | yardTemp => exact formAll_qpr y _
  | _ => rfl

end

/-! ### Quantities with no point bound (R138) -/

/-- A record at its declared value, or at NONE where it has none. -/
def QRec.declaredBy (r : QRec) (s : Substitute) : Prop :=
  r.value = s.declared ∧ r.source = if s.declared = none then .none else .declared

section
variable {y : Yard} {q k : Slot}

/-- A record put to its declared value. -/
theorem toDeclared_recs (q : Slot) (y : Yard) :
    ((toDeclared q y).qpr.recs.get q).declaredBy (y.yds.subs.get q) ∧
      ∀ k, k ≠ q → (toDeclared q y).qpr.recs.get k = y.qpr.recs.get k := by
  rw [toDeclared, handSource, hsuSource_qpr]
  simp only [Yard.updRec, Yard.updQpr, Slots.get_set]
  refine ⟨?_, fun k hk => Slots.get_set_ne _ _ hk⟩
  cases e : (y.yds.subs.get q).declared <;> simp [QRec.declaredBy, e]

/-- The test of a quantity with no point bound. -/
theorem declared_test (r : QRec) (s : Substitute) :
    (r.source == (if s.declared.isSome then .declared else .none) && r.value == s.declared) = true ↔ r.declaredBy s := by
  rw [Bool.and_eq_true, beq_iff_eq, beq_iff_eq, QRec.declaredBy]
  cases s.declared <;> simp [and_comm]

/-- A quantity declared already has its standing mark and its candidate dropped, and no more. -/
theorem unboundNow_declared (h : (y.qpr.recs.get q).declaredBy (y.yds.subs.get q)) :
    unboundNow q y = y.updRec q fun r => { r with ranOut := false, candidate := none } := by
  refine if_pos ((declared_test _ _).2 ?_)
  change QRec.declaredBy ((y.qpr.recs.set q _).get q) _
  rw [Slots.get_set]
  exact h

theorem unboundNow_undeclared (h : ¬(y.qpr.recs.get q).declaredBy (y.yds.subs.get q)) :
    unboundNow q y = toDeclared q (y.updRec q fun r => { r with ranOut := false, candidate := none }) := by
  refine if_neg fun c => h ?_
  have c : QRec.declaredBy ((y.qpr.recs.set q _).get q) _ := (declared_test _ _).1 c
  rw [Slots.get_set] at c
  exact c

/-- A quantity with no point bound is at its declared value already, or put there; no other quantity is touched. -/
theorem unboundNow_recs (q : Slot) (y : Yard) :
    ((unboundNow q y).qpr.recs.get q).declaredBy (y.yds.subs.get q) ∧
      ∀ k, k ≠ q → (unboundNow q y).qpr.recs.get k = y.qpr.recs.get k := by
  by_cases h : (y.qpr.recs.get q).declaredBy (y.yds.subs.get q)
  · rw [unboundNow_declared h]
    refine ⟨?_, fun k hk => Slots.get_set_ne _ _ hk⟩
    change QRec.declaredBy ((y.qpr.recs.set q _).get q) _
    rw [Slots.get_set]
    exact h
  · rw [unboundNow_undeclared h]
    obtain ⟨d, o⟩ := toDeclared_recs q (y.updRec q fun r => { r with ranOut := false, candidate := none })
    exact ⟨d, fun k hk => (o k hk).trans (Slots.get_set_ne _ _ hk)⟩

theorem unboundNow_yds (q : Slot) (y : Yard) : (unboundNow q y).yds = y.yds :=
  Yard.yds_of_described (unboundNow_described y q)

/-- Each quantity of a list put so is declared, and no other is touched. -/
theorem unboundNow_fold_recs (qs : List Slot) (y : Yard) (k : Slot) :
    (k ∈ qs → ((qs.foldl (fun y q => unboundNow q y) y).qpr.recs.get k).declaredBy (y.yds.subs.get k)) ∧
      (k ∉ qs → (qs.foldl (fun y q => unboundNow q y) y).qpr.recs.get k = y.qpr.recs.get k) := by
  induction qs generalizing y with
  | nil => exact ⟨fun h => absurd h List.not_mem_nil, fun _ => rfl⟩
  | cons q qs ih =>
    obtain ⟨inn, out⟩ := ih (unboundNow q y)
    rw [unboundNow_yds] at inn
    obtain ⟨own, other⟩ := unboundNow_recs q y
    rw [List.foldl_cons]
    refine ⟨fun m => ?_, fun m => ?_⟩
    · by_cases mk : k ∈ qs
      · exact inn mk
      · obtain rfl : k = q := (List.mem_cons.1 m).resolve_right mk
        rw [out mk]
        exact own
    · obtain ⟨nk, mk⟩ := not_or.1 (mt List.mem_cons.2 m)
      rw [out mk, other k nk]

/-- Quantities that are all declared already: their records alone change, in neither value nor source. -/
theorem unboundNow_fold_declared (qs : List Slot) (y : Yard)
    (h : ∀ q ∈ qs, (y.qpr.recs.get q).declaredBy (y.yds.subs.get q)) :
    ∃ recs : Slots QRec, qs.foldl (fun y q => unboundNow q y) y = { y with qpr := { y.qpr with recs := recs } } ∧
      ∀ k, (recs.get k).value = (y.qpr.recs.get k).value := by
  induction qs generalizing y with
  | nil => exact ⟨y.qpr.recs, rfl, fun _ => rfl⟩
  | cons q qs ih =>
    obtain ⟨hq, hqs⟩ := List.forall_mem_cons.1 h
    rw [List.foldl_cons, unboundNow_declared hq]
    have same (k : Slot) : ((y.updRec q fun r => { r with ranOut := false, candidate := none }).qpr.recs.get k).value =
        (y.qpr.recs.get k).value ∧
        ((y.updRec q fun r => { r with ranOut := false, candidate := none }).qpr.recs.get k).source =
          (y.qpr.recs.get k).source := by
      by_cases e : k = q
      · subst e; simp [Yard.updRec, Yard.updQpr]
      · simp [Yard.updRec, Yard.updQpr, Slots.get_set_ne _ _ e]
    obtain ⟨recs, e, v⟩ := ih (y.updRec q fun r => { r with ranOut := false, candidate := none })
      fun k m => ⟨(same k).1.trans (hqs k m).1, (same k).2.trans (hqs k m).2⟩
    exact ⟨recs, e, fun k => (v k).trans (same k).1⟩

end

/-! ### The stocks handed at COMMIT -/

/-- The stocks of some present holders formed: HSU alone is said, each computation handed or the status UNKNOWN. -/
theorem formAll_hsu (hs : List Holder) (y : Yard) (hc : y.yds.desc = .committed)
    (hp : ∀ h ∈ hs, y.yds.holderPresent h = true) :
    ∃ t : Holders HolderDyn,
      (formAll hs y).hsu = { y.hsu with stockJobs := y.hsu.stockJobs ++ hs.filterMap (liveJob y), holders := t } ∧
      ∀ h, t.get h = if h ∈ hs ∧ liveJob y h = none then { y.hsu.holders.get h with status := .unknown }
        else y.hsu.holders.get h := by
  induction hs generalizing y with
  | nil => exact ⟨y.hsu.holders, by simp [formAll], by simp⟩
  | cons k hs ih =>
    obtain ⟨hk, hp⟩ := List.forall_mem_cons.1 hp
    rw [formAll, List.foldl_cons, ← formAll]
    cases j : liveJob y k with
    | some x =>
      rw [formStock_job hc hk j]
      obtain ⟨t, e, g⟩ := ih { y with hsu := { y.hsu with stockJobs := y.hsu.stockJobs ++ [x] } } hc hp
      refine ⟨t, ?_, fun h => (g h).trans ?_⟩
      · rw [e, List.filterMap_cons_some j]
        simp only [List.append_assoc, List.singleton_append]
        rfl
      · have same : liveJob { y with hsu := { y.hsu with stockJobs := y.hsu.stockJobs ++ [x] } } h = liveJob y h := rfl
        rw [same]
        by_cases c : h = k
        · subst c; simp [j]
        · simp [c]
    | none =>
      have assessed : formStock k y = assess k y := by simp [formStock, isCommitted_of hc, hk, j]
      rw [assessed]
      have hsu : (assess k y).hsu = { y.hsu with
          holders := y.hsu.holders.set k { y.hsu.holders.get k with status := .unknown } } :=
        (Yard.hsu_of_unmoved (mvsReading_unmoved _ k)).trans rfl
      have yds : (assess k y).yds = y.yds := Yard.yds_of_described (described_of_standing (assess_standing y k))
      have same : liveJob (assess k y) = liveJob y := funext fun h =>
        liveJob_congr yds (by rw [hsu]) (by rw [assess_qpr]) (by rw [hsu]; exact (unknown_inputs h).1)
          (by rw [hsu]; exact (unknown_inputs h).2)
      obtain ⟨t, e, g⟩ := ih (assess k y) (by rw [yds]; exact hc) (by rw [yds]; exact hp)
      refine ⟨t, ?_, fun h => (g h).trans ?_⟩
      · rw [e, same, hsu, List.filterMap_cons_none j]
      · rw [same, hsu]
        by_cases c : h = k
        · subst c; simp [j]
        · simp [c, Holders.get_set_ne _ _ c]

end Sys2Proof.Machine
end

section
/-! SUPPORT. Readings while the order list is empty: they move nothing but the previous travel and the trip (R45, R61). -/

namespace Sys2Proof.Machine

section
variable {y : Yard} {h : Holder}

theorem activeOrder_idle {m : Mvs} (ho : m.orders = []) (h : Holder) : m.activeOrder h = none := by
  simp [Mvs.activeOrder, ho]

theorem tryActivate_idle (ho : y.mvs.orders = []) (h : Holder) : tryActivate h y = (y, []) := by
  have none (l : Holder) : y.mvs.nextEligible l = none := by simp [Mvs.nextEligible, ho]
  unfold tryActivate
  dsimp only
  split
  · rw [none]
  · rfl

theorem whenReading_idle (ho : y.mvs.orders = []) (h : Holder) : whenReading h y = y := by
  have f : y.mvs.orders.filter (whenMet h (travelOf y h)) = [] := by simp [ho]
  have m (f : Order → Order) : (y.updMvs fun m => { m with orders := m.orders.map f }) = y := by
    simp only [Yard.updMvs, ho, List.map_nil]
    rw [← ho]
  have done : doAll [Deed.activate h] y = (y, []) := by
    have : doAll [Deed.activate h] y = ((tryActivate h y).1, (tryActivate h y).2 ++ []) := rfl
    rw [this, tryActivate_idle ho]; rfl
  unfold whenReading
  dsimp only
  rw [f, m, List.map_nil, List.nil_append, work_eq, done]
  exact workN_nil _ _

/-- The yard trips with no order to end (R62). -/
theorem tripYard_idle (ho : y.mvs.orders = []) (c : TripCause) :
    tripYard c y = raiseNotice .trip 0 (c.code : Int)
      { y with mvs := { y.mvs with tripped := true, tripCause := some c } } := by
  have none : (raiseNotice .trip 0 (c.code : Int)
      (y.updMvs fun m => { m with tripped := true, tripCause := some c })).mvs.orders = [] := ho
  unfold tripYard
  dsimp only
  rw [none]
  rfl

theorem overTop_cases (h : Holder) (y : Yard) : overTop h y = y ∨ overTop h y = tripYard (.overTop h) y := by
  unfold overTop
  split
  · split
    · split
      · exact .inr rfl
      · exact .inl rfl
    · exact .inl rfl
  · exact .inl rfl

/-- A holder below its full stroke is not over its top (R61). -/
theorem overTop_below (hb : ∀ t g, travelOf y h = some t → y.yds.geometry.get h = some g → t < g.full) :
    overTop h y = y := by
  unfold overTop
  split
  · split
    · next t g et eg => rw [if_neg (by have := hb t g et eg; omega)]
    · rfl
  · rfl

/-- A reading with no order in the list makes the over-top test, and writes the previous travel (R48, R61). -/
theorem mvsReading_idle (ho : y.mvs.orders = []) (h : Holder) :
    mvsReading h y = (overTop h y).updMvs fun m => { m with prevTravel := m.prevTravel.set h (travelOf y h) } := by
  have orders : (overTop h y).mvs.orders = [] := by
    obtain e | e := overTop_cases h y
    · rw [e]; exact ho
    · rw [e, tripYard_idle ho]; exact ho
  have travel : travelOf (overTop h y) h = travelOf y h := by
    have hsu := Yard.hsu_of_unmoved (overTop_unmoved y h)
    simp only [travelOf, hsu]
  unfold mvsReading
  rw [activeOrder_idle ho]
  dsimp only
  rw [whenReading_idle orders, travel]

theorem newContribution_idle (ho : y.mvs.orders = []) (h : Holder) : newContribution h y = y := by
  simp [newContribution, drawnBy, activeOrder_idle ho]

end

/-! ### The notices of idle readings -/

/-- A queue of 16 notices at the most, or 17 with a TRIP among them. -/
def Notices.roomy (q : Notices) : Prop :=
  q.queue.length ≤ 16 ∨ q.queue.length ≤ 17 ∧ ∃ n ∈ q.queue, n.isFor .trip 0 = true

/-- A TRIP raised takes one place at the most. -/
theorem Notices.roomy.raise_trip {q : Notices} (h : q.roomy) (v : Int) (day period : Option Nat) :
    (q.raise .trip 0 v day period).roomy := by
  obtain ⟨⟨n, m, f⟩, e⟩ | ⟨none, l, e⟩ | ⟨none, l, e⟩ := q.raise_cases .trip 0 v day period <;> rw [e]
  · have kept : (if n.isFor .trip 0 then n.merge v else n).isFor .trip 0 = true := by rw [if_pos f]; exact f
    refine .inr ⟨?_, _, List.mem_map_of_mem m, kept⟩
    rw [List.length_map]
    obtain h | ⟨h, -⟩ := h <;> omega
  · have short : q.queue.length ≤ 16 := h.resolve_right fun ⟨_, n, m, f⟩ => by simp [none n m] at f
    exact .inr ⟨by simp; omega, _, List.mem_append_right _ (List.mem_singleton_self _), rfl⟩
  · obtain h | ⟨h, -⟩ := h <;> omega

/-- The order list is empty, the scan sequencer as given, and the notice queue roomy on a premise. -/
structure Yard.Idle (s : Scs) (p : Prop) (y : Yard) : Prop where
  orders : y.mvs.orders = []
  scs : y.scs = s
  notices : p → y.notices.roomy

section
variable {s : Scs} {p : Prop} {y : Yard} {h : Holder}

theorem Yard.Idle.mvsReading (i : y.Idle s p) (h : Holder) : (mvsReading h y).Idle s p := by
  rw [mvsReading_idle i.orders]
  obtain e | e := overTop_cases h y
  · rw [e]; exact ⟨i.orders, i.scs, i.notices⟩
  · rw [e, tripYard_idle i.orders]
    exact ⟨i.orders, i.scs, fun c => (i.notices c).raise_trip _ _ _⟩

theorem Yard.Idle.updHolder (i : y.Idle s p) (h : Holder) (f : HolderDyn → HolderDyn) : (y.updHolder h f).Idle s p :=
  ⟨i.orders, i.scs, i.notices⟩

theorem Yard.Idle.newContribution (i : y.Idle s p) (h : Holder) : (newContribution h y).Idle s p := by
  rw [newContribution_idle i.orders]
  exact i

theorem Yard.Idle.updRec (i : y.Idle s p) (q : Slot) (f : QRec → QRec) : (y.updRec q f).Idle s p :=
  ⟨i.orders, i.scs, i.notices⟩

theorem Yard.Idle.formStock (i : y.Idle s p) (h : Holder) : (formStock h y).Idle s p := by
  obtain ⟨-, ⟨j, -, e⟩ | ⟨-, e⟩⟩ | ⟨-, e⟩ := formStock_cases h y
  · rw [e]; exact ⟨i.orders, i.scs, i.notices⟩
  · rw [e]; exact (i.updHolder h _).mvsReading h
  · rw [e]; exact i

theorem Yard.Idle.formAll (i : y.Idle s p) (hs : List Holder) : (formAll hs y).Idle s p := by
  induction hs generalizing y with
  | nil => exact i
  | cons h hs ih => exact ih (i.formStock h)

theorem Yard.Idle.hsuSource (i : y.Idle s p) (q : Slot) (v : Option Sampled) : (hsuSource q v y).Idle s p := by
  cases q with
  | travel h => exact (i.updHolder h _).formStock h
  | gasTemp h => exact (i.updHolder h _).formStock h
  | holderPress h =>
    refine (?_ : (pressSource h v y).Idle s p)
    exact (i.updHolder h _).newContribution h
  | baro => exact Yard.Idle.formAll (y := y.updHsu fun u => { u with baro := v }) ⟨i.orders, i.scs, i.notices⟩ _
  | yardTemp => exact i.formAll _
  | _ => exact i

theorem Yard.Idle.unboundNow (i : y.Idle s p) (q : Slot) : (unboundNow q y).Idle s p := by
  by_cases d : (y.qpr.recs.get q).declaredBy (y.yds.subs.get q)
  · rw [unboundNow_declared d]; exact i.updRec q _
  · rw [unboundNow_undeclared d]
    exact ((i.updRec q _).updRec q _).hsuSource q _

theorem Yard.Idle.unboundAll (i : y.Idle s p) : (unboundAll y).Idle s p := by
  have fold (qs : List Slot) (z : Yard) (iz : z.Idle s p) : (qs.foldl (fun y q => Machine.unboundNow q y) z).Idle s p := by
    induction qs generalizing z with
    | nil => exact iz
    | cons q qs ih => exact ih _ (iz.unboundNow q)
  exact fold _ _ i

end

/-- The stocks of holders formed below their full stroke, the order list empty: of MVS the previous travel of those that stand
UNKNOWN is written, and the notices stand. -/
theorem formAll_idle_mvs (hs : List Holder) (y : Yard) (ho : y.mvs.orders = []) (hc : y.yds.desc = .committed)
    (hp : ∀ h ∈ hs, y.yds.holderPresent h = true)
    (hb : ∀ h ∈ hs, liveJob y h = none → ∀ t g, travelOf y h = some t → y.yds.geometry.get h = some g → t < g.full) :
    ∃ t : Holders (Option Int), (formAll hs y).mvs = { y.mvs with prevTravel := t } ∧
      ∀ h, t.get h = if h ∈ hs ∧ liveJob y h = none then travelOf y h else y.mvs.prevTravel.get h := by
  induction hs generalizing y with
  | nil => exact ⟨y.mvs.prevTravel, rfl, by simp⟩
  | cons k hs ih =>
    obtain ⟨hk, hp⟩ := List.forall_mem_cons.1 hp
    obtain ⟨hbk, hb⟩ := List.forall_mem_cons.1 hb
    rw [formAll, List.foldl_cons, ← formAll]
    cases j : liveJob y k with
    | some x =>
      rw [formStock_job hc hk j]
      obtain ⟨t, e, g⟩ := ih { y with hsu := { y.hsu with stockJobs := y.hsu.stockJobs ++ [x] } } ho hc hp hb
      refine ⟨t, e, fun h => (g h).trans ?_⟩
      have same : liveJob { y with hsu := { y.hsu with stockJobs := y.hsu.stockJobs ++ [x] } } h = liveJob y h := rfl
      rw [same]
      by_cases c : h = k
      · subst c; simp [j]
      · simp only [List.mem_cons, c, false_or]; rfl
    | none =>
      have travel (h : Holder) : travelOf (y.updHolder k fun r => { r with status := .unknown }) h = travelOf y h :=
        congrArg (Option.map Sampled.value) (unknown_inputs (y := y) (h := k) h).1
      have assessed : formStock k y = { y with
          hsu := { y.hsu with holders := y.hsu.holders.set k { y.hsu.holders.get k with status := .unknown } }
          mvs := { y.mvs with prevTravel := y.mvs.prevTravel.set k (travelOf y k) } } := by
        have a : formStock k y = assess k y := by simp [formStock, isCommitted_of hc, hk, j]
        rw [a, assess, mvsReading_idle (y := y.updHolder k _) ho,
          overTop_below fun t g et eg => hbk j t g ((travel k).symm.trans et) eg, travel]
        rfl
      rw [assessed]
      generalize ez : ({ y with
          hsu := { y.hsu with holders := y.hsu.holders.set k { y.hsu.holders.get k with status := .unknown } }
          mvs := { y.mvs with prevTravel := y.mvs.prevTravel.set k (travelOf y k) } } : Yard) = z
      have same : liveJob z = liveJob y := funext fun h =>
        liveJob_congr (by rw [← ez]) (by rw [← ez]) (by rw [← ez]) (by rw [← ez]; exact (unknown_inputs h).1)
          (by rw [← ez]; exact (unknown_inputs h).2)
      have travelz (h : Holder) : travelOf z h = travelOf y h := by rw [← ez]; exact travel h
      obtain ⟨t, e, g⟩ := ih z (by rw [← ez]; exact ho) (by rw [← ez]; exact hc) (by rw [← ez]; exact hp)
        (by simp only [same, travelz]; rw [← ez]; exact hb)
      refine ⟨t, by rw [e, ← ez], fun h => (g h).trans ?_⟩
      rw [same, travelz, ← ez]
      by_cases c : h = k
      · subst c; simp [j]
      · simp [c, Holders.get_set_ne _ _ c]

end Sys2Proof.Machine
end

section
/-! SUPPORT. COMMIT in the order of its blocks: the notices, the districts and the day it works on (R9, R10, R94, R146, R159). -/

namespace Sys2Proof.Machine

/-! ### Notices raised one after the other (R168) -/

section
variable {q : Notices} {k : NoticeKind} {o : Nat} {v : Int} {day period : Option Nat}

theorem Notices.raise_length : (q.raise k o v day period).queue.length ≤ q.queue.length + 1 := by
  obtain ⟨-, e⟩ | ⟨-, -, e⟩ | ⟨-, -, e⟩ := q.raise_cases k o v day period <;> rw [e] <;> simp

/-- A notice raised with room in the queue stands there with its datum. -/
theorem Notices.raise_adds (h : q.queue.length < 32) :
    ∃ n ∈ (q.raise k o v day period).queue, n.kind = k ∧ n.object = o ∧ n.datum = v := by
  obtain ⟨⟨n, m, f⟩, e⟩ | ⟨-, -, e⟩ | ⟨-, l, -⟩ := q.raise_cases k o v day period
  · rw [e]
    refine ⟨_, List.mem_map_of_mem m, ?_⟩
    rw [if_pos f]
    simp only [Notice.isFor, Bool.and_eq_true, beq_iff_eq] at f
    exact ⟨f.1, f.2, rfl⟩
  · rw [e]
    exact ⟨_, List.mem_append_right _ (List.mem_singleton_self _), rfl, rfl, rfl⟩
  · omega

/-- A notice raised for another object leaves a notice as it is. -/
theorem Notices.mem_raise {n : Notice} (m : n ∈ q.queue) (h : n.isFor k o = false) :
    n ∈ (q.raise k o v day period).queue := by
  obtain ⟨-, e⟩ | ⟨-, -, e⟩ | ⟨-, -, e⟩ := q.raise_cases k o v day period <;> rw [e]
  · have kept : n = if n.isFor k o then n.merge v else n := by rw [h]; rfl
    rw [kept]
    exact List.mem_map_of_mem (f := fun n => if n.isFor k o then n.merge v else n) m
  · exact List.mem_append_left _ m
  · exact m

end

/-! ### The districts at COMMIT (R94) -/

/-- A district at an accepted COMMIT: no commanded set-point, and adopted where its booster is reported. -/
def DistrictDyn.atCommit (r : DistrictDyn) : DistrictDyn :=
  let r := { r with commanded := none }
  if r.adoption then
    match r.boosterRep with
    | .running => { r with adoption := false, adoptWait := .idle, feed := .boosted, hyst := 0 }
    | .stopped => { r with adoption := false, adoptWait := .idle, feed := .direct }
    | .fault => { r with adoption := false, adoptWait := .idle, feed := .direct, failed := true }
    | .unknown => r
  else r

/-- A district whose booster is found in FAULT at its adoption. -/
def DistrictDyn.faulty (r : DistrictDyn) : Bool := r.adoption && r.boosterRep == .fault

/-- One district at an accepted COMMIT. -/
def districtCommit (y : Yard) (d : District) : Yard :=
  let y := y.updDistrict d fun r => { r with commanded := none }
  let r := y.dgu.districts.get d
  if r.adoption then adoptFrom d r.boosterRep y else y

theorem dguCommit_eq (y : Yard) : dguCommit y = y.yds.presentDistricts.foldl districtCommit y := rfl

/-- One district at COMMIT: its record, and BOOSTER FAILED where its booster is in FAULT. -/
theorem districtCommit_eq (y : Yard) (d : District) :
    districtCommit y d =
      { y with
        dgu := { y.dgu with districts := y.dgu.districts.set d (y.dgu.districts.get d).atCommit }
        notices := if (y.dgu.districts.get d).faulty then
            y.notices.raise .boosterFailed d.number 4 (y.gdc.clock.map (·.day)) (y.gdc.clock.map (·.period))
          else y.notices } := by
  unfold districtCommit DistrictDyn.atCommit DistrictDyn.faulty
  simp only [Yard.updDistrict, Yard.updDgu, Districts.get_set]
  cases a : (y.dgu.districts.get d).adoption
  · rfl
  · cases b : (y.dgu.districts.get d).boosterRep <;>
      simp [adoptFrom, raiseBooster, raiseNotice, Yard.updDistrict, Yard.updDgu, Districts.set_set, BoosterCause.code]

theorem district_number_injective {a b : District} (h : a.number = b.number) : a = b := by
  simpa using congrArg districtOf h

/-- Some districts at COMMIT, each once. -/
theorem districtCommit_fold (ds : List District) (y : Yard) (nd : ds.Nodup) :
    ∃ (t : Districts DistrictDyn) (q : Notices),
      ds.foldl districtCommit y = { y with dgu := { y.dgu with districts := t }, notices := q } ∧
      (∀ d, t.get d = if d ∈ ds then (y.dgu.districts.get d).atCommit else y.dgu.districts.get d) ∧
      (∀ n ∈ y.notices.queue, (∀ d ∈ ds, n.isFor .boosterFailed d.number = false) → n ∈ q.queue) ∧
      (y.notices.queue.length + ds.length ≤ 32 → ∀ d ∈ ds, (y.dgu.districts.get d).faulty = true →
        ∃ n ∈ q.queue, n.kind = .boosterFailed ∧ n.object = d.number ∧ n.datum = 4) := by
  induction ds generalizing y with
  | nil =>
    exact ⟨y.dgu.districts, y.notices, rfl, by simp, fun n m _ => m, fun _ d m => absurd m List.not_mem_nil⟩
  | cons x ds ih =>
    obtain ⟨hx, nd⟩ := List.nodup_cons.1 nd
    rw [List.foldl_cons, districtCommit_eq]
    generalize ez : ({ y with
        dgu := { y.dgu with districts := y.dgu.districts.set x (y.dgu.districts.get x).atCommit }
        notices := if (y.dgu.districts.get x).faulty then
            y.notices.raise .boosterFailed x.number 4 (y.gdc.clock.map (·.day)) (y.gdc.clock.map (·.period))
          else y.notices } : Yard) = z
    obtain ⟨t, q, e, g, kept, added⟩ := ih z nd
    have other {d : District} (h : d ≠ x) : z.dgu.districts.get d = y.dgu.districts.get d := by
      rw [← ez]; exact Districts.get_set_ne _ _ h
    have here : z.dgu.districts.get x = (y.dgu.districts.get x).atCommit := by rw [← ez]; exact Districts.get_set _ _ _
    have number {d : District} {n : Notice} (md : d ∈ ds) (ok : n.object = x.number) :
        n.isFor .boosterFailed d.number = false := by
      have : d.number ≠ x.number := fun c => hx (district_number_injective c ▸ md)
      simp [Notice.isFor, ok, this.symm]
    refine ⟨t, q, by rw [e, ← ez], fun d => (g d).trans ?_, fun n m free => ?_, fun room d md fd => ?_⟩
    · by_cases c : d = x
      · subst c; simp [hx, here]
      · simp [c, other c]
    · obtain ⟨fx, fds⟩ := List.forall_mem_cons.1 free
      refine kept n ?_ fds
      rw [← ez]
      dsimp only
      split
      · exact Notices.mem_raise m fx
      · exact m
    · have short : z.notices.queue.length ≤ y.notices.queue.length + 1 := by
        rw [← ez]
        dsimp only
        split
        · exact Notices.raise_length
        · omega
      rw [List.length_cons] at room
      by_cases c : d = x
      · subst c
        have raised : z.notices = y.notices.raise .boosterFailed d.number 4 (y.gdc.clock.map (·.day))
            (y.gdc.clock.map (·.period)) := by rw [← ez]; exact if_pos fd
        obtain ⟨n, m, ek, eo, ev⟩ := Notices.raise_adds (q := y.notices) (k := .boosterFailed) (o := d.number) (v := 4)
          (day := y.gdc.clock.map (·.day)) (period := y.gdc.clock.map (·.period)) (by omega)
        exact ⟨n, kept n (by rw [raised]; exact m) fun d' md' => number md' eo, ek, eo, ev⟩
      · refine added (by omega) d ((List.mem_cons.1 md).resolve_left c) ?_
        rw [other c]
        exact fd

/-! ### The day at COMMIT (R146, R159) -/

theorem freshOpening_eq (y : Yard) :
    freshOpening y = ((y.yds.presentHolders.map fun h => (y.hsu.holders.get h).stock.getD 0).sum,
      y.yds.presentHolders.any fun h => decide ((y.hsu.holders.get h).status ≠ .good)) := by
  have fold (hs : List Holder) (a : Int × Bool) :
      hs.foldl (fun a h => (a.1 + (y.hsu.holders.get h).stock.getD 0, a.2 || (y.hsu.holders.get h).status != .good)) a =
        (a.1 + (hs.map fun h => (y.hsu.holders.get h).stock.getD 0).sum,
          a.2 || hs.any fun h => decide ((y.hsu.holders.get h).status ≠ .good)) := by
    induction hs generalizing a with
    | nil => simp
    | cons h hs ih =>
      rw [List.foldl_cons, ih]
      have good : ((y.hsu.holders.get h).status != .good) = decide ((y.hsu.holders.get h).status ≠ .good) := by
        cases (y.hsu.holders.get h).status <;> rfl
      simp only [List.map_cons, List.sum_cons, List.any_cons, Int.add_assoc, Bool.or_assoc, good]
  exact (fold _ _).trans (by simp)

theorem soaCommit_frame (y : Yard) : soaCommit y = { y with soa := (soaCommit y).soa } := by
  unfold soaCommit
  split
  · split <;> rfl
  · rfl

/-! ### COMMIT (R9, R10) -/

/-- The description formed at COMMIT, before the blocks take up their work. -/
def Yard.formed (y : Yard) : Yard :=
  y.updYds fun d => { d with desc := .committed, geometry := formGeometry d.holders }

/-- The yard once the quantities and the stocks are taken up. -/
def Yard.stocked (y : Yard) : Yard := hsuCommit (unboundAll y.formed)

theorem commitYard_eq (y : Yard) : commitYard y = soaCommit (dguCommit y.stocked) := rfl

theorem commit_ok {y : Yard} (ho : y.yds.desc = .opened) (hf : commitFault y = none) :
    commit y = (commitYard y, okAnswer) := by
  simp only [commit, not_isCommitted_of ho, hf]; rfl

theorem commit_refused {y : Yard} {f : CheckFault} (ho : y.yds.desc = .opened) (hf : commitFault y = some f) :
    commit y = (y, .refuse .invalid [.u8 0, .u8 f.cls.code, .u8 f.object, .u8 f.check]) := by
  simp only [commit, not_isCommitted_of ho, hf]; rfl

theorem Slot.mem_list (q : Slot) : q ∈ Slot.list := by
  cases q with
  | travel h | gasTemp h | holderPress h => cases h <;> decide
  | outletOf d | farPress d | meter d => cases d <;> decide
  | _ => decide

/-- The quantities that COMMIT puts to their declared value. -/
def Yds.unboundSlots (d : Yds) : List Slot := Slot.list.filter fun q => d.slotPresent q && !(d.slotBound q)

theorem Yds.mem_unboundSlots {d : Yds} {q : Slot} :
    q ∈ d.unboundSlots ↔ d.slotPresent q = true ∧ d.bind.slots.get q = ⟨none, none⟩ := by
  simp only [Yds.unboundSlots, List.mem_filter, Slot.mem_list, true_and, Bool.and_eq_true, Bool.not_eq_true',
    Yds.slotBound, Bool.or_eq_false_iff, Option.isSome_eq_false_iff, Option.isNone_iff_eq_none]
  refine and_congr_right fun _ => ?_
  obtain ⟨a, b⟩ := d.bind.slots.get q
  simp

section
variable (y : Yard)

theorem Yard.stocked_standing : y.stocked.standing = y.formed.standing := by
  simp [Yard.stocked, hsuCommit]

theorem Yard.stocked_yds : y.stocked.yds = y.formed.yds := (congrArg Yard.yds y.stocked_standing :)
theorem Yard.stocked_gdc : y.stocked.gdc = y.gdc := (congrArg Yard.gdc y.stocked_standing :)
theorem Yard.stocked_ylc : y.stocked.ylc = y.ylc := (congrArg Yard.ylc y.stocked_standing :)
theorem Yard.stocked_dgu : y.stocked.dgu = y.dgu := (congrArg Yard.dgu y.stocked_standing :)
theorem Yard.stocked_soa : y.stocked.soa = y.soa := (congrArg Yard.soa y.stocked_standing :)
theorem Yard.stocked_coupled : y.stocked.mvs.coupled = y.mvs.coupled :=
  (congrArg (fun z : Yard => z.mvs.coupled) y.stocked_standing :)
theorem Yard.stocked_scan : y.stocked.scs.roster = y.scs.roster ∧ y.stocked.scs.loads = y.scs.loads :=
  ⟨(congrArg (fun z : Yard => z.scs.roster) y.stocked_standing :),
    (congrArg (fun z : Yard => z.scs.loads) y.stocked_standing :)⟩
theorem Yard.stocked_records : y.stocked.qpr.ring = y.qpr.ring ∧ y.stocked.qpr.current = y.qpr.current :=
  ⟨(congrArg (fun z : Yard => z.qpr.ring) y.stocked_standing :),
    (congrArg (fun z : Yard => z.qpr.current) y.stocked_standing :)⟩

/-- What is committed is the stocked yard with its districts, its notices and its day taken up. -/
theorem commitYard_frame :
    ∃ (t : Districts DistrictDyn) (q : Notices) (u : Soa),
      commitYard y = { y.stocked with dgu := { y.dgu with districts := t }, notices := q, soa := u } ∧
      u = (soaCommit { y.stocked with dgu := { y.dgu with districts := t }, notices := q }).soa ∧
      (∀ d, t.get d = if y.yds.districts.get d ≠ none then (y.dgu.districts.get d).atCommit else y.dgu.districts.get d) ∧
      (y.stocked.notices.queue.length ≤ 17 → ∀ d, y.yds.districts.get d ≠ none → (y.dgu.districts.get d).faulty = true →
        ∃ n ∈ q.queue, n.kind = .boosterFailed ∧ n.object = d.number ∧ n.datum = 4) := by
  have present (d : District) : d ∈ y.stocked.yds.presentDistricts ↔ y.yds.districts.get d ≠ none := by
    rw [y.stocked_yds]
    refine List.mem_filter.trans ?_
    simp only [District.mem_list, true_and, Yds.districtPresent, Option.isSome_iff_ne_none]
    rfl
  have few : y.stocked.yds.presentDistricts.length ≤ 8 := List.length_filter_le _ _
  have nd : y.stocked.yds.presentDistricts.Nodup := List.Nodup.filter _ (by decide)
  obtain ⟨t, q, e, g, -, added⟩ := districtCommit_fold _ y.stocked nd
  rw [y.stocked_dgu] at e g added
  refine ⟨t, q, _, ?_, rfl, fun d => (g d).trans (by simp only [present]), fun hn d hd fd => ?_⟩
  · rw [commitYard_eq, soaCommit_frame, dguCommit_eq, e]
  · exact added (by omega) d ((present d).2 hd) fd

end

end Sys2Proof.Machine
end

section
/-! O18: COMMIT and RECOMMISSION (R5, R9 to R11, R23, R30, R94, R95, R138, R146, R159). -/

namespace Sys2Proof.Machine

/-! ### The stocks and the movements at COMMIT (R23, R30, R138) -/

section
variable (y : Yard)

theorem Yard.stocked_qpr : y.stocked.qpr = (unboundAll y.formed).qpr := formAll_qpr _ _

/-- Each quantity with no point bound stands at its declared value by the end of COMMIT; no other record is touched. -/
theorem Yard.stocked_recs (q : Slot) :
    (q ∈ y.yds.unboundSlots → (y.stocked.qpr.recs.get q).declaredBy (y.yds.subs.get q)) ∧
      (q ∉ y.yds.unboundSlots → y.stocked.qpr.recs.get q = y.qpr.recs.get q) := by
  rw [y.stocked_qpr]
  exact unboundNow_fold_recs y.yds.unboundSlots y.formed q

theorem Yard.stocked_idle {p : Prop} (ho : y.mvs.orders = []) (hn : p → y.notices.roomy) : y.stocked.Idle y.scs p :=
  Yard.Idle.formAll (Yard.Idle.unboundAll (y := y.formed) ⟨ho, rfl, hn⟩) _

end

section
variable {y : Yard}

theorem mem_presentHolders {d : Yds} {h : Holder} : h ∈ d.presentHolders ↔ d.holderPresent h = true := by
  simp [Yds.presentHolders, Holder.mem_list]

theorem presentHolders_eq (d : Yds) :
    d.presentHolders = Holder.list.filter fun h => decide (d.holders.get h ≠ none) :=
  List.filter_congr fun h _ => by rw [Bool.eq_iff_iff, decide_eq_true_iff, ← Option.isSome_iff_ne_none]; rfl

/-- Where each quantity with no point bound is declared already, the stocks are formed over the description alone. -/
theorem Yard.stocked_eq (hd : ∀ q ∈ y.yds.unboundSlots, (y.qpr.recs.get q).declaredBy (y.yds.subs.get q)) :
    ∃ recs : Slots QRec, y.stocked = formAll y.yds.presentHolders { y.formed with qpr := { y.qpr with recs := recs } } ∧
      liveJob { y.formed with qpr := { y.qpr with recs := recs } } = liveJob y.formed := by
  obtain ⟨recs, e, v⟩ := unboundNow_fold_declared y.yds.unboundSlots y.formed hd
  refine ⟨recs, ?_, funext fun h => liveJob_congr rfl rfl (v .yardTemp) rfl rfl⟩
  have u : unboundAll y.formed = { y.formed with qpr := { y.qpr with recs := recs } } := e
  rw [Yard.stocked, u]
  rfl

theorem Yard.stocked_hsu (hd : ∀ q ∈ y.yds.unboundSlots, (y.qpr.recs.get q).declaredBy (y.yds.subs.get q)) :
    ∃ t : Holders HolderDyn,
      y.stocked.hsu = { y.hsu with
        stockJobs := y.hsu.stockJobs ++ y.yds.presentHolders.filterMap (liveJob y.formed), holders := t } ∧
      ∀ h, t.get h = if y.yds.holderPresent h = true ∧ liveJob y.formed h = none then
        { y.hsu.holders.get h with status := .unknown } else y.hsu.holders.get h := by
  obtain ⟨recs, e, live⟩ := Yard.stocked_eq hd
  obtain ⟨t, et, g⟩ := formAll_hsu y.yds.presentHolders { y.formed with qpr := { y.qpr with recs := recs } } rfl
    fun h m => mem_presentHolders.1 m
  rw [live] at et g
  exact ⟨t, by rw [e, et]; rfl, fun h => (g h).trans (by simp only [mem_presentHolders]; rfl)⟩

/-- With no order in the list and no holder over its top, MVS takes over the travel of each holder that stands UNKNOWN. -/
theorem Yard.stocked_mvs (hd : ∀ q ∈ y.yds.unboundSlots, (y.qpr.recs.get q).declaredBy (y.yds.subs.get q))
    (ho : y.mvs.orders = [])
    (hb : ∀ h g t, y.yds.holders.get h = some g → (y.hsu.holders.get h).travel = some t → liveJob y.formed h = none →
      t.value < (geometryOf g).full) :
    ∃ t : Holders (Option Int), y.stocked.mvs = { y.mvs with prevTravel := t } ∧
      ∀ h, t.get h = if y.yds.holderPresent h = true ∧ liveJob y.formed h = none then
        (y.hsu.holders.get h).travel.map (·.value) else y.mvs.prevTravel.get h := by
  obtain ⟨recs, e, live⟩ := Yard.stocked_eq hd
  have below (h : Holder) (_ : h ∈ y.yds.presentHolders) (job : liveJob y.formed h = none) (v : Int) (g : Geometry)
      (ev : travelOf y h = some v) (eg : y.formed.yds.geometry.get h = some g) : v < g.full := by
    obtain ⟨t, et, rfl⟩ := Option.map_eq_some_iff.1 ev
    obtain ⟨r, er, rfl⟩ := Option.map_eq_some_iff.1 ((formGeometry_get y.yds.holders h).symm.trans eg)
    exact hb h r t er et job
  obtain ⟨t, et, g⟩ := formAll_idle_mvs y.yds.presentHolders { y.formed with qpr := { y.qpr with recs := recs } } ho rfl
    (fun h m => mem_presentHolders.1 m) (by rw [live]; exact below)
  rw [live] at g
  exact ⟨t, by rw [e, et]; rfl, fun h => (g h).trans (by simp only [mem_presentHolders]; rfl)⟩

end

/-! ### RECOMMISSION (R11, R30, R94, R95) -/

/-- A district at an accepted RECOMMISSION, with or without a booster. -/
def DistrictDyn.atRecommission (r : DistrictDyn) (b : Bool) : DistrictDyn :=
  { r with commanded := none, govPending := false, runUp := .idle, hyst := 0, feed := .direct,
           boosterCmd := if b then .none else r.boosterCmd, failed := if b then false else r.failed,
           adoption := b, adoptWait := .idle }

/-- The districts reset, each once. -/
theorem recommission_fold (b : District → Bool) (ds : List District) (y : Yard) (nd : ds.Nodup) :
    ∃ t : Districts DistrictDyn,
      ds.foldl (fun y d => y.updDistrict d fun r => r.atRecommission (b d)) y =
        { y with dgu := { y.dgu with districts := t } } ∧
      ∀ d, t.get d = if d ∈ ds then (y.dgu.districts.get d).atRecommission (b d) else y.dgu.districts.get d := by
  induction ds generalizing y with
  | nil => exact ⟨y.dgu.districts, rfl, by simp⟩
  | cons x ds ih =>
    obtain ⟨hx, nd⟩ := List.nodup_cons.1 nd
    obtain ⟨t, e, g⟩ := ih (y.updDistrict x fun r => r.atRecommission (b x)) nd
    refine ⟨t, e, fun d => (g d).trans ?_⟩
    simp only [Yard.updDistrict, Yard.updDgu]
    by_cases c : d = x
    · subst c; simp [hx]
    · simp [c, Districts.get_set_ne _ _ c]

/-- The booster of a present district stands through the fold, so each district is reset by its own. -/
theorem dguRecommission_eq (y : Yard) :
    ∃ t : Districts DistrictDyn, dguRecommission y = { y with dgu := { y.dgu with districts := t } } ∧
      ∀ d, t.get d = if d ∈ y.yds.presentDistricts then (y.dgu.districts.get d).atRecommission (y.yds.hasBooster d)
        else y.dgu.districts.get d := by
  have fold (ds : List District) (z : Yard) (hz : z.yds = y.yds) :
      ds.foldl (fun z d => z.updDistrict d fun r => r.atRecommission (z.yds.hasBooster d)) z =
        ds.foldl (fun z d => z.updDistrict d fun r => r.atRecommission (y.yds.hasBooster d)) z := by
    induction ds generalizing z with
    | nil => rfl
    | cons d ds ih => rw [List.foldl_cons, List.foldl_cons, hz]; exact ih _ hz
  obtain ⟨t, e, g⟩ := recommission_fold y.yds.hasBooster y.yds.presentDistricts y (List.Nodup.filter _ (by decide))
  exact ⟨t, (fold _ y rfl).trans e, g⟩

theorem reopen_get (t : Holders HolderDyn) (h : Holder) :
    (Holder.list.foldl (fun t h => t.set h (t.get h).reopen) t).get h = (t.get h).reopen := by
  cases h <;> rfl

theorem recommission_active {y : Yard} (hc : y.yds.desc = .committed) (ha : y.gdc.clock ≠ none ∨ y.mvs.orders ≠ []) :
    recommission y = (y, .refuse .active [.u8 0]) := by
  have busy : (y.gdc.clock.isSome || !y.mvs.orders.isEmpty) = true := by
    simpa [Option.isSome_iff_ne_none] using ha
  simp only [recommission, isCommitted_of hc, busy]; rfl

theorem recommission_idle {y : Yard} (hc : y.yds.desc = .committed) (hk : y.gdc.clock = none) (ho : y.mvs.orders = []) :
    recommission y = (dguRecommission (hsuRecommission
      (y.updYds fun d => { d with desc := .opened, geometry := .all none })), okAnswer) := by
  simp [recommission, isCommitted_of hc, hk, ho]

theorem recommission_opened {y : Yard} (ho : y.yds.desc = .opened) : recommission y = (y, okAnswer) := by
  simp [recommission, not_isCommitted_of ho]

/-! ### The day at COMMIT -/

/-- With no day open, COMMIT opens a fresh one over the stocks, flagged PARTIAL (R146, R159). -/
theorem soaCommit_opens {y : Yard} {c : ClockTime} (hk : y.gdc.clock = some c) (hn : y.soa.current = none) :
    (soaCommit y).soa = { y.soa with
      current := some (.opened c.day c.weekday c.dayType ⟨true, false, false, false⟩ (some (freshOpening y))) } := by
  simp only [soaCommit, hk, hn]; rfl

/-- The day open is flagged PARTIAL at COMMIT (R159). -/
theorem soaCommit_flags {y : Yard} {c : ClockTime} {d : Day} (hk : y.gdc.clock = some c) (hd : y.soa.current = some d) :
    (soaCommit y).soa = { y.soa with current := some { d with flags := { d.flags with part := true } } } := by
  simp only [soaCommit, hk, hd]
  simp only [Yard.updSoa, Soa.updCurrent, hd, Option.map_some]

theorem soaCommit_unset {y : Yard} (hk : y.gdc.clock = none) : (soaCommit y).soa = y.soa := by
  simp only [soaCommit, hk]

theorem soaCommit_closed (y : Yard) :
    (soaCommit y).soa.book = y.soa.book ∧ (soaCommit y).soa.pending = y.soa.pending := by
  cases hk : y.gdc.clock with
  | none => rw [soaCommit_unset hk]; exact ⟨rfl, rfl⟩
  | some c =>
    cases hd : y.soa.current with
    | none => rw [soaCommit_opens hk hd]; exact ⟨rfl, rfl⟩
    | some d => rw [soaCommit_flags hk hd]; exact ⟨rfl, rfl⟩

/-! ### The districts at COMMIT -/

section
variable {r : DistrictDyn}

theorem DistrictDyn.atCommit_unadopted (h : r.adoption = false ∨ r.boosterRep = .unknown) :
    r.atCommit = { r with commanded := none } := by
  obtain h | h := h <;> simp [DistrictDyn.atCommit, h]

theorem DistrictDyn.atCommit_running (ha : r.adoption = true) (hb : r.boosterRep = .running) :
    r.atCommit =
      { r with commanded := none, adoption := false, adoptWait := .idle, feed := .boosted, hyst := 0 } := by
  simp [DistrictDyn.atCommit, ha, hb]

theorem DistrictDyn.atCommit_stopped (ha : r.adoption = true) (hb : r.boosterRep = .stopped) :
    r.atCommit = { r with commanded := none, adoption := false, adoptWait := .idle, feed := .direct } := by
  simp [DistrictDyn.atCommit, ha, hb]

theorem DistrictDyn.atCommit_fault (ha : r.adoption = true) (hb : r.boosterRep = .fault) :
    r.atCommit =
      { r with commanded := none, adoption := false, adoptWait := .idle, feed := .direct, failed := true } := by
  simp [DistrictDyn.atCommit, ha, hb]

theorem DistrictDyn.faulty_of (ha : r.adoption = true) (hb : r.boosterRep = .fault) : r.faulty = true := by
  simp [DistrictDyn.faulty, ha, hb]

end

/-- Settles O18: COMMIT and RECOMMISSION, block by block. -/
theorem commitAndRecommission : Obligations.CommitAndRecommission := by
  refine ⟨fun y ho => ⟨fun hf => ?_, fun f hf => gives_of_plain (fun _ _ _ => rfl) (commit_refused ho hf)⟩,
    fun y => ⟨fun hc ha => gives_of_plain (fun _ _ _ => rfl) (recommission_active hc ha), fun hc hk hor => ?_,
      fun ho => gives_of_plain (fun _ _ _ => rfl) (recommission_opened ho)⟩⟩
  · obtain ⟨t, q, u, e, eu, districts, faults⟩ := commitYard_frame y
    obtain ⟨book, pending⟩ := soaCommit_closed { y.stocked with dgu := { y.dgu with districts := t }, notices := q }
    rw [← eu] at book pending
    refine ⟨commitYard y, gives_of_plain (fun _ _ _ => rfl) (commit_ok ho hf), ?_⟩
    rw [e]
    refine ⟨y.stocked_yds, y.stocked_gdc, y.stocked_ylc, y.stocked_coupled, y.stocked_scan.1, y.stocked_scan.2,
      y.stocked_records.1, y.stocked_records.2, book.trans (congrArg Soa.book y.stocked_soa),
      pending.trans (congrArg Soa.pending y.stocked_soa), rfl, ?_, fun hk => ?_, fun c hk => ⟨fun hn => ?_, fun d hd => ?_⟩,
      fun d hd => ?_, fun d hd => ?_⟩
    · intro hsu present temp job unbound declared
      have jobs (h : Holder) : liveJob y.formed h = job h := by
        have geometry : y.formed.yds.geometry.get h = (y.yds.holders.get h).map geometryOf :=
          formGeometry_get y.yds.holders h
        have warm : handedTemp (y.formed.hsu.holders.get h).temp y.formed.qpr.recs.yardTemp.value = temp h := by
          change handedTemp (y.hsu.holders.get h).temp y.qpr.recs.yardTemp.value = temp h
          simp only [temp, hsu]
          cases (y.hsu.holders.get h).temp <;> cases y.qpr.recs.yardTemp.value <;> rfl
        have travel : (y.formed.hsu.holders.get h).travel = (hsu h).travel := rfl
        have baro : y.formed.hsu.baro = y.hsu.baro := rfl
        unfold liveJob jobOf
        dsimp only
        rw [geometry, warm, travel, baro]
        simp only [job]
        cases y.yds.holders.get h <;> cases (hsu h).travel <;> cases temp h <;> cases y.hsu.baro <;> rfl
      have live : liveJob y.formed = job := funext jobs
      refine ⟨fun k hk => (y.stocked_recs k).1 (Yds.mem_unboundSlots.2 hk), fun hd => ?_⟩
      have hd : ∀ k ∈ y.yds.unboundSlots, (y.qpr.recs.get k).declaredBy (y.yds.subs.get k) :=
        fun k hk => hd k (Yds.mem_unboundSlots.1 hk)
      obtain ⟨v, ev, gv⟩ := Yard.stocked_hsu hd
      rw [live] at ev gv
      refine ⟨fun k hk => (y.stocked_recs k).2 (mt Yds.mem_unboundSlots.1 hk), congrArg Hsu.stockJobs ev,
        (congrArg Hsu.closingJobs ev :), (congrArg Hsu.baro ev :), fun h => ?_, fun hor => ⟨?_, fun hb => ?_⟩⟩
      · exact (congrArg (fun w : Hsu => w.holders.get h) ev).trans (gv h)
      · exact (Yard.stocked_idle y (p := False) hor False.elim).scs
      · obtain ⟨w, ew, gw⟩ := Yard.stocked_mvs hd hor (by rw [live]; exact hb)
        rw [live] at gw
        have prev : y.stocked.mvs.prevTravel = w := congrArg Mvs.prevTravel ew
        exact ⟨ew.trans (by rw [prev]), fun h => (congrArg (Holders.get · h) prev).trans (gw h)⟩
    · exact (eu.trans (soaCommit_unset ((congrArg Gdc.clock y.stocked_gdc).trans hk))).trans y.stocked_soa
    · have opened := eu.trans (soaCommit_opens ((congrArg Gdc.clock y.stocked_gdc).trans hk)
        ((congrArg Soa.current y.stocked_soa).trans hn))
      rw [freshOpening_eq] at opened
      dsimp only at opened ⊢
      rw [opened, y.stocked_soa, y.stocked_yds]
      rw [presentHolders_eq]
      rfl
    · have flagged := eu.trans (soaCommit_flags ((congrArg Gdc.clock y.stocked_gdc).trans hk)
        ((congrArg Soa.current y.stocked_soa).trans hd))
      exact flagged.trans (by rw [y.stocked_soa])
    · exact (districts d).trans (if_neg (not_not_intro hd))
    · intro r r' adopted
      have here : r' = r.atCommit := (districts d).trans (if_pos hd)
      rw [here]
      refine ⟨DistrictDyn.atCommit_unadopted, DistrictDyn.atCommit_running, DistrictDyn.atCommit_stopped,
        fun ha hb => ⟨DistrictDyn.atCommit_fault ha hb, fun hor room => ?_⟩⟩
      have roomy := (Yard.stocked_idle y hor (p := True) fun _ => .inl room).notices trivial
      exact faults (by obtain h | ⟨h, -⟩ := roomy <;> omega) d hd (DistrictDyn.faulty_of ha hb)
  · obtain ⟨t, e, districts⟩ := dguRecommission_eq (hsuRecommission
      (y.updYds fun d => { d with desc := .opened, geometry := .all none }))
    refine ⟨_, gives_of_plain (fun _ _ _ => rfl) (recommission_idle hc hk hor), ?_⟩
    rw [e]
    refine ⟨rfl, rfl, rfl, rfl, rfl, rfl, rfl, rfl, rfl, rfl, rfl, fun h => (reopen_get _ h).trans rfl, rfl,
      fun d hd => (districts d).trans ?_, fun d x hd => (districts d).trans ?_⟩
    · refine if_neg fun m => ?_
      have present : (y.yds.districts.get d).isSome = true := (List.mem_filter.1 m).2
      simp [hd] at present
    · rw [hasBooster_eq]
      refine (if_pos (List.mem_filter.2 ⟨District.mem_list d, ?_⟩)).trans ?_
      · exact Option.isSome_iff_exists.2 ⟨x, hd⟩
      · change DistrictDyn.atRecommission _ ((y.yds.districts.get d).any (·.booster)) = _
        rw [hd]
        rfl

end Sys2Proof.Machine
end

section
/-! O46: the stages of the correction unit (R14 to R21). -/

namespace Sys2Proof.Machine

/-! ### The part of each stroke taken up (R15, R16) -/

/-- The zone limit below the lift of a place, counted from a lowest limit b. -/
def liftFloor (b : Int) (ls : List Lift) (i : Nat) : Int := b + ((ls.take i).map (·.stroke)).sum

/-- The number of zone limits below a travel, the lowest being b. -/
def limitsBelow (t b : Int) (ls : List Lift) : Nat :=
  ((List.range ls.length).filter fun i => liftFloor b ls i < t).length

/-- The sum, over the lifts, of area by the part of the stroke taken up. -/
def takenUp (t b : Int) (ls : List Lift) : Int :=
  (((List.range ls.length).zip ls).map fun x => x.2.area * min x.2.stroke (max 0 (t - liftFloor b ls x.1))).sum

section
variable {t b : Int} {l : Lift} {ls : List Lift}

@[simp] theorem liftFloor_zero : liftFloor b ls 0 = b := by simp [liftFloor]

@[simp] theorem liftFloor_cons (i : Nat) : liftFloor b (l :: ls) (i + 1) = liftFloor (b + l.stroke) ls i := by
  simp [liftFloor, add_assoc]

theorem limitsBelow_cons :
    limitsBelow t b (l :: ls) = (if b < t then 1 else 0) + limitsBelow t (b + l.stroke) ls := by
  unfold limitsBelow
  rw [List.length_cons, List.range_succ_eq_map, List.filter_cons, List.filter_map]
  by_cases h : b < t <;> simp [h, Function.comp_def, add_comm]

theorem takenUp_cons :
    takenUp t b (l :: ls) = l.area * min l.stroke (max 0 (t - b)) + takenUp t (b + l.stroke) ls := by
  simp [takenUp, List.range_succ_eq_map, List.zip_map_left, Function.comp_def]

/-- The lifts above a limit that the travel does not pass hold no gas. -/
theorem above_travel (hs : ∀ l ∈ ls, 0 < l.stroke) (h : t ≤ b) : limitsBelow t b ls = 0 ∧ takenUp t b ls = 0 := by
  induction ls generalizing b with
  | nil => exact ⟨rfl, rfl⟩
  | cons l ls ih =>
    obtain ⟨hl, hs⟩ := List.forall_mem_cons.1 hs
    obtain ⟨i1, i2⟩ := ih hs (by omega : t ≤ b + l.stroke)
    rw [limitsBelow_cons, takenUp_cons, i1, i2, if_neg (by omega), max_eq_left (by omega), min_eq_right (by omega)]
    simp

/-- The zone is the number of limits below the travel (R15), and the volume is summed up to the zone lift (R16). -/
theorem within_travel (hn : ls ≠ []) (hs : ∀ l ∈ ls, 0 < l.stroke) (h : b < t) :
    zoneAbove t (sums b (ls.map (·.stroke))) = limitsBelow t b ls ∧
      liftSum (min t (b + (ls.map (·.stroke)).sum)) ls (limitsBelow t b ls) b = takenUp t b ls := by
  induction ls generalizing b with
  | nil => exact absurd rfl hn
  | cons l ls ih =>
    obtain ⟨hl, hs⟩ := List.forall_mem_cons.1 hs
    rw [limitsBelow_cons, takenUp_cons, if_pos h, List.map_cons, List.sum_cons]
    cases ls with
    | nil =>
      refine ⟨rfl, ?_⟩
      have part : min t (b + (l.stroke + 0)) - b = min l.stroke (max 0 (t - b)) := by omega
      change l.area * (min t (b + (l.stroke + 0)) - b) = _ + 0
      rw [part, add_zero]
    | cons k ls =>
      have total : 0 ≤ ((k :: ls).map (·.stroke)).sum :=
        List.sum_nonneg fun x hx => by
          obtain ⟨m, hm, rfl⟩ := List.mem_map.1 hx
          exact (hs m hm).le
      by_cases above : t ≤ b + l.stroke
      · obtain ⟨none, nothing⟩ := above_travel hs above
        have part : min t (b + (l.stroke + ((k :: ls).map (·.stroke)).sum)) - b = min l.stroke (max 0 (t - b)) := by omega
        rw [none, nothing]
        refine ⟨if_pos above, ?_⟩
        change l.area * _ = _ + 0
        rw [part, add_zero]
      · obtain ⟨zone, volume⟩ := ih (List.cons_ne_nil _ _) hs (by omega : b + l.stroke < t)
        have whole : min l.stroke (max 0 (t - b)) = l.stroke := by omega
        refine ⟨(if_neg above).trans (by rw [← zone]), ?_⟩
        rw [← volume, whole, ← add_assoc, limitsBelow_cons, if_pos (by omega : b + l.stroke < t), Nat.add_comm 1,
          Nat.add_comm 1]
        rfl

/-- Each running sum of the strokes is a zone limit (R5). -/
theorem sums_strokes : sums b (ls.map (·.stroke)) = (List.range ls.length).map fun i => liftFloor b ls (i + 1) := by
  refine List.ext_getElem (by simp) fun k hk _ => ?_
  have e := sums_getD (a := b) (by simpa using hk : k < (ls.map (·.stroke)).length)
  rw [List.getD_eq_getElem _ _ hk] at e
  simp [e, liftFloor]

/-- Stages 1 and 2 over the zone limits that the strokes make (R15, R16). -/
theorem zone_and_volume (hn : ls ≠ []) (hs : ∀ l ∈ ls, 0 < l.stroke) (ht : 0 ≤ t) :
    zoneOf (sums 0 (ls.map (·.stroke))) t = limitsBelow t 0 ls ∧
      actualVolume ls (sums 0 (ls.map (·.stroke))) t = roundDiv (takenUp t 0 ls) 100 := by
  have full : (sums 0 (ls.map (·.stroke))).getLast?.getD 0 = 0 + (ls.map (·.stroke)).sum := by
    rw [sums_getLast? (by simpa using hn)]; rfl
  unfold actualVolume zoneOf
  dsimp only
  rw [full]
  obtain rfl | pos := ht.eq_or_lt
  · obtain ⟨none, nothing⟩ := above_travel hs (le_refl 0)
    rw [if_pos rfl, none, nothing]
    refine ⟨rfl, ?_⟩
    cases ls <;> rfl
  · obtain ⟨zone, volume⟩ := within_travel hn hs pos
    rw [if_neg pos.ne', zone, volume]
    exact ⟨rfl, rfl⟩

end

/-! ### The other stages (R17 to R21) -/

theorem holderPressure_eq (ls : List Lift) (k : Nat) : holderPressure ls k = ((ls.take k).map (·.weight)).sum := by
  rw [holderPressure, ← List.foldl_map, ← List.sum_eq_foldl]

section
variable {v : Vapour} {t : Int}

theorem vapourPressure_low (h : t ≤ -50) : vapourPressure v t = v.e0 := by
  have look : clampTo (-50) 350 t = -50 := by rw [clampTo_eq (by omega)]; omega
  simp [vapourPressure, look, roundDiv, Vapour.entry]

theorem vapourPressure_high (h : 350 ≤ t) : vapourPressure v t = v.e8 := by
  have look : clampTo (-50) 350 t = 350 := by rw [clampTo_eq (by omega)]; omega
  simp [vapourPressure, look]

/-- On and above a point of the table, and below the next, the pressure is interpolated from that point (R18). -/
theorem vapourPressure_from {i : Nat} (hi : i < 8) (h0 : 50 * (i : Int) - 50 ≤ t) (h1 : t < 50 * i) :
    vapourPressure v t =
      v.entry i + roundDiv (((v.entry (i + 1) : Int) - v.entry i) * (t - (50 * i - 50))) 50 := by
  have look : clampTo (-50) 350 t = t := by rw [clampTo_eq (by omega)]; omega
  have place : ((t + 50) / 50).toNat = i := by omega
  have rest : t + 50 - 50 * (i : Int) = t - (50 * i - 50) := by omega
  unfold vapourPressure
  dsimp only
  rw [look, place, if_neg (by omega), rest]

/-- A whole step of the table rounds to itself. -/
theorem roundDiv_whole (d : Int) : roundDiv (d * 50) 50 = d := by unfold roundDiv; omega

theorem vapourPressure_point {i : Nat} (hi : i ≤ 8) : vapourPressure v (50 * i - 50) = v.entry i := by
  obtain rfl | hi := hi.eq_or_lt
  · exact vapourPressure_high (by omega)
  · rw [vapourPressure_from hi le_rfl (by omega)]
    simp [roundDiv]

/-- Between two points of the table, both included, the pressure is interpolated (R18). -/
theorem vapourPressure_between {i : Nat} (hi : i < 8) (h0 : 50 * (i : Int) - 50 ≤ t) (h1 : t ≤ 50 * i) :
    vapourPressure v t =
      v.entry i + roundDiv (((v.entry (i + 1) : Int) - v.entry i) * (t - (50 * i - 50))) 50 := by
  obtain rfl | h1 := h1.eq_or_lt
  · have next : 50 * (i : Int) = 50 * ((i + 1 : Nat) : Int) - 50 := by omega
    rw [show 50 * (i : Int) - (50 * i - 50) = 50 by omega, roundDiv_whole, next, vapourPressure_point hi]
    exact (add_sub_cancel _ _).symm
  · exact vapourPressure_from hi h0 h1

end

/-- A part of a difference, rounded, does not leave its span. -/
theorem roundDiv_part_bounds {d r : Int} (h0 : 0 ≤ r) (h1 : r ≤ 50) :
    min 0 d ≤ roundDiv (d * r) 50 ∧ roundDiv (d * r) 50 ≤ max 0 d := by
  unfold roundDiv
  obtain hd | hd := le_total 0 d
  · have low : 0 ≤ d * r := mul_nonneg hd h0
    have high : d * r ≤ d * 50 := mul_le_mul_of_nonneg_left h1 hd
    omega
  · have low : d * 50 ≤ d * r := mul_le_mul_of_nonpos_left h1 hd
    have high : d * r ≤ 0 := mul_nonpos_of_nonpos_of_nonneg hd h0
    omega

/-- The dry pressure is the greater of the sum and 45,000 Pa, marked where that is greater (R19). -/
theorem dryPressure_eq (baro press vapour : Int) :
    dryPressure baro press vapour = (max 45000 (baro + press - vapour), decide (baro + press - vapour < 45000)) := by
  unfold dryPressure
  by_cases h : baro + press - vapour < 45000
  · simp [h, max_eq_left h.le]
  · simp [h, max_eq_right (not_lt.1 h)]

/-- The meter use holds its quotient to 2^63 - 1 (R20, R21). -/
theorem meterVolume_eq (v : Vapour) (actual press temp baro : Int) :
    let dry := baro + press - vapourPressure v temp
    let std := standardVolume actual (max 45000 dry) temp
    meterVolume v actual press temp baro =
      if std < 2 ^ 63 then (std, decide (dry < 45000)) else (2 ^ 63 - 1, true) := by
  intro dry std
  have e : meterVolume v actual press temp baro =
      if std > maxQuotient then (maxQuotient, true) else (std, decide (dry < 45000)) := by
    simp only [meterVolume, dryPressure_eq, std, dry]
  rw [e]
  by_cases h : std < 2 ^ 63
  · rw [if_pos h, if_neg (by unfold maxQuotient; omega)]
  · rw [if_neg h, if_pos (by unfold maxQuotient; omega)]
    rfl

/-- Settles O46, stage by stage. -/
theorem stockStagesWorked : Obligations.StockStagesWorked := by
  refine ⟨fun ls t hn hs ht => ?_, holderPressure_eq, fun v i t => ⟨vapourPressure_point, vapourPressure_low,
    vapourPressure_high, fun hi h0 h1 => ?_⟩, fun a p t hd => ?_, dryPressure_eq, fun v j => ?_,
    fun v actual press temp baro => ⟨fun h => ?_, fun h => ?_⟩⟩
  · have floors (i : Nat) : ((ls.take i).map (·.stroke)).sum = liftFloor 0 ls i := (zero_add _).symm
    obtain ⟨zone, volume⟩ := zone_and_volume hn hs ht
    rw [sums_strokes] at zone volume
    simp only [floors]
    exact ⟨zone, volume⟩
  · obtain ⟨low, high⟩ := roundDiv_part_bounds (d := (v.entry (i + 1) : Int) - v.entry i)
      (by omega : 0 ≤ t - (50 * (i : Int) - 50)) (by omega)
    rw [vapourPressure_between hi h0 h1]
    exact ⟨rfl, by omega, by omega⟩
  · obtain ⟨low, high⟩ := roundDiv_spec (a := a * p * 28815) (by positivity : 0 < 101325 * (27315 + 10 * t))
    exact ⟨low, by unfold standardVolume; omega⟩
  · simp only [stockResult, dryPressure_eq, holderPressure_eq]
  · exact (meterVolume_eq v actual press temp baro).trans (if_pos h)
  · exact (meterVolume_eq v actual press temp baro).trans (if_neg (not_lt.2 h))

end Sys2Proof.Machine
end

section
/-! SUPPORT. A working order: its place in the order list, its valves commanded, its close (R34, R39, R42, R49, R57). -/

namespace Sys2Proof.Machine

/-! ### The order list around one order (R39, R42) -/

section
variable {m : Mvs} {before after : List Order} {o : Order} {h : Holder}

theorem Mvs.orderOf_listed (hl : m.orders = before ++ o :: after) (hn : ∀ x ∈ before ++ after, x.number ≠ o.number) :
    m.orderOf o.number = some o := by
  have none : before.find? (·.number == o.number) = none :=
    List.find?_eq_none.2 fun x hx => by simpa using hn x (List.mem_append_left _ hx)
  simp [Mvs.orderOf, hl, none]

theorem Mvs.updOrder_listed (hl : m.orders = before ++ o :: after) (hn : ∀ x ∈ before ++ after, x.number ≠ o.number)
    (f : Order → Order) : m.updOrder o.number f = { m with orders := before ++ f o :: after } := by
  have stands (l : List Order) (hl : ∀ x ∈ l, x.number ≠ o.number) :
      (l.map fun x => if x.number = o.number then f x else x) = l :=
    (List.map_congr_left fun x hx => if_neg (hl x hx)).trans (List.map_id l)
  simp [Mvs.updOrder, hl, stands before fun x hx => hn x (List.mem_append_left _ hx),
    stands after fun x hx => hn x (List.mem_append_right _ hx)]

/-- An active order is the active order of each holder it works, the others of its holder waiting (R42, R57). -/
theorem Mvs.activeOrder_listed (hl : m.orders = before ++ o :: after)
    (hw : ∀ x ∈ before ++ after, x.holder = o.holder → x.state = .waiting) (ha : o.state.active = true)
    (hh : m.orderHolder h = o.holder) : m.activeOrder h = some o := by
  have none : before.find? (fun x => x.state.active && x.holder == o.holder) = none :=
    List.find?_eq_none.2 fun x hx => by
      by_cases e : x.holder = o.holder
      · simp [hw x (List.mem_append_left _ hx) e, OrderState.active]
      · simp [e]
  simp [Mvs.activeOrder, hl, hh, none, ha]

end

/-- The yard with another order list. -/
def Yard.withOrders (y : Yard) (l : List Order) : Yard := { y with mvs := { y.mvs with orders := l } }

theorem Yard.updOrder_listed {y : Yard} {before after : List Order} {o : Order} (hl : y.mvs.orders = before ++ o :: after)
    (hn : ∀ x ∈ before ++ after, x.number ≠ o.number) (f : Order → Order) :
    y.updMvs (·.updOrder o.number f) = y.withOrders (before ++ f o :: after) :=
  congrArg (fun m => ({ y with mvs := m } : Yard)) (Mvs.updOrder_listed hl hn f)

/-- The holders worked are read off the coupling alone (R57). -/
theorem Mvs.worked_congr {m n : Mvs} (h : n.coupled = m.coupled) : n.worked = m.worked := by
  have e : n.isCoupled = m.isCoupled := by unfold Mvs.isCoupled; rw [h]
  unfold Mvs.worked; rw [e]

theorem Mvs.orderHolder_congr {m n : Mvs} (h : n.coupled = m.coupled) : n.orderHolder = m.orderHolder := by
  have e : n.isCoupled = m.isCoupled := by unfold Mvs.isCoupled; rw [h]
  unfold Mvs.orderHolder; rw [e]

/-! ### Valves commanded together (R34, R128) -/

section
variable {m : Mvs} {p : Commanded} {v w : Valve}

@[simp] theorem Mvs.commandTo_orders : (m.commandTo p v).orders = m.orders := by simp [Mvs.commandTo]
@[simp] theorem Mvs.commandTo_prevTravel : (m.commandTo p v).prevTravel = m.prevTravel := by simp [Mvs.commandTo]
@[simp] theorem Mvs.commandTo_coupled : (m.commandTo p v).coupled = m.coupled := by simp [Mvs.commandTo]

@[simp] theorem Mvs.commandTo_reported : ((m.commandTo p v).valve w).reported = (m.valve w).reported := by
  by_cases e : w = v
  · simp [Mvs.commandTo, e]
  · simp [Mvs.commandTo, Mvs.valve_setValve_ne _ _ e]

/-- What commanding one valve keeps of MVS, commanding several keeps. -/
theorem Mvs.commandTo_fold {α : Type} (g : Mvs → α) (hg : ∀ m v, g (m.commandTo p v) = g m) (vs : List Valve)
    (m : Mvs) : g (vs.foldl (Mvs.commandTo p) m) = g m := by
  induction vs generalizing m with
  | nil => rfl
  | cons v vs ih => exact (ih _).trans (hg m v)

theorem Mvs.commandTo_with_orders (l : List Order) :
    ({ m with orders := l } : Mvs).commandTo p v = { m.commandTo p v with orders := l } := by
  rcases v with ⟨k, s⟩; cases s <;> rfl

theorem Mvs.commandTo_fold_with_orders (vs : List Valve) (m : Mvs) (l : List Order) :
    vs.foldl (Mvs.commandTo p) { m with orders := l } = { vs.foldl (Mvs.commandTo p) m with orders := l } := by
  induction vs generalizing m with
  | nil => rfl
  | cons v vs ih => rw [List.foldl_cons, Mvs.commandTo_with_orders, ih]; rfl

end

/-- Bound valves that can be commanded without a failure: each has a point of its own for which no command waits, and the
command list has room (R34, R128). -/
structure Yard.CanCommand (y : Yard) (vs : List (Valve × Point)) : Prop where
  committed : y.yds.desc = .committed
  bound : ∀ x ∈ vs, y.yds.bind.valve x.1 = some x.2
  points : vs.Pairwise fun a b => a.2 ≠ b.2
  free : ∀ x ∈ vs, ∀ c ∈ y.scs.commands, ¬(c.outstation = x.2.outstation ∧ c.channel = x.2.channel)
  room : y.scs.commands.length + vs.length ≤ 32

/-- The yard with valves commanded a position, and a command put for each that does not report it (R34). -/
def Yard.commandedTo (y : Yard) (p : Commanded) (vs : List (Valve × Point)) : Yard :=
  { y with
    mvs := (vs.map (·.1)).foldl (Mvs.commandTo p) y.mvs
    scs := { y.scs with commands := y.scs.commands ++
      (vs.filter fun x => decide (p.asReport ≠ some (y.mvs.valve x.1).reported)).map (valveCommand p.cmdCode) } }

section
variable {y : Yard} {p : Commanded} {x : Valve × Point} {vs us : List (Valve × Point)}

theorem Yard.CanCommand.sublist (c : y.CanCommand vs) (s : us.Sublist vs) : y.CanCommand us where
  committed := c.committed
  bound x hx := c.bound x (s.subset hx)
  points := c.points.sublist s
  free x hx := c.free x (s.subset hx)
  room := (Nat.add_le_add_left s.length_le _).trans c.room

/-- The commands and the description alone decide it. -/
theorem Yard.CanCommand.of_eq {z : Yard} (c : y.CanCommand vs) (hy : z.yds = y.yds) (hs : z.scs = y.scs) :
    z.CanCommand vs where
  committed := by rw [hy]; exact c.committed
  bound := by rw [hy]; exact c.bound
  points := c.points
  free := by rw [hs]; exact c.free
  room := by rw [hs]; exact c.room

theorem Yard.commandedTo_cons : y.commandedTo p (x :: vs) = (y.commandedTo p [x]).commandedTo p vs := by
  by_cases h : p.asReport = some (y.mvs.valve x.1).reported <;> simp [Yard.commandedTo, h]

theorem Yard.CanCommand.commandValve (c : y.CanCommand (x :: vs)) : commandValve x.1 p y = (y.commandedTo p [x], []) := by
  have bound := c.bound x List.mem_cons_self
  have free : ∀ b ∈ y.scs.commands, b.isFor x.2 = false := fun b hb => by
    simpa [Command.isFor] using c.free x List.mem_cons_self b hb
  have room : y.scs.commands.length < 32 := by have := c.room; simp only [List.length_cons] at this; omega
  unfold Machine.commandValve
  rw [bound]
  by_cases h : p.asReport = some (y.mvs.valve x.1).reported
  · simp [isCommitted_of c.committed, h, Yard.commandedTo, Mvs.commandTo, Yard.updMvs]
  · have put : putInto y.scs.commands x.2 p.cmdCode 0 (.valve x.1) =
        (y.scs.commands ++ [valveCommand p.cmdCode x], true) := by
      have : ¬ (y.scs.commands.any fun b => b.isFor x.2) = true := by simpa using free
      rw [putInto, if_neg this, if_pos room]; rfl
    simp [isCommitted_of c.committed, h, Yard.commandedTo, Mvs.commandTo, putCommand, put]
    rfl

/-- The command put for one valve leaves room for the next. -/
theorem Yard.CanCommand.tail (c : y.CanCommand (x :: vs)) : (y.commandedTo p [x]).CanCommand vs where
  committed := c.committed
  bound v hv := c.bound v (List.mem_cons_of_mem _ hv)
  points := (List.pairwise_cons.1 c.points).2
  free v hv b hb := by
    obtain hb | hb := List.mem_append.1 hb
    · exact c.free v (List.mem_cons_of_mem _ hv) b hb
    · obtain ⟨u, hu, rfl⟩ := List.mem_map.1 hb
      obtain rfl := List.mem_singleton.1 (List.mem_filter.1 hu).1
      have ne := (List.pairwise_cons.1 c.points).1 v hv
      exact fun e => ne (Point.mk.injEq .. ▸ e)
  room := by
    have one : ((([x] : List (Valve × Point)).filter fun x =>
        decide (p.asReport ≠ some (y.mvs.valve x.1).reported)).map (valveCommand p.cmdCode)).length ≤ 1 := by
      rw [List.length_map]; exact List.length_filter_le _ _
    have room := c.room
    simp only [Yard.commandedTo, List.length_append, List.length_cons] at room ⊢
    omega

/-- Valves that can be commanded are commanded in turn, and none fails. -/
theorem Yard.CanCommand.commandAll (c : y.CanCommand vs) : commandAll p (vs.map (·.1)) y = (y.commandedTo p vs, []) := by
  induction vs generalizing y with
  | nil => simp [Machine.commandAll, Yard.commandedTo]
  | cons x vs ih =>
    rw [List.map_cons, Machine.commandAll, c.commandValve]
    dsimp only
    rw [ih c.tail, ← Yard.commandedTo_cons, List.nil_append]

end

/-! ### A working order that can be shut (R34, R49) -/

@[simp] theorem OrderKind.used_ne_nil (k : OrderKind) : k.used ≠ [] := by cases k <;> decide

theorem Mvs.worked_ne_nil (m : Mvs) (h : Holder) : m.worked h ≠ [] := List.ne_nil_of_mem (m.worked_self h)

section
variable {y : Yard} {before after : List Order} {o : Order} {vs : List (Valve × Point)} {h : Holder}

theorem Yard.CanShut.canCommand (c : y.CanShut before after o vs) : y.CanCommand vs :=
  ⟨c.committed, c.bound, c.points, c.free, c.room⟩

theorem Yard.CanShut.active (c : y.CanShut before after o vs) : o.state.active = true := by
  obtain e | e := c.working <;> rw [e] <;> rfl

theorem Yard.CanShut.isWorking (c : y.CanShut before after o vs) : (o.state == .opening || o.state == .running) = true := by
  simpa using c.working

/-- The holders of the order are those whose orders it stands among (R57). -/
theorem Yard.CanShut.orderHolder (c : y.CanShut before after o vs) (hh : h ∈ y.mvs.worked o.holder) :
    y.mvs.orderHolder h = o.holder := by
  refine ((Mvs.mem_worked_iff ?_).1 hh).symm
  intro f
  by_cases k : y.mvs.isCoupled o.holder = true
  · simp [Mvs.role, k, c.lead k] at f
  · simp [Mvs.role, k] at f

/-- Its bound used valves are those given, each of them bound (R44, R49). -/
theorem Yard.CanShut.usedValves (c : y.CanShut before after o vs) : usedValves y o = vs.map (·.1) := by
  unfold Machine.usedValves Yds.boundValves
  rw [← c.used]
  refine List.filter_eq_self.2 fun v hv => ?_
  obtain ⟨x, hx, rfl⟩ := List.mem_map.1 hv
  simp [c.bound x hx]

theorem Yard.CanShut.valves_ne_nil (c : y.CanShut before after o vs) : vs ≠ [] := by
  rintro rfl
  have used := c.used
  simp only [List.map_nil] at used
  obtain ⟨a, ha⟩ := List.exists_mem_of_ne_nil _ (y.mvs.worked_ne_nil o.holder)
  have := List.flatMap_eq_nil_iff.1 used.symm a ha
  simp at this

/-- All its used valves commanded SHUT, and the order list as its close leaves it. -/
theorem Yard.CanShut.toClosing_eq (c : y.CanShut before after o vs) (r : EndReason) :
    y.toClosing before after o vs r =
      (y.withOrders (before ++ { o with state := .closing, reason := some r } :: after)).commandedTo .shut vs := by
  have all (l : List Order) :
      (vs.filter fun x => decide (Commanded.shut.asReport ≠ some ((y.withOrders l).mvs.valve x.1).reported)) = vs :=
    List.filter_eq_self.2 fun x hx => decide_eq_true fun e => c.reports x hx (Option.some.inj e).symm
  unfold Yard.commandedTo
  rw [all]
  unfold Yard.withOrders
  rw [Mvs.commandTo_fold_with_orders, List.foldl_map]
  rfl

theorem Yard.CanShut.closeOrder (c : y.CanShut before after o vs) (r : EndReason) :
    closeOrder o.number r y = (y.toClosing before after o vs r, .testComplete o.number :: lagIfRunning o) := by
  have used (l : List Order) : Machine.usedValves (y.withOrders l) o = vs.map (·.1) := c.usedValves
  have commands (l : List Order) : (y.withOrders l).CanCommand vs := c.canCommand.of_eq rfl rfl
  unfold Machine.closeOrder
  rw [Mvs.orderOf_listed c.listed c.numbers]
  dsimp only
  rw [if_pos c.isWorking, Yard.updOrder_listed c.listed c.numbers, used, (commands _).commandAll,
    ← c.toClosing_eq]
  rfl

/-- What neither commanding a valve nor the order list touches of MVS, a close leaves. -/
theorem Yard.toClosing_view {α : Type} (g : Mvs → α) (hc : ∀ m v, g (m.commandTo .shut v) = g m)
    (ho : ∀ (m : Mvs) l, g { m with orders := l } = g m) (r : EndReason) :
    g (y.toClosing before after o vs r).mvs = g y.mvs := by
  have fold := Mvs.commandTo_fold g hc (vs.map (·.1)) y.mvs
  rw [List.foldl_map] at fold
  exact (ho _ _).trans fold

theorem Yard.toClosing_reported (r : EndReason) (v : Valve) :
    ((y.toClosing before after o vs r).mvs.valve v).reported = (y.mvs.valve v).reported :=
  Yard.toClosing_view (fun m => (m.valve v).reported) (fun _ _ => Mvs.commandTo_reported) (fun _ _ => rfl) r

theorem Yard.toClosing_coupled (r : EndReason) : (y.toClosing before after o vs r).mvs.coupled = y.mvs.coupled :=
  Yard.toClosing_view Mvs.coupled (fun _ _ => Mvs.commandTo_coupled) (fun _ _ => rfl) r

theorem Yard.toClosing_prevTravel (r : EndReason) :
    (y.toClosing before after o vs r).mvs.prevTravel = y.mvs.prevTravel :=
  Yard.toClosing_view Mvs.prevTravel (fun _ _ => Mvs.commandTo_prevTravel) (fun _ _ => rfl) r

/-- A used valve is among the bound valves of the order (R34). -/
theorem Yard.CanShut.mem_allValves (c : y.CanShut before after o vs) {x : Valve × Point} (hx : x ∈ vs) :
    x.1 ∈ allValves y o := by
  have used : x.1 ∈ vs.map (·.1) := List.mem_map_of_mem hx
  rw [c.used] at used
  obtain ⟨k, hk, side, -, e⟩ : ∃ k ∈ y.mvs.worked o.holder, ∃ side ∈ o.kind.used, ⟨k, side⟩ = x.1 := by
    simpa using used
  refine List.mem_filter.2 ⟨List.mem_flatMap.2 ⟨k, hk, ?_⟩, by simp [c.bound x hx]⟩
  rw [← e]
  cases side <;> simp

/-- A used valve not reporting SHUT, the close is not complete (R49). -/
theorem Yard.CanShut.completeOrder (c : y.CanShut before after o vs) (r : EndReason) :
    completeOrder o.number (y.toClosing before after o vs r) = (y.toClosing before after o vs r, []) := by
  have found : (y.toClosing before after o vs r).mvs.orderOf o.number =
      some { o with state := .closing, reason := some r } :=
    Mvs.orderOf_listed (o := { o with state := .closing, reason := some r }) rfl c.numbers
  have standing : (allValves (y.toClosing before after o vs r) { o with state := .closing, reason := some r }).all
      (reportsShut (y.toClosing before after o vs r)) = false := by
    obtain ⟨x, hx⟩ := List.exists_mem_of_ne_nil _ c.valves_ne_nil
    have listed : x.1 ∈ allValves (y.toClosing before after o vs r) { o with state := .closing, reason := some r } := by
      unfold allValves
      rw [Mvs.worked_congr (Yard.toClosing_coupled r)]
      exact c.mem_allValves hx
    exact List.all_eq_false.2 ⟨x.1, listed, by simpa [reportsShut, Yard.toClosing_reported] using c.reports x hx⟩
  unfold Machine.completeOrder
  rw [found]
  dsimp only
  rw [standing, Bool.and_false, if_neg Bool.false_ne_true]

end

/-! ### Deeds that do nothing (log 13) -/

theorem doAll_still {ds : List Deed} {y : Yard} (h : ∀ d ∈ ds, deed d y = (y, [])) : doAll ds y = (y, []) := by
  induction ds with
  | nil => rfl
  | cons d ds ih =>
    obtain ⟨hd, hs⟩ := List.forall_mem_cons.1 h
    simp [doAll, hd, ih hs]

theorem workN_still {n : Nat} {ds : List Deed} {y : Yard} (h : ∀ d ∈ ds, deed d y = (y, [])) : workN n ds y = y := by
  cases n with
  | zero => rfl
  | succ n => rw [workN_succ, doAll_still h, workN_nil]

section
variable {y : Yard} {before after : List Order} {o : Order} {vs : List (Valve × Point)} {h : Holder}

/-- A close that can be made without a failure is made, and nothing follows from it (R49). -/
theorem Yard.CanShut.work_close (c : y.CanShut before after o vs) (r : EndReason) :
    work [.close o.number r] y = y.toClosing before after o vs r := by
  have first : doAll [.close o.number r] y =
      (y.toClosing before after o vs r, .testComplete o.number :: lagIfRunning o) := by
    simp [doAll, deed, c.closeOrder]
  rw [work_eq, first]
  refine workN_still fun d hd => ?_
  obtain rfl | hd := List.mem_cons.1 hd
  · exact c.completeOrder r
  · unfold lagIfRunning at hd
    split at hd
    · next k =>
      obtain rfl := List.mem_singleton.1 hd
      have draws := OrderKind.draws_iff.1 (Bool.and_eq_true _ _ ▸ k).2
      have still : ∀ x ∈ (y.toClosing before after o vs r).mvs.orders, x.state ≠ .running := fun x hx => by
        obtain hx | hx := List.mem_append.1 hx
        · exact c.drawing draws x (List.mem_append_left _ hx)
        · obtain rfl | hx := List.mem_cons.1 hx
          · simp
          · exact c.drawing draws x (List.mem_append_right _ hx)
      exact congrArg (·, []) (lagTest_idle still)
    · cases hd

end

end Sys2Proof.Machine
end

section
/-! O45: what MVS makes of a reading for a working order, and the stocks returned (R23 to R25, R45 to R48, R57, R150). -/

namespace Sys2Proof.Machine

/-! ### WHEN and activation beside a working order (R41, R42) -/

section
variable {y : Yard} {h : Holder} {o : Order}

theorem whenMet_other (hs : ∀ x, o.start ≠ .whenAbove h x ∧ o.start ≠ .whenBelow h x)
    (t : Option Int) : whenMet h t o = false := by
  unfold whenMet
  cases e : o.start with
  | absent => simp
  | atPeriod p => simp
  | whenAbove g x =>
    have : g ≠ h := fun c => (hs x).1 (c ▸ e)
    cases t <;> simp [this]
  | whenBelow g x =>
    have : g ≠ h := fun c => (hs x).2 (c ▸ e)
    cases t <;> simp [this]

theorem whenMet_active (ha : o.state.active = true) (t : Option Int) : whenMet h t o = false := by
  have : o.state ≠ .waiting := by rintro e; simp [e, OrderState.active] at ha
  simp [whenMet, this]

/-- No other order activates beside an active one (R42). -/
theorem tryActivate_active (ha : y.mvs.activeOrder (y.mvs.orderHolder h) = some o) : tryActivate h y = (y, []) := by
  unfold tryActivate
  simp [ha]

/-- A reading that meets no WHEN changes nothing beside an active order (R41, R42). -/
theorem whenReading_still (hw : ∀ x ∈ y.mvs.orders, whenMet h (travelOf y h) x = false)
    (ha : y.mvs.activeOrder (y.mvs.orderHolder h) = some o) : whenReading h y = y := by
  have none : y.mvs.orders.filter (whenMet h (travelOf y h)) = [] :=
    List.filter_eq_nil_iff.2 fun x hx => by simp [hw x hx]
  have stands : (y.mvs.orders.map fun x => if whenMet h (travelOf y h) x then { x with eligible := true } else x) =
      y.mvs.orders :=
    (List.map_congr_left fun x hx => if_neg (by simp [hw x hx])).trans (List.map_id _)
  unfold whenReading Yard.updMvs
  dsimp only
  rw [none, stands, List.map_nil, List.nil_append]
  exact workN_still (fun d hd => List.mem_singleton.1 hd ▸ tryActivate_active ha)

end

/-! ### The tests of a reading (R45) -/

theorem travelOf_some {y : Yard} {h : Holder} {a : Sampled} (ha : (y.hsu.holders.get h).travel = some a) :
    travelOf y h = some a.value := by simp [travelOf, ha]

theorem travelOf_none {y : Yard} {h : Holder} (ha : (y.hsu.holders.get h).travel = none) : travelOf y h = none := by
  simp [travelOf, ha]

/-- A holder read below its full stroke. -/
theorem below_of {y : Yard} {h : Holder} {t : Int} {g : Geometry} (ht : travelOf y h = some t)
    (hg : y.yds.geometry.get h = some g) (hb : t < g.full) :
    ∀ t' g', travelOf y h = some t' → y.yds.geometry.get h = some g' → t' < g'.full := by
  intro t' g' et eg
  cases ht.symm.trans et
  cases hg.symm.trans eg
  exact hb

/-- A holder is read of a working order that can be shut: the other orders of its holder wait, no order has a WHEN on the
holder read, and the holder read lies below its full stroke. -/
structure Yard.ReadsWorking (y : Yard) (before after : List Order) (o : Order) (vs : List (Valve × Point)) (h : Holder) :
    Prop extends y.CanShut before after o vs where
  worked : h ∈ y.mvs.worked o.holder
  alone : ∀ x ∈ before ++ after, x.holder = o.holder → x.state = .waiting
  noWhen : ∀ x ∈ before ++ after, ∀ t, x.start ≠ .whenAbove h t ∧ x.start ≠ .whenBelow h t
  below : ∀ t g, travelOf y h = some t → y.yds.geometry.get h = some g → t < g.full

section
variable {y : Yard} {before after : List Order} {o : Order} {vs : List (Valve × Point)} {h : Holder}

/-- What a reading comes to: the tests on the working order, and the previous travel written (R45, R48). -/
theorem Yard.ReadsWorking.mvsReading (r : y.ReadsWorking before after o vs h) {o' : Order}
    (hl : (orderReading h o y).mvs.orders = before ++ o' :: after) (hh : o'.holder = o.holder)
    (ha : o'.state.active = true) :
    mvsReading h y = (orderReading h o y).updMvs fun m => { m with prevTravel := m.prevTravel.set h (travelOf y h) } := by
  have frame : (orderReading h o y).unmoved = y.unmoved := orderReading_unmoved y h o
  have travel : travelOf (orderReading h o y) h = travelOf y h := by
    simp only [travelOf, Yard.hsu_of_unmoved frame]
  have coupled : (orderReading h o y).mvs.coupled = y.mvs.coupled := (congrArg (·.mvs.coupled) frame :)
  have holder : y.mvs.orderHolder h = o.holder := r.orderHolder r.worked
  have own : y.mvs.orderHolder o.holder = o.holder := r.orderHolder (y.mvs.worked_self _)
  have found : y.mvs.activeOrder h = some o := Mvs.activeOrder_listed r.listed r.alone r.active holder
  have top : overTop h (orderReading h o y) = orderReading h o y := by
    refine overTop_below fun t g et eg => r.below t g (travel ▸ et) ?_
    rw [show (orderReading h o y).yds = y.yds from (congrArg Yard.yds frame :)] at eg
    exact eg
  have still : whenReading h (orderReading h o y) = orderReading h o y := by
    refine whenReading_still (o := o') (fun x hx => ?_) ?_
    · rw [hl] at hx
      have other (m : x ∈ before ++ after) := whenMet_other (r.noWhen x m) (travelOf (orderReading h o y) h)
      obtain hx | hx := List.mem_append.1 hx
      · exact other (List.mem_append_left _ hx)
      · obtain rfl | hx := List.mem_cons.1 hx
        · exact whenMet_active ha _
        · exact other (List.mem_append_right _ hx)
    · rw [Mvs.orderHolder_congr coupled, holder]
      exact Mvs.activeOrder_listed hl (hh.symm ▸ r.alone) ha (by rw [Mvs.orderHolder_congr coupled, own, hh])
  unfold Machine.mvsReading
  rw [found]
  dsimp only
  rw [if_pos r.isWorking, top, still, travel]

/-- A reading that closes the order (R45, R49). -/
theorem Yard.ReadsWorking.closes (r : y.ReadsWorking before after o vs h) {reason : EndReason}
    (e : orderReading h o y = work [.close o.number reason] y) :
    Machine.mvsReading h y = (y.toClosing before after o vs reason).updMvs fun m =>
      { m with prevTravel := y.mvs.prevTravel.set h (travelOf y h) } := by
  rw [r.work_close] at e
  rw [r.mvsReading (o' := { o with state := .closing, reason := some reason }) (by rw [e]; rfl) rfl rfl, e,
    Yard.updMvs, Yard.toClosing_prevTravel]
  rfl

/-! ### Which test a reading meets (R45, R46) -/

theorem orderReading_lost (ht : travelOf y h = none) : orderReading h o y = work [.close o.number .readingLost] y := by
  simp [orderReading, ht]

theorem orderReading_limit {t : Int} {reason : EndReason} (ht : travelOf y h = some t)
    (hr : limitMet y o.kind [h] = some reason) : orderReading h o y = work [.close o.number reason] y := by
  simp [orderReading, ht, hr]

/-- Short of the limits, the stock direction is written, and the order closes or its valves are throttled (R46, R47). -/
theorem Yard.CanShut.orderReading_short (c : y.CanShut before after o vs) {t : Int} (ht : travelOf y h = some t)
    (hr : limitMet y o.kind [h] = none) {met : Bool} {d : StockDir} (he : endMetAt y o = (met, d)) :
    orderReading h o y =
      let z := y.withOrders (before ++ { o with stockDir := d } :: after)
      if met then work [.close o.number .endMet] z else throttle h t o z := by
  have dir := Yard.updOrder_listed c.listed c.numbers fun x => { x with stockDir := d }
  unfold orderReading
  rw [ht]
  dsimp only
  rw [hr]
  dsimp only
  rw [he, dir]

end

section
variable {y : Yard} {k : OrderKind} {h : Holder} {t : Int} {g : Geometry}

theorem limitMet_single (ht : travelOf y h = some t) (hg : y.yds.geometry.get h = some g) :
    limitMet y k [h] =
      if k ≠ .draw ∧ g.topStop ≤ t then some .topStop
      else if k ≠ .fill ∧ t ≤ g.landing then some .landing
      else none := by
  cases k <;> simp [limitMet, ht, atTop, atLanding, hg, OrderKind.fills, OrderKind.draws]

theorem limitMet_top (ht : travelOf y h = some t) (hg : y.yds.geometry.get h = some g) (nd : k ≠ .draw)
    (top : g.topStop ≤ t) : limitMet y k [h] = some .topStop :=
  (limitMet_single ht hg).trans (if_pos ⟨nd, top⟩)

/-- A FLOAT is tested at its top stop first (R43). -/
theorem limitMet_landing (ht : travelOf y h = some t) (hg : y.yds.geometry.get h = some g) (nf : k ≠ .fill)
    (under : k = .float → t < g.topStop) (land : t ≤ g.landing) : limitMet y k [h] = some .landing := by
  have short : ¬(k ≠ .draw ∧ g.topStop ≤ t) := by
    rintro ⟨nd, top⟩
    have float : k = .float := by cases k <;> simp_all
    exact absurd top (not_le.2 (under float))
  exact (limitMet_single ht hg).trans ((if_neg short).trans (if_pos ⟨nf, land⟩))

theorem limitMet_short (ht : travelOf y h = some t) (hg : y.yds.geometry.get h = some g)
    (above : k ≠ .fill → g.landing < t) (under : k ≠ .draw → t < g.topStop) : limitMet y k [h] = none := by
  have top : ¬(k ≠ .draw ∧ g.topStop ≤ t) := fun ⟨nd, top⟩ => absurd top (not_le.2 (under nd))
  have land : ¬(k ≠ .fill ∧ t ≤ g.landing) := fun ⟨nf, land⟩ => absurd land (not_le.2 (above nf))
  exact (limitMet_single ht hg).trans ((if_neg top).trans (if_neg land))

end

/-! ### The end condition (R28, R46) -/

section
variable {y : Yard} {h : Holder} {o : Order} {q x : Int}

theorem Status.worse_ne_unknown {a b : Status} : a.worse b ≠ .unknown ↔ a ≠ .unknown ∧ b ≠ .unknown := by
  cases a <;> cases b <;> decide

/-- The pair stock is known where both stocks are (R28). -/
theorem pairStock_known : (pairStock y h).1 = some q ∧ (pairStock y h).2 ≠ .unknown ↔
    ∃ a b, (y.hsu.holders.get h).stock = some a ∧ (y.hsu.holders.get h.partner).stock = some b ∧
      ((y.hsu.holders.get h).status ≠ .unknown ∧ (y.hsu.holders.get h.partner).status ≠ .unknown) ∧ a + b = q := by
  unfold pairStock
  dsimp only
  cases (y.hsu.holders.get h).stock <;> cases (y.hsu.holders.get h.partner).stock <;>
    simp [Status.worse_ne_unknown, and_comm]

/-- The stock an order looks at, where it has a status that is not UNKNOWN (R28, R46, R57). -/
theorem stockKnown_iff : y.StockKnown h q ↔ (orderStock y h).1 = some q ∧ (orderStock y h).2 ≠ .unknown := by
  unfold Yard.StockKnown orderStock Mvs.worked
  by_cases c : (y.mvs.isCoupled h && h.leads) = true
  · rw [if_pos c, if_pos c, pairStock_known]
    constructor
    · rintro ⟨_ | ⟨a, _ | ⟨b, _ | _⟩⟩, e, st, rfl⟩ <;> simp at e st
      exact ⟨a, b, e.1, e.2, st, by simp⟩
    · rintro ⟨a, b, ea, eb, st, rfl⟩
      exact ⟨[a, b], by simp [ea, eb], by simpa using st, by simp⟩
  · rw [if_neg c, if_neg c]
    constructor
    · rintro ⟨_ | ⟨a, _ | _⟩, e, st, rfl⟩ <;> simp at e st
      exact ⟨by simpa using e, st⟩
    · rintro ⟨e, st⟩
      exact ⟨[q], by simpa using e, by simpa using st, by simp⟩

/-- A FILL ends at and above its travel, a DRAW at and below it (R46). -/
theorem endMetAt_travel {t : Int} (hf : o.finish = .untilTravel x) (ht : travelOf y o.holder = some t) :
    endMetAt y o = (if o.kind = .fill then decide (x ≤ t) else decide (t ≤ x), o.stockDir) := by
  simp [endMetAt, hf, ht]

/-- Its UNTIL STOCK is tested over a stock that is known only (R46). -/
theorem endMetAt_unknown (hf : o.finish = .untilStock x) (hq : ∀ q, ¬y.StockKnown o.holder q) :
    endMetAt y o = (false, o.stockDir) := by
  unfold endMetAt
  rw [hf]
  dsimp only
  split
  · next q st e =>
    have : st = .unknown := by
      by_contra n; exact hq q (stockKnown_iff.2 (by rw [e]; exact ⟨rfl, n⟩))
    simp [this]
  · rfl

/-- A FILL ends at and above its stock, a DRAW at and below it, a FLOAT by its stock direction, which its first stock sets
(R46). -/
theorem endMetAt_stock (hf : o.finish = .untilStock x) (hq : y.StockKnown o.holder q) :
    endMetAt y o =
      match o.kind, o.stockDir with
      | .fill, d => (decide (x ≤ q), d)
      | .draw, d => (decide (q ≤ x), d)
      | .float, .rising => (decide (x ≤ q), .rising)
      | .float, .falling => (decide (q ≤ x), .falling)
      | .float, .unset => if q < x then (false, .rising) else if x < q then (false, .falling) else (true, .unset) := by
  obtain ⟨eq, st⟩ := stockKnown_iff.1 hq
  have e : orderStock y o.holder = (some q, (orderStock y o.holder).2) := Prod.ext eq rfl
  unfold endMetAt
  rw [hf, e]
  dsimp only
  rw [if_neg (by simpa using st)]
  cases o.kind <;> cases o.stockDir <;> rfl

theorem endMetAt_travel_met {t : Int} (hf : o.finish = .untilTravel x) (ht : travelOf y o.holder = some t)
    (met : (o.kind = .fill ∧ x ≤ t) ∨ (o.kind = .draw ∧ t ≤ x)) : endMetAt y o = (true, o.stockDir) := by
  rw [endMetAt_travel hf ht]
  obtain ⟨k, l⟩ | ⟨k, l⟩ := met
  · simpa [k] using l
  · simpa [k] using l

theorem endMetAt_stock_met (hf : o.finish = .untilStock x) (hq : y.StockKnown o.holder q)
    (met : (o.kind = .fill ∧ x ≤ q) ∨ (o.kind = .draw ∧ q ≤ x) ∨
      (o.kind = .float ∧ ((o.stockDir = .rising ∧ x ≤ q) ∨ (o.stockDir = .falling ∧ q ≤ x) ∨
        (o.stockDir = .unset ∧ q = x)))) : endMetAt y o = (true, o.stockDir) := by
  rw [endMetAt_stock hf hq]
  obtain ⟨k, l⟩ | ⟨k, l⟩ | ⟨k, ⟨d, l⟩ | ⟨d, l⟩ | ⟨d, l⟩⟩ := met
  · simpa [k] using l
  · simpa [k] using l
  · simpa [k, d] using l
  · simpa [k, d] using l
  · simp [k, d, l]

/-- The first stock of a FLOAT sets its stock direction, and ends nothing unless it is the stock asked for (R46). -/
theorem endMetAt_first {d : StockDir} (hf : o.finish = .untilStock x) (hq : y.StockKnown o.holder q) (hk : o.kind = .float)
    (hs : o.stockDir = .unset) (hd : (q < x ∧ d = .rising) ∨ (x < q ∧ d = .falling)) : endMetAt y o = (false, d) := by
  rw [endMetAt_stock hf hq, hk, hs]
  obtain ⟨l, rfl⟩ | ⟨l, rfl⟩ := hd
  · exact if_pos l
  · exact (if_neg (by omega)).trans (if_pos l)

/-- A FILL or a DRAW short of its travel, or an order short of its stock, goes on, its stock direction as it was (R46). -/
theorem endMetAt_short
    (ht : ∀ x, o.finish = .untilTravel x → o.kind ≠ .float ∧ ∀ t, travelOf y o.holder = some t →
      (o.kind = .fill → t < x) ∧ (o.kind = .draw → x < t))
    (hq : ∀ x, o.finish = .untilStock x → ∀ q, y.StockKnown o.holder q →
      (o.kind = .fill ∧ q < x) ∨ (o.kind = .draw ∧ x < q) ∨
        (o.kind = .float ∧ ((o.stockDir = .rising ∧ q < x) ∨ (o.stockDir = .falling ∧ x < q)))) :
    endMetAt y o = (false, o.stockDir) := by
  cases hf : o.finish with
  | absent => simp [endMetAt, hf]
  | untilPeriod p => simp [endMetAt, hf]
  | untilTravel x =>
    obtain ⟨nf, short⟩ := ht x hf
    cases et : travelOf y o.holder with
    | none => simp [endMetAt, hf, et]
    | some t =>
      obtain ⟨fills, draws⟩ := short t et
      rw [endMetAt_travel hf et]
      cases k : o.kind with
      | fill => simpa using fills k
      | draw => simpa using draws k
      | float => exact absurd k nf
  | untilStock x =>
    by_cases known : ∃ q, y.StockKnown o.holder q
    · obtain ⟨q, known⟩ := known
      rw [endMetAt_stock hf known]
      obtain ⟨k, l⟩ | ⟨k, l⟩ | ⟨k, ⟨d, l⟩ | ⟨d, l⟩⟩ := hq x hf q known
      · simpa [k] using l
      · simpa [k] using l
      · simpa [k, d] using l
      · simpa [k, d] using l
    · exact endMetAt_unknown hf (not_exists.1 known)

end

/-! ### The bands passed (R48) -/

/-- The bands, numbered, that a holder's travel has crossed. -/
def bandsCrossed (bs : List (Int × Int)) (k : Nat) (prev t : Int) : List ((Int × Int) × Nat) :=
  (bs.zipIdx k).filter fun b => decide ((prev < b.1.1 ∧ b.1.2 < t) ∨ (b.1.2 < prev ∧ t < b.1.1))

/-- The notices after BAND PASSED for each band of a list. -/
def Yard.raisedBands (y : Yard) (h : Holder) (bs : List ((Int × Int) × Nat)) : Notices :=
  bs.foldl (fun q b => q.raise .bandPassed h.number (b.2 : Int) (y.gdc.clock.map (·.day)) (y.gdc.clock.map (·.period)))
    y.notices

/-- The notices after BAND PASSED for each band crossed since the previous travel, where there is one (R48). -/
def Yard.bandNotices (y : Yard) (h : Holder) (t : Int) : Notices :=
  match y.mvs.prevTravel.get h with
  | some prev => y.raisedBands h (bandsCrossed (holderBands y h) 1 prev t)
  | none => y.notices

theorem bandsPassed_eq (h : Holder) (prev t : Int) (k : Nat) (bs : List (Int × Int)) (y : Yard) :
    bandsPassed h prev t k bs y = { y with notices := y.raisedBands h (bandsCrossed bs k prev t) } := by
  induction bs generalizing k y with
  | nil => rfl
  | cons b bs ih =>
    by_cases c : (prev < b.1 ∧ b.2 < t) ∨ (b.2 < prev ∧ t < b.1)
    · have crossed : bandsCrossed (b :: bs) k prev t = (b, k) :: bandsCrossed bs (k + 1) prev t := by
        simp [bandsCrossed, c]
      rw [bandsPassed, crossed, ih]
      simp [c, raiseNotice, Yard.raisedBands]
    · have passed : bandsCrossed (b :: bs) k prev t = bandsCrossed bs (k + 1) prev t := by
        simp [bandsCrossed, c]
      rw [bandsPassed, passed, ih]
      simp [c]

/-! ### The used valves throttled (R47) -/

section
variable {y : Yard} {h : Holder} {o : Order} {p : Commanded} {vs : List (Valve × Point)}

theorem insideAny_iff : insideAny y h = true ↔ y.InBand h := by
  unfold insideAny Yard.InBand travelOf holderBands
  cases (y.hsu.holders.get h).travel <;> cases y.yds.geometry.get h <;> simp [insideBand]

theorem workingPosition_eq (hp : (p = .cracked ∧ ∃ w ∈ y.mvs.worked o.holder, y.InBand w) ∨
    (p = .opened ∧ ∀ w ∈ y.mvs.worked o.holder, ¬y.InBand w)) : workingPosition y o = p := by
  unfold workingPosition
  obtain ⟨rfl, w, hw, b⟩ | ⟨rfl, none⟩ := hp
  · exact if_pos (List.any_eq_true.2 ⟨w, hw, insideAny_iff.2 b⟩)
  · exact if_neg fun c => by
      obtain ⟨w, hw, b⟩ := List.any_eq_true.1 c
      exact none w hw (insideAny_iff.1 b)

@[simp] theorem Yard.commandedTo_orders : (y.commandedTo p vs).mvs.orders = y.mvs.orders :=
  Mvs.commandTo_fold Mvs.orders (fun _ _ => Mvs.commandTo_orders) _ _

@[simp] theorem Yard.commandedTo_prevTravel : (y.commandedTo p vs).mvs.prevTravel = y.mvs.prevTravel :=
  Mvs.commandTo_fold Mvs.prevTravel (fun _ _ => Mvs.commandTo_prevTravel) _ _

/-- Used valves that can be commanded take the working position, those not there already, and then the bands are passed. -/
theorem throttle_eq (c : y.CanCommand vs) (hu : usedValves y o = vs.map (·.1)) (hp : workingPosition y o = p) (t : Int) :
    throttle h t o y =
      { y.commandedTo p (vs.filter fun x => decide ((y.mvs.valve x.1).commanded ≠ p)) with
        notices := y.bandNotices h t } := by
  have turned : ((usedValves y o).filter fun v => (y.mvs.valve v).commanded != p) =
      (vs.filter fun x => decide ((y.mvs.valve x.1).commanded ≠ p)).map (·.1) := by
    rw [hu, List.filter_map]
    congr 1
    exact List.filter_congr fun x _ => Bool.eq_iff_iff.2 (by simp)
  unfold throttle
  rw [hp]
  dsimp only
  rw [turned, (c.sublist List.filter_sublist).commandAll]
  dsimp only
  rw [work_nil, Yard.commandedTo_prevTravel, Yard.bandNotices]
  cases y.mvs.prevTravel.get h with
  | none => rfl
  | some prev => exact bandsPassed_eq ..

end

/-! ### A reading short of the limits (R45 to R48) -/

theorem Yard.withOrders_self {y : Yard} {l : List Order} (h : y.mvs.orders = l) : y.withOrders l = y := by subst h; rfl

section
variable {y : Yard} {before after : List Order} {o : Order} {vs : List (Valve × Point)} {h : Holder} {t : Int}

/-- An end condition met closes the order (R46). -/
theorem Yard.ReadsWorking.ends (r : y.ReadsWorking before after o vs h) (ht : travelOf y h = some t)
    (hl : limitMet y o.kind [h] = none) (he : endMetAt y o = (true, o.stockDir)) :
    orderReading h o y = work [.close o.number .endMet] y := by
  rw [r.orderReading_short ht hl he]
  exact congrArg (work _) (Yard.withOrders_self r.listed)

/-- An end condition not met, the stock direction is written, the used valves are throttled and the bands passed (R46 to
R48). -/
theorem Yard.ReadsWorking.goesOn (r : y.ReadsWorking before after o vs h) (ht : travelOf y h = some t)
    (hl : limitMet y o.kind [h] = none) {d : StockDir} (he : endMetAt y o = (false, d)) {p : Commanded}
    (hp : workingPosition y o = p) :
    Machine.mvsReading h y =
      { (y.withOrders (before ++ { o with stockDir := d } :: after)).commandedTo p
          (vs.filter fun x => decide ((y.mvs.valve x.1).commanded ≠ p)) with
        notices := y.bandNotices h t }.updMvs fun m => { m with prevTravel := y.mvs.prevTravel.set h (travelOf y h) } := by
  have commands : (y.withOrders (before ++ { o with stockDir := d } :: after)).CanCommand vs :=
    r.canCommand.of_eq rfl rfl
  have e := (r.orderReading_short ht hl he).trans (throttle_eq commands r.usedValves hp t)
  have orders : (orderReading h o y).mvs.orders = before ++ { o with stockDir := d } :: after :=
    (congrArg (·.mvs.orders) e).trans Yard.commandedTo_orders
  have prev : (orderReading h o y).mvs.prevTravel = y.mvs.prevTravel :=
    (congrArg (·.mvs.prevTravel) e).trans Yard.commandedTo_prevTravel
  rw [r.mvsReading (o' := { o with stockDir := d }) orders rfl r.active, Yard.updMvs, prev, e]
  rfl

theorem Yard.ReadsWorking.goesOn_orders (r : y.ReadsWorking before after o vs h) (ht : travelOf y h = some t)
    (hl : limitMet y o.kind [h] = none) {d : StockDir} (he : endMetAt y o = (false, d)) :
    (Machine.mvsReading h y).mvs.orders = before ++ { o with stockDir := d } :: after :=
  (congrArg (·.mvs.orders) (r.goesOn ht hl he rfl)).trans Yard.commandedTo_orders

end

/-! ### The stocks returned (R23 to R25, R150) -/

/-- The status of a computation, from its sources and its mark (R24). -/
theorem jobStatus_eq (j : StockJob) (clamped : Bool) :
    jobStatus j clamped =
      if j.travelSource = .held ∨ j.travelSource = .declared ∨ j.tempSource = none ∨ j.tempSource = some .held ∨
        j.tempSource = some .declared ∨ clamped = true then .estimated else .good := by
  unfold jobStatus
  cases e : j.tempSource <;> simp [or_assoc]

section
variable {y : Yard} {h : Holder}

/-- The yard with a computation returned, its figures and its status in the holder's record (R23, R24). -/
def Yard.withStock (y : Yard) (h : Holder) (j : StockJob) (rest : List StockJob) : Yard :=
  let res := stockResult y.yds.vapour j
  { y with hsu := { y.hsu with
    stockJobs := rest
    holders := y.hsu.holders.set h { y.hsu.holders.get h with
      zone := res.zone, pressure := res.pressure, stock := some res.stock, clamped := res.clamped
      status := jobStatus j res.clamped } } }

theorem stockBack_eq {j : StockJob} {rest : List StockJob} (hj : y.hsu.stockJobs = j :: rest) (hh : j.holder = h) :
    stockBack h y =
      let z := mvsReading h (y.withStock h j rest)
      if contribution z h = contribution y h then z else newContribution h z := by
  have taken : takeFirst (fun j => j.holder == h) y.hsu.stockJobs = some (j, rest) := by simp [hj, takeFirst, hh]
  unfold stockBack
  rw [taken]
  rfl

/-- A stock returned with no order in the list, its holder below its full stroke: only the previous travel is written besides
(R29, R48). -/
theorem stockBack_idle {j : StockJob} {rest : List StockJob} (hj : y.hsu.stockJobs = j :: rest) (hh : j.holder = h)
    (ho : y.mvs.orders = []) (below : ∀ t g, travelOf y h = some t → y.yds.geometry.get h = some g → t < g.full) :
    stockBack h y =
      (y.withStock h j rest).updMvs fun m => { m with prevTravel := m.prevTravel.set h (travelOf y h) } := by
  have travel : travelOf (y.withStock h j rest) h = travelOf y h := by simp [Yard.withStock, travelOf]
  have read := mvsReading_idle (y := y.withStock h j rest) ho h
  rw [overTop_below (travel ▸ below), travel] at read
  rw [stockBack_eq hj hh, read]
  dsimp only
  split
  · rfl
  · refine newContribution_idle ?_ h
    exact ho

/-- A closing stock goes to the current day where it closes that (R150). -/
theorem soaClosing_current {c : Closing} {d : Day} (hc : y.yds.desc = .committed) (hd : y.soa.current = some d)
    (e : d.day = c.day) :
    soaClosing h c y = { y with soa := { y.soa with
      current := some { d with closings := d.closings.set h (some ⟨c.stock, c.status, c.period⟩) } } } := by
  simp [soaClosing, isCommitted_of hc, Soa.updDay, hd, e, Yard.updSoa]

theorem closingBack_eq {j : ClosingJob} {rest : List ClosingJob} (hj : y.hsu.closingJobs = j :: rest)
    (hh : j.job.holder = h) :
    let res := stockResult y.yds.vapour j.job
    closingBack h y = recordClosing h ⟨some res.stock, jobStatus j.job res.clamped, j.day, j.period⟩
      (y.updHsu fun u => { u with closingJobs := rest }) := by
  have taken : takeFirst (fun j => j.job.holder == h) y.hsu.closingJobs = some (j, rest) := by simp [hj, takeFirst, hh]
  unfold closingBack
  rw [taken]

end

theorem whilePowered_on {s : State} (hp : s.powered = true) (f : Yard → Yard) :
    whilePowered f s = { s with yard := f s.yard } := by simp [whilePowered, hp]

/-- Settles O45: the tests of a reading in their order, and the two computations returned. -/
theorem stockReturned : Obligations.StockReturned := by
  refine ⟨fun y before after o vs c h hw others => ?_, fun s h hp hc => ⟨?_, ?_⟩⟩
  · have reads (below : ∀ t g, travelOf y h = some t → y.yds.geometry.get h = some g → t < g.full) :
        y.ReadsWorking before after o vs h :=
      { toCanShut := c, worked := hw, alone := fun x hx => (others x hx).1, noWhen := fun x hx => (others x hx).2, below }
    refine ⟨fun lost => ?_, fun a g ha hg full => ?_⟩
    · have lost := travelOf_none lost
      exact (reads fun t g et => by rw [lost] at et; cases et).closes (orderReading_lost lost)
    · have ht := travelOf_some ha
      have r := reads (below_of ht hg full)
      refine ⟨fun nd top => ?_, fun nf under land => ?_, fun above under => ?_⟩
      · exact r.closes (orderReading_limit ht (limitMet_top ht hg nd top))
      · exact r.closes (orderReading_limit ht (limitMet_landing ht hg nf under land))
      · have short := limitMet_short ht hg above under
        refine ⟨fun x t hf et met => r.closes (r.ends ht short (endMetAt_travel_met hf et met)),
          fun x q hf hq met => r.closes (r.ends ht short (endMetAt_stock_met hf hq met)),
          fun x q d hf hq hk hs hd o' mo' en => ?_, fun p travel stock hp => ?_⟩
        · rw [r.goesOn_orders ht short (endMetAt_first hf hq hk hs hd)] at mo'
          obtain m | m := List.mem_append.1 mo'
          · exact absurd en (c.numbers o' (List.mem_append_left _ m))
          · obtain rfl | m := List.mem_cons.1 m
            · exact ⟨rfl, rfl⟩
            · exact absurd en (c.numbers o' (List.mem_append_right _ m))
        · have on := r.goesOn ht short (endMetAt_short travel stock) (workingPosition_eq hp)
          rw [Yard.withOrders_self r.listed, Yard.bandNotices, holderBands, hg] at on
          exact on
  · intro j rest a g hj hh ho ha hg full res
    have ht := travelOf_some ha
    refine congrArg concluded ((whilePowered_on hp _).trans ?_)
    rw [stockBack_idle hj hh ho (below_of ht hg full), ht, Yard.withStock, jobStatus_eq]
    rfl
  · intro j rest d hj hh hd e res status
    refine congrArg concluded ((whilePowered_on hp _).trans ?_)
    rw [closingBack_eq hj hh, jobStatus_eq]
    exact congrArg (fun z => ({ s with yard := z } : State)) (soaClosing_current hc hd e)

end Sys2Proof.Machine
end

section
/-! SUPPORT. The laws of the order list, the valves and the trip, kept by every deed of MVS (R34, R39, R42, R55, R62). -/

namespace Sys2Proof.Machine

/-! ### What the laws look at -/

/-- What the laws look at in MVS: the orders, the coupling, the trip state, and the position each valve is commanded to. -/
def Mvs.plan (m : Mvs) : List Order × Three Bool × Bool × (Valve → Commanded) :=
  (m.orders, m.coupled, m.tripped, fun v => (m.valve v).commanded)

/-- What the laws look at in the yard: the description state and the bindings, and what they look at in MVS. -/
def Yard.plan (y : Yard) : DescState × Bindings × List Order × Three Bool × Bool × (Valve → Commanded) :=
  (y.yds.desc, y.yds.bind, y.mvs.plan)

/-- A valve at this position passes gas. -/
def Commanded.passes (p : Commanded) : Prop := p = .cracked ∨ p = .opened

/-- A valve is used by a working order of its holder (R34). -/
def Order.works (o : Order) (m : Mvs) (v : Valve) : Prop :=
  (o.state = .opening ∨ o.state = .running) ∧ o.holder = m.orderHolder v.holder ∧ v.side ∈ o.kind.used

/-- The laws of the valves: no order stands while OPEN, and a valve that passes gas is bound and used by a working order (R34). -/
structure Yard.ValvesHeld (y : Yard) : Prop where
  opened : y.yds.desc = .opened → y.mvs.orders = []
  worked : ∀ v, (y.mvs.valve v).commanded.passes → y.yds.bind.valve v ≠ none ∧ ∃ o ∈ y.mvs.orders, o.works y.mvs v

/-- The law of the trip (R62). -/
def Mvs.TripHeld (m : Mvs) : Prop := m.tripped = true → ∀ o ∈ m.orders, o.kind.fills = true → o.state = .closing

/-- The order list is lawful, and so are the valves (where valves is asked for) and the trip (where trip is). -/
structure Yard.Ordered (valves trip : Prop) (y : Yard) : Prop where
  lawful : y.mvs.Lawful
  held : valves → y.ValvesHeld
  trips : trip → y.mvs.TripHeld

theorem Yard.valvesLawful_iff {y : Yard} : y.ValvesLawful ↔ y.ValvesHeld ∧ y.mvs.TripHeld :=
  ⟨fun ⟨o, w, t⟩ => ⟨⟨o, w⟩, t⟩, fun ⟨⟨o, w⟩, t⟩ => ⟨o, w, t⟩⟩

section
variable {y z : Yard} {m n : Mvs} {q r : Prop}

theorem Yard.plan_eq_iff : z.plan = y.plan ↔ z.yds.desc = y.yds.desc ∧ z.yds.bind = y.yds.bind ∧
    z.mvs.orders = y.mvs.orders ∧ z.mvs.coupled = y.mvs.coupled ∧ z.mvs.tripped = y.mvs.tripped ∧
    ∀ v, (z.mvs.valve v).commanded = (y.mvs.valve v).commanded := by
  simp only [Yard.plan, Mvs.plan, Prod.mk.injEq, funext_iff]

/-- The order list stays lawful where each order stands with its number and holder, and none becomes active. -/
theorem Mvs.Lawful.map {f : Order → Order} (lw : m.Lawful) (ho : n.orders = m.orders.map f) (hc : n.coupled = m.coupled)
    (hf : ∀ x ∈ m.orders, (f x).number = x.number ∧ (f x).holder = x.holder ∧
      ((f x).state.active = true → x.state.active = true)) : n.Lawful where
  length := by simpa [ho] using lw.length
  numbers := by
    rw [ho, List.pairwise_map]
    exact lw.numbers.imp_of_mem fun ha hb d => by rwa [(hf _ ha).1, (hf _ hb).1]
  single := by
    rw [ho, List.pairwise_map]
    refine lw.single.imp_of_mem fun {a b} ha hb d c => d ?_
    obtain ⟨-, ea, sa⟩ := hf a ha
    obtain ⟨-, eb, sb⟩ := hf b hb
    exact ⟨sa c.1, sb c.2.1, ea ▸ eb ▸ c.2.2⟩
  follower := by
    intro o mo
    rw [ho] at mo
    obtain ⟨x, mx, rfl⟩ := List.mem_map.1 mo
    have e : n.role = m.role := by unfold Mvs.role Mvs.isCoupled; rw [hc]
    rw [e, (hf x mx).2.1]
    exact lw.follower x mx

theorem Mvs.Lawful.of_eq (lw : m.Lawful) (ho : n.orders = m.orders) (hc : n.coupled = m.coupled) : n.Lawful :=
  lw.map (f := id) (by simpa using ho) hc fun _ _ => ⟨rfl, rfl, id⟩

/-- Orders that leave the list leave it lawful. -/
theorem Mvs.Lawful.sublist (lw : m.Lawful) (ho : n.orders.Sublist m.orders) (hc : n.coupled = m.coupled) : n.Lawful where
  length := ho.length_le.trans lw.length
  numbers := lw.numbers.sublist ho
  single := lw.single.sublist ho
  follower := by
    have e : n.role = m.role := by unfold Mvs.role Mvs.isCoupled; rw [hc]
    exact fun o mo => e ▸ lw.follower o (ho.subset mo)

theorem Order.works_congr {o : Order} {v : Valve} (hc : n.coupled = m.coupled) : o.works n v ↔ o.works m v := by
  rw [Order.works, Mvs.orderHolder_congr hc, Order.works]

/-- The laws of the valves where fewer valves pass gas, each of them still used by a working order. -/
theorem Yard.ValvesHeld.fewer (held : y.ValvesHeld) (hd : z.yds = y.yds) (ho : y.mvs.orders = [] → z.mvs.orders = [])
    (hv : ∀ v, (z.mvs.valve v).commanded.passes → (y.mvs.valve v).commanded.passes ∧
      ∀ o ∈ y.mvs.orders, o.works y.mvs v → ∃ x ∈ z.mvs.orders, x.works z.mvs v) : z.ValvesHeld where
  opened h := ho (held.opened (hd ▸ h))
  worked v hp := by
    obtain ⟨before, kept⟩ := hv v hp
    obtain ⟨bound, o, mo, works⟩ := held.worked v before
    exact ⟨hd ▸ bound, kept o mo works⟩

/-- The laws see the plan alone. -/
theorem Yard.Ordered.of_plan (hy : y.Ordered q r) (h : z.plan = y.plan) : z.Ordered q r := by
  obtain ⟨hd, hb, ho, hc, ht, hv⟩ := Yard.plan_eq_iff.1 h
  refine ⟨hy.lawful.of_eq ho hc, fun a => ?_, fun b => ?_⟩
  · obtain ⟨opened, worked⟩ := hy.held a
    refine ⟨by rwa [hd, ho], fun v => ?_⟩
    rw [hv, hb, ho]
    simpa only [Order.works_congr hc] using worked v
  · have trips := hy.trips b
    unfold Mvs.TripHeld at trips ⊢
    rwa [ho, ht]

/-- With the order list empty no valve passes gas, so that the description may change. -/
theorem Yard.Ordered.bare (hy : y.Ordered q r) (he : y.yds.desc = .opened ∨ y.mvs.orders = []) (h : z.mvs.plan = y.mvs.plan) :
    z.Ordered q r := by
  simp only [Mvs.plan, Prod.mk.injEq, funext_iff] at h
  obtain ⟨ho, hc, ht, hv⟩ := h
  refine ⟨hy.lawful.of_eq ho hc, fun a => ?_, fun b => ?_⟩
  · have empty : y.mvs.orders = [] := he.elim (hy.held a).opened id
    refine ⟨fun _ => ho.trans empty, fun v hp => ?_⟩
    obtain ⟨-, o, mo, -⟩ := (hy.held a).worked v (hv v ▸ hp)
    simp [empty] at mo
  · have trips := hy.trips b
    unfold Mvs.TripHeld at trips ⊢
    rwa [ho, ht]

end

/-! ### The plan after each update -/

section
variable (y : Yard)

@[simp] theorem Yard.updHsu_plan (f : Hsu → Hsu) : (y.updHsu f).plan = y.plan := rfl
@[simp] theorem Yard.updGdc_plan (f : Gdc → Gdc) : (y.updGdc f).plan = y.plan := rfl
@[simp] theorem Yard.updDgu_plan (f : Dgu → Dgu) : (y.updDgu f).plan = y.plan := rfl
@[simp] theorem Yard.updYlc_plan (f : Ylc → Ylc) : (y.updYlc f).plan = y.plan := rfl
@[simp] theorem Yard.updScs_plan (f : Scs → Scs) : (y.updScs f).plan = y.plan := rfl
@[simp] theorem Yard.updQpr_plan (f : Qpr → Qpr) : (y.updQpr f).plan = y.plan := rfl
@[simp] theorem Yard.updSoa_plan (f : Soa → Soa) : (y.updSoa f).plan = y.plan := rfl
@[simp] theorem Yard.updHolder_plan (h : Holder) (f : HolderDyn → HolderDyn) : (y.updHolder h f).plan = y.plan := rfl
@[simp] theorem Yard.updDistrict_plan (d : District) (f : DistrictDyn → DistrictDyn) :
    (y.updDistrict d f).plan = y.plan := rfl
@[simp] theorem Yard.updRec_plan (s : Slot) (f : QRec → QRec) : (y.updRec s f).plan = y.plan := rfl
@[simp] theorem Yard.reach_plan (t : Time) : (y.reach t).plan = y.plan := rfl
@[simp] theorem raiseNotice_plan (k : NoticeKind) (o : Nat) (v : Int) : (raiseNotice k o v y).plan = y.plan := rfl
@[simp] theorem putCommand_plan (p : Point) (c : CmdCode) (v : Int) (w : Owner) :
    (putCommand p c v w y).1.plan = y.plan := rfl
@[simp] theorem drawShortfall_plan : (drawShortfall y).2.plan = y.plan := rfl
@[simp] theorem updEntryDyn_plan (a : Nat) (f : EntryDyn → EntryDyn) : (updEntryDyn a f y).plan = y.plan := rfl
@[simp] theorem setUnmanaged_plan (hs : List Holder) (b : Bool) : (setUnmanaged hs b y).plan = y.plan := rfl
@[simp] theorem setShutPending_plan (hs : List Holder) (b : Bool) : (setShutPending hs b y).plan = y.plan := rfl
@[simp] theorem raiseEnded_plan (o : Order) (r : EndReason) : (raiseEnded o r y).plan = y.plan := rfl
@[simp] theorem raiseStuck_plan (v : Valve) : (raiseStuck v y).plan = y.plan := rfl
@[simp] theorem raiseLocal_plan (v : Valve) : (raiseLocal v y).plan = y.plan := rfl

/-- A valve record written with its commanded position kept. -/
theorem Yard.setValve_plan {v : Valve} {f : Mvs → ValveRec} (hf : (f y.mvs).commanded = (y.mvs.valve v).commanded) :
    (y.updMvs fun m => m.setValve v (f m)).plan = y.plan := by
  refine Yard.plan_eq_iff.2 ⟨rfl, rfl, by simp, by simp, by simp, fun w => ?_⟩
  by_cases e : w = v
  · subst e; simpa using hf
  · simp [Mvs.valve_setValve_ne _ _ e]

@[simp] theorem setTimer_plan (v : Valve) (t : Timer) : (setTimer v t y).plan = y.plan := y.setValve_plan rfl

@[simp] theorem testShutHolder_plan (h : Holder) : (testShutHolder h y).plan = y.plan := by
  unfold testShutHolder; split <;> simp

end

/-! ### Valves commanded in turn (R34) -/

section
variable (y : Yard) (p : Commanded) (v w : Valve) (vs : List Valve)

/-- Commanding a valve touches no more of MVS than that valve, which must be bound, and the description COMMITTED (R34). -/
theorem commandValve_mvs : (commandValve v p y).1.mvs =
    if y.yds.bind.valve v ≠ none ∧ y.yds.desc = .committed then y.mvs.commandTo p v else y.mvs := by
  unfold commandValve
  cases b : y.yds.bind.valve v with
  | none => simp
  | some pt =>
    by_cases c : y.yds.desc = .committed
    · dsimp only
      rw [if_pos (isCommitted_of c), if_pos (show some pt ≠ none ∧ _ from ⟨by simp, c⟩)]
      split <;> rfl
    · simp [Yard.isCommitted, c]

@[simp] theorem commandValve_yds : (commandValve v p y).1.yds = y.yds :=
  Yard.yds_of_described (described_of_unmoved (commandValve_unmoved y v p))

theorem commandValve_others : (commandValve v p y).1.yds = y.yds ∧ (commandValve v p y).1.mvs.orders = y.mvs.orders ∧
    (commandValve v p y).1.mvs.coupled = y.mvs.coupled ∧ (commandValve v p y).1.mvs.tripped = y.mvs.tripped := by
  rw [commandValve_mvs]
  split <;> simp [Mvs.commandTo]

theorem commandValve_commanded : ((commandValve v p y).1.mvs.valve w).commanded =
    if w = v ∧ y.yds.bind.valve v ≠ none ∧ y.yds.desc = .committed then p else (y.mvs.valve w).commanded := by
  rw [commandValve_mvs]
  by_cases e : w = v
  · subst e; split <;> simp [*, Mvs.commandTo]
  · split <;> simp [e, Mvs.commandTo, Mvs.valve_setValve_ne]

theorem commandAll_others : (commandAll p vs y).1.yds = y.yds ∧ (commandAll p vs y).1.mvs.orders = y.mvs.orders ∧
    (commandAll p vs y).1.mvs.coupled = y.mvs.coupled ∧ (commandAll p vs y).1.mvs.tripped = y.mvs.tripped :=
  commandAll_keeps (P := fun z => z.yds = y.yds ∧ z.mvs.orders = y.mvs.orders ∧ z.mvs.coupled = y.mvs.coupled ∧
      z.mvs.tripped = y.mvs.tripped)
    (fun v z ⟨hd, ho, hc, ht⟩ =>
      let ⟨d, o, c, t⟩ := commandValve_others z p v
      ⟨d.trans hd, o.trans ho, c.trans hc, t.trans ht⟩) vs ⟨rfl, rfl, rfl, rfl⟩

@[simp] theorem commandAll_yds : (commandAll p vs y).1.yds = y.yds := (commandAll_others y p vs).1
@[simp] theorem commandAll_orders : (commandAll p vs y).1.mvs.orders = y.mvs.orders := (commandAll_others y p vs).2.1
@[simp] theorem commandAll_coupled : (commandAll p vs y).1.mvs.coupled = y.mvs.coupled :=
  (commandAll_others y p vs).2.2.1
@[simp] theorem commandAll_tripped : (commandAll p vs y).1.mvs.tripped = y.mvs.tripped :=
  (commandAll_others y p vs).2.2.2

/-- While COMMITTED each bound valve of those commanded stands at the position, and every other valve as it did. -/
theorem commandAll_commanded : ((commandAll p vs y).1.mvs.valve w).commanded =
    if w ∈ vs ∧ y.yds.bind.valve w ≠ none ∧ y.yds.desc = .committed then p else (y.mvs.valve w).commanded := by
  induction vs generalizing y with
  | nil => simp [commandAll]
  | cons v vs ih =>
    simp only [commandAll, ih, commandValve_commanded, commandValve_yds, List.mem_cons]
    by_cases e : w = v
    · subst e; split <;> split <;> simp_all
    · simp [e]

/-- Valves commanded SHUT pass gas no more, and no other begins to. -/
theorem passes_of_commandAll_shut (h : ((commandAll .shut vs y).1.mvs.valve w).commanded.passes) :
    (y.mvs.valve w).commanded.passes ∧ ¬(w ∈ vs ∧ y.yds.bind.valve w ≠ none ∧ y.yds.desc = .committed) := by
  rw [commandAll_commanded] at h
  split at h
  · simp [Commanded.passes] at h
  · next c => exact ⟨h, c⟩

end

/-! ### Orders that change, end, or begin to work -/

section
variable {y z : Yard} {q r : Prop} {n : Nat} {o : Order} {f : Order → Order}

/-- An order that stands as it did, or goes from OPENING to RUNNING, its number, holder and kind kept. -/
def Order.goesOn (x z : Order) : Prop :=
  z.number = x.number ∧ z.holder = x.holder ∧ z.kind = x.kind ∧
    (z.state = x.state ∨ x.state = .opening ∧ z.state = .running)

theorem Order.goesOn_self (x : Order) : x.goesOn x := ⟨rfl, rfl, rfl, .inl rfl⟩

/-- Orders that go on keep the laws. -/
theorem Yard.Ordered.map (hy : y.Ordered q r) (hf : ∀ x ∈ y.mvs.orders, x.goesOn (f x)) :
    (y.updMvs fun m => { m with orders := m.orders.map f }).Ordered q r where
  lawful := hy.lawful.map rfl rfl fun x mx => by
    obtain ⟨hn, hh, -, hs | ⟨hs, -⟩⟩ := hf x mx
    · exact ⟨hn, hh, by rw [hs]; exact id⟩
    · exact ⟨hn, hh, fun _ => by rw [hs]; rfl⟩
  held a := (hy.held a).fewer rfl (fun e => by simp [e]) fun v hp => ⟨hp, fun x mx ⟨hw, hh, hu⟩ => by
    obtain ⟨-, eh, ek, es⟩ := hf x mx
    refine ⟨f x, List.mem_map_of_mem mx, ?_, by rw [eh]; exact hh, by rw [ek]; exact hu⟩
    obtain es | ⟨-, es⟩ := es
    · rwa [es]
    · exact .inr es⟩
  trips b := fun ht o mo hk => by
    obtain ⟨x, mx, rfl⟩ := List.mem_map.1 mo
    obtain ⟨-, -, ek, es⟩ := hf x mx
    have closing := hy.trips b ht x mx (ek ▸ hk)
    obtain es | ⟨es, -⟩ := es
    · rwa [es]
    · rw [es] at closing; cases closing

/-- The order of a number goes on. -/
theorem Yard.Ordered.updOrder (hy : y.Ordered q r) (hf : ∀ x ∈ y.mvs.orders, x.number = n → x.goesOn (f x)) :
    (y.updMvs (·.updOrder n f)).Ordered q r :=
  hy.map fun x mx => by
    by_cases e : x.number = n
    · simpa [e] using hf x mx e
    · simpa [e] using x.goesOn_self

/-- The laws of the valves after one order has left off working, the valves it used passing gas no more: each other order of
the list stands. -/
theorem Yard.ValvesHeld.leaves (held : y.ValvesHeld) (lw : y.mvs.Lawful) (mo : o ∈ y.mvs.orders) (hd : z.yds = y.yds)
    (hc : z.mvs.coupled = y.mvs.coupled) (ho : ∀ x ∈ y.mvs.orders, x.number ≠ o.number → x ∈ z.mvs.orders)
    (hv : ∀ v, (z.mvs.valve v).commanded.passes → (y.mvs.valve v).commanded.passes ∧ ¬o.works y.mvs v) :
    z.ValvesHeld := by
  refine held.fewer hd (fun e => by rw [e] at mo; cases mo) fun v hp => ?_
  obtain ⟨before, free⟩ := hv v hp
  refine ⟨before, fun x mx works => ⟨x, ho x mx fun e => free ?_, (Order.works_congr hc).2 works⟩⟩
  rwa [lw.eq_of_number mx mo e] at works

/-- An order leaves the list, the valves it used passing gas no more. -/
theorem Yard.Ordered.leaves (hy : y.Ordered q r) (mo : o ∈ y.mvs.orders) (hd : z.yds = y.yds)
    (hc : z.mvs.coupled = y.mvs.coupled) (ht : z.mvs.tripped = y.mvs.tripped)
    (ho : z.mvs.orders = y.mvs.orders.filter fun x => !(x.number == o.number))
    (hv : q → ∀ v, (z.mvs.valve v).commanded.passes → (y.mvs.valve v).commanded.passes ∧ ¬o.works y.mvs v) : z.Ordered q r where
  lawful := hy.lawful.sublist (ho ▸ List.filter_sublist) hc
  held a := (hy.held a).leaves hy.lawful mo hd hc (fun x mx e => by rw [ho]; simp [mx, e]) (hv a)
  trips b t x mx hk := by
    rw [ho] at mx
    exact hy.trips b (ht ▸ t) x (List.mem_filter.1 mx).1 hk

theorem Order.not_works_of_idle {m : Mvs} {v : Valve} (h : o.state = .waiting ∨ o.state = .closing) : ¬o.works m v := by
  rintro ⟨w | w, -⟩ <;> obtain h | h := h <;> rw [w] at h <;> cases h

/-- A WAITING or CLOSING order leaves the list. -/
theorem Yard.Ordered.drop (hy : y.Ordered q r) (mo : o ∈ y.mvs.orders) (hs : o.state = .waiting ∨ o.state = .closing) :
    (y.updMvs (·.dropOrder o.number)).Ordered q r :=
  hy.leaves mo rfl rfl rfl rfl fun _ _ hp => ⟨hp, Order.not_works_of_idle hs⟩

/-- An order goes to CLOSING or back to WAITING, the valves it used passing gas no more; while TRIPPED no order that fills goes
back. -/
theorem Yard.Ordered.stops {g : Order → Order} (hy : y.Ordered q r) (mo : o ∈ y.mvs.orders) (hd : z.yds = y.yds)
    (hc : z.mvs.coupled = y.mvs.coupled) (ht : z.mvs.tripped = y.mvs.tripped)
    (ho : z.mvs.orders = y.mvs.orders.map fun x => if x.number == o.number then g x else x)
    (hg : (g o).number = o.number ∧ (g o).holder = o.holder ∧ (g o).kind = o.kind)
    (hs : (g o).state = .waiting ∧ ¬(y.mvs.tripped = true ∧ o.kind.fills = true) ∨
      (g o).state = .closing ∧ o.state.active = true)
    (hv : q → ∀ v, (z.mvs.valve v).commanded.passes → (y.mvs.valve v).commanded.passes ∧ ¬o.works y.mvs v) :
    z.Ordered q r := by
  have one : ∀ x ∈ y.mvs.orders, x.number = o.number → x = o := fun x mx e => hy.lawful.eq_of_number mx mo e
  obtain ⟨gn, gh, gk⟩ := hg
  refine ⟨hy.lawful.map ho hc fun x mx => ?_, fun a => ?_, fun b t x mx hk => ?_⟩
  · by_cases e : x.number = o.number
    · obtain rfl := one x mx e
      obtain ⟨hs, -⟩ | ⟨hs, act⟩ := hs
      · simp [gn, gh, hs, OrderState.active]
      · simp [gn, gh, act]
    · simp [e]
  · refine (hy.held a).leaves hy.lawful mo hd hc (fun x mx e => ?_) (hv a)
    rw [ho]
    exact List.mem_map.2 ⟨x, mx, by simp [e]⟩
  · rw [ho] at mx
    obtain ⟨u, mu, rfl⟩ := List.mem_map.1 mx
    by_cases e : u.number = o.number
    · obtain rfl := one u mu e
      simp only [beq_self_eq_true, if_true] at hk ⊢
      obtain ⟨-, free⟩ | ⟨hs, -⟩ := hs
      · exact absurd ⟨ht ▸ t, gk ▸ hk⟩ free
      · exact hs
    · simp only [beq_iff_eq, e, if_false] at hk ⊢
      exact hy.trips b (ht ▸ t) u mu hk

theorem Mvs.mem_of_orderOf {m : Mvs} (h : m.orderOf n = some o) : o ∈ m.orders ∧ o.number = n :=
  ⟨List.mem_of_find?_eq_some h, by simpa using List.find?_some h⟩

theorem Mvs.mem_of_activeOrder {m : Mvs} {h : Holder} (e : m.activeOrder h = some o) :
    o ∈ m.orders ∧ o.state.active = true ∧ o.holder = m.orderHolder h :=
  ⟨List.mem_of_find?_eq_some e, by simpa using List.find?_some e⟩

theorem orderOfValve_active {v : Valve} (h : orderOfValve y v = some o) :
    o ∈ y.mvs.orders ∧ o.state.active = true ∧ o.holder = y.mvs.orderHolder v.holder := by
  unfold orderOfValve at h
  split at h
  · exact Mvs.mem_of_activeOrder h
  · cases h

/-- The valves an order works are its bound used valves (R34, R44). -/
theorem mem_usedValves {v : Valve} (lw : y.mvs.Lawful) (mo : o ∈ y.mvs.orders) :
    v ∈ usedValves y o ↔ (y.yds.bind.valve v ≠ none ∧ o.holder = y.mvs.orderHolder v.holder ∧ v.side ∈ o.kind.used) := by
  rw [← Mvs.mem_worked_iff (lw.follower o mo)]
  rcases v with ⟨h, s⟩
  simp only [usedValves, Yds.boundValves, List.mem_filter, List.mem_flatMap, List.mem_map, Valve.mk.injEq,
    Option.isSome_iff_ne_none]
  constructor
  · rintro ⟨⟨k, hk, t, ht, rfl, rfl⟩, b⟩; exact ⟨b, hk, ht⟩
  · rintro ⟨b, hk, ht⟩; exact ⟨⟨h, hk, s, ht, rfl, rfl⟩, b⟩

theorem mem_allValves {v : Valve} (lw : y.mvs.Lawful) (mo : o ∈ y.mvs.orders) :
    v ∈ allValves y o ↔ (y.yds.bind.valve v ≠ none ∧ o.holder = y.mvs.orderHolder v.holder) := by
  rw [← Mvs.mem_worked_iff (lw.follower o mo)]
  rcases v with ⟨h, s⟩
  simp only [allValves, Yds.boundValves, List.mem_filter, List.mem_flatMap, List.mem_map, Valve.mk.injEq,
    Option.isSome_iff_ne_none]
  constructor
  · rintro ⟨⟨k, hk, t, ht, rfl, rfl⟩, b⟩; exact ⟨b, hk⟩
  · rintro ⟨b, hk⟩; exact ⟨⟨h, hk, s, by cases s <;> simp, rfl, rfl⟩, b⟩

/-- A description with an order in the list is COMMITTED. -/
theorem Yard.ValvesHeld.committed (held : y.ValvesHeld) (mo : o ∈ y.mvs.orders) : y.yds.desc = .committed := by
  cases e : y.yds.desc with
  | opened => rw [held.opened e] at mo; cases mo
  | committed => rfl

end

end Sys2Proof.Machine
end

section
/-! SUPPORT. Every deed of MVS keeps the laws of the order list, the valves and the trip (R34, R39, R42, R49 to R62). -/

namespace Sys2Proof.Machine

/-! ### Which deeds follow from a deed -/

/-- A deed that keeps the laws in any yard: a valve is commanded SHUT alone, and no order is dropped. -/
def Deed.safe : Deed → Prop
  | .command _ p => p = .shut
  | .drop _ _ => False
  | _ => True

section
variable {y : Yard} {d : Deed}

theorem commandValve_follows {v : Valve} {p : Commanded} (h : d ∈ (commandValve v p y).2) : d = .failed v := by
  unfold commandValve at h
  dsimp only at h
  repeat' split at h
  all_goals simp_all

theorem commandAll_follows {p : Commanded} {vs : List Valve} (h : d ∈ (commandAll p vs y).2) : ∃ v ∈ vs, d = .failed v := by
  induction vs generalizing y with
  | nil => cases h
  | cons v vs ih =>
    obtain h | h := List.mem_append.1 h
    · exact ⟨v, by simp, commandValve_follows h⟩
    · obtain ⟨w, hw, e⟩ := ih h
      exact ⟨w, by simp [hw], e⟩

theorem commandAll_safe {p : Commanded} {vs : List Valve} (h : d ∈ (commandAll p vs y).2) : d.safe := by
  obtain ⟨v, -, rfl⟩ := commandAll_follows h
  trivial

theorem lagIfRunning_safe {o : Order} (h : d ∈ lagIfRunning o) : d.safe := by
  unfold lagIfRunning at h
  split at h
  · obtain rfl := List.mem_singleton.1 h; trivial
  · cases h

theorem closeOrder_safe {n : Nat} {r : EndReason} (h : d ∈ (closeOrder n r y).2) : d.safe := by
  unfold closeOrder at h
  dsimp only at h
  repeat' split at h
  · simp only [List.mem_append, List.mem_singleton] at h
    obtain (h | rfl) | h := h
    exacts [commandAll_safe h, trivial, lagIfRunning_safe h]
  all_goals cases h

theorem finishOrder_safe {n : Nat} {r : EndReason} (h : d ∈ (finishOrder n r y).2) : d.safe := by
  unfold finishOrder at h
  split at h
  · obtain rfl := List.mem_singleton.1 h; trivial
  · cases h

/-- What follows from a deed keeps the laws in any yard. -/
theorem deed_safe {e : Deed} (h : d ∈ (deed e y).2) : d.safe := by
  cases e with
  | command v p => rw [commandValve_follows h]; trivial
  | failed v =>
    change d ∈ (valveFails v y).2 at h
    obtain ⟨-, e⟩ | ⟨o, -, ⟨-, e⟩ | ⟨-, e⟩⟩ := valveFails_cases v y <;> rw [e] at h
    · cases h
    · obtain rfl := List.mem_singleton.1 h; trivial
    · exact closeOrder_safe h
  | close n r => exact closeOrder_safe h
  | testComplete n =>
    change d ∈ (completeOrder n y).2 at h
    unfold completeOrder at h
    repeat' split at h
    · exact finishOrder_safe h
    all_goals cases h
  | testRunning n =>
    change d ∈ (runOrder n y).2 at h
    unfold runOrder at h
    repeat' split at h
    · obtain rfl := List.mem_singleton.1 h; trivial
    all_goals cases h
  | drop n r => change d ∈ (deed (.drop n r) y).2 at h; simp only [deed] at h; split at h <;> cases h
  | reReason n r => cases h
  | activate k =>
    change d ∈ (tryActivate k y).2 at h
    unfold tryActivate at h
    dsimp only at h
    split at h
    · split at h
      · cases h
      · split at h
        · exact finishOrder_safe h
        · simp only [List.mem_append, List.mem_singleton] at h
          obtain (h | h) | rfl := h
          exacts [commandAll_safe h, commandAll_safe h, trivial]
    · cases h
  | testShut k => cases h
  | lag => cases h

end

/-! ### The deeds -/

section
variable {y : Yard} {q r : Prop} {n : Nat} {o : Order}

/-- A working order whose valves are commanded SHUT uses no valve that passes gas. -/
theorem not_works_of_shut {vs : List Valve} {v : Valve} (held : y.ValvesHeld) (lw : y.mvs.Lawful) (mo : o ∈ y.mvs.orders)
    {z : Yard} (hd : z.yds = y.yds) (hm : ∀ w, (z.mvs.valve w).commanded = (y.mvs.valve w).commanded)
    (hu : ∀ w ∈ usedValves y o, w ∈ vs) (hp : ((commandAll .shut vs z).1.mvs.valve v).commanded.passes) :
    (y.mvs.valve v).commanded.passes ∧ ¬o.works y.mvs v := by
  obtain ⟨before, free⟩ := passes_of_commandAll_shut z v vs hp
  rw [hm] at before
  refine ⟨before, fun ⟨_, hh, hs⟩ => free ?_⟩
  rw [hd]
  have bound := (held.worked v before).1
  exact ⟨hu v ((mem_usedValves lw mo).2 ⟨bound, hh, hs⟩), bound, held.committed mo⟩

theorem Yard.Ordered.closeOrder (hy : y.Ordered q r) (n : Nat) (e : EndReason) : (closeOrder n e y).1.Ordered q r := by
  unfold Machine.closeOrder
  dsimp only
  split
  · next o found =>
    obtain ⟨mo, rfl⟩ := Mvs.mem_of_orderOf found
    split
    · next w =>
      have act : o.state.active = true := by
        simp only [Bool.or_eq_true, beq_iff_eq] at w
        obtain w | w := w <;> rw [w] <;> rfl
      refine hy.stops mo (by simp) (by simp) (by simp [Mvs.updOrder])
        (g := fun x => { x with state := .closing, reason := some e }) (by simp [Mvs.updOrder]) ⟨rfl, rfl, rfl⟩
        (.inr ⟨rfl, act⟩) fun a v => ?_
      exact not_works_of_shut (hy.held a) hy.lawful mo rfl (fun _ => rfl) fun _ => id
    · exact hy
  · exact hy

theorem Yard.Ordered.finishOrder (hy : y.Ordered q r) (e : EndReason)
    (hs : ∀ o ∈ y.mvs.orders, o.number = n → o.state = .waiting ∨ o.state = .closing) : (finishOrder n e y).1.Ordered q r := by
  unfold Machine.finishOrder
  dsimp only
  split
  · next o found =>
    obtain ⟨mo, rfl⟩ := Mvs.mem_of_orderOf found
    split
    · next k =>
      refine hy.stops mo rfl rfl rfl rfl ⟨rfl, rfl, rfl⟩ (.inl ⟨rfl, fun ⟨t, f⟩ => ?_⟩) fun _ v hp =>
        ⟨hp, Order.not_works_of_idle (hs o mo rfl)⟩
      simp [keptAtEnd, t, f] at k
    · exact (hy.drop mo (hs o mo rfl)).of_plan rfl
  · exact hy

theorem Yard.Ordered.completeOrder (hy : y.Ordered q r) (n : Nat) : (completeOrder n y).1.Ordered q r := by
  unfold Machine.completeOrder
  split
  · next o found =>
    obtain ⟨mo, rfl⟩ := Mvs.mem_of_orderOf found
    split
    · next c =>
      refine hy.finishOrder _ fun x mx e => .inr ?_
      rw [hy.lawful.eq_of_number mx mo e]
      simp only [Bool.and_eq_true, beq_iff_eq] at c
      exact c.1
    · exact hy
  · exact hy

theorem Yard.Ordered.runOrder (hy : y.Ordered q r) (n : Nat) : (runOrder n y).1.Ordered q r := by
  unfold Machine.runOrder
  split
  · next o found =>
    obtain ⟨mo, rfl⟩ := Mvs.mem_of_orderOf found
    split
    · next c =>
      refine hy.updOrder fun x mx e => ⟨rfl, rfl, rfl, .inr ⟨?_, rfl⟩⟩
      rw [hy.lawful.eq_of_number mx mo e]
      simp only [Bool.and_eq_true, beq_iff_eq] at c
      exact c.1
    · exact hy
  · exact hy

theorem Yard.Ordered.valveFails (hy : y.Ordered q r) (v : Valve) : (valveFails v y).1.Ordered q r := by
  have hz : (setTimer v .idle y).Ordered q r := hy.of_plan (by simp)
  obtain ⟨-, e⟩ | ⟨o, found, ⟨c, e⟩ | ⟨-, e⟩⟩ := valveFails_cases v y <;> rw [e]
  · exact hz.of_plan (by simp)
  · obtain ⟨mo, -⟩ := orderOfValve_active found
    exact (hz.drop mo (.inr c)).of_plan rfl
  · exact hz.closeOrder _ _

theorem Mvs.nextEligible_some {m : Mvs} {h : Holder} (e : m.nextEligible h = some o) :
    o ∈ m.orders ∧ o.state = .waiting ∧ o.eligible = true ∧ o.holder = h :=
  ⟨List.mem_of_find?_eq_some e, by simpa [and_assoc] using List.find?_some e⟩

theorem Mvs.orderHolder_orderHolder (m : Mvs) (h : Holder) : m.orderHolder (m.orderHolder h) = m.orderHolder h := by
  have leads : ∀ k : Holder, k.leads = false → k.partner.leads = true := by intro k; cases k <;> decide
  by_cases c : (m.isCoupled h && !h.leads) = true
  · have e : m.orderHolder h = h.partner := if_pos c
    simp only [Bool.and_eq_true, Bool.not_eq_true'] at c
    rw [e]
    exact if_neg (by simp [leads h c.2])
  · have e : m.orderHolder h = h := if_neg c
    rw [e, e]

/-- A holder with no active order: each order of it waits. -/
theorem waiting_of_activeOrder_none {m : Mvs} {h : Holder} (e : m.activeOrder h = none) {x : Order} (mx : x ∈ m.orders)
    (hx : x.holder = m.orderHolder h) : x.state = .waiting := by
  have := List.find?_eq_none.1 e x mx
  cases s : x.state <;> simp_all [OrderState.active]

/-- The order list stays lawful where a WAITING order of a holder with no active one becomes active (R42). -/
theorem Mvs.Lawful.activates {m n : Mvs} (lw : m.Lawful) (mo : o ∈ m.orders) {f : Order → Order}
    (hf : ∀ x, (f x).number = x.number ∧ (f x).holder = x.holder)
    (free : ∀ x ∈ m.orders, x.holder = o.holder → x.state = .waiting)
    (ho : n.orders = m.orders.map fun x => if x.number == o.number then f x else x) (hc : n.coupled = m.coupled) :
    n.Lawful := by
  have others : ∀ x ∈ m.orders, x.number ≠ o.number → x.holder = o.holder → x.state.active = false :=
    fun x mx _ e => by rw [free x mx e]; rfl
  have same : ∀ x : Order, (if x.number = o.number then f x else x).number = x.number ∧
      (if x.number = o.number then f x else x).holder = x.holder := fun x => by
    split
    · exact hf x
    · exact ⟨rfl, rfl⟩
  refine ⟨by simpa [ho] using lw.length, ?_, ?_, ?_⟩
  · rw [ho, List.pairwise_map]
    exact lw.numbers.imp fun d => by simpa [same] using d
  · rw [ho, List.pairwise_map]
    refine (lw.single.and lw.numbers).imp_of_mem fun {a b} ma mb ⟨s, d⟩ c => ?_
    simp only [beq_iff_eq, same] at c
    obtain ⟨ca, cb, e⟩ := c
    by_cases ea : a.number = o.number
    · have eb : b.number ≠ o.number := fun h => d (ea.trans h.symm)
      rw [if_neg eb, others b mb eb (by rw [← e, lw.eq_of_number ma mo ea])] at cb
      cases cb
    · by_cases eb : b.number = o.number
      · rw [if_neg ea, others a ma ea (by rw [e, lw.eq_of_number mb mo eb])] at ca
        cases ca
      · rw [if_neg ea] at ca
        rw [if_neg eb] at cb
        exact s ⟨ca, cb, e⟩
  · intro x mx
    rw [ho] at mx
    obtain ⟨u, mu, rfl⟩ := List.mem_map.1 mx
    have er : n.role = m.role := by unfold Mvs.role Mvs.isCoupled; rw [hc]
    simp only [beq_iff_eq, same, er]
    exact lw.follower u mu

/-- A WAITING order of a holder with no active one begins to work, each further valve that passes gas being one it uses; it is
none that fills while TRIPPED, for such orders are CLOSING. -/
theorem Yard.Ordered.opens {z : Yard} {f : Order → Order} (hy : y.Ordered q r) (mo : o ∈ y.mvs.orders)
    (hw : o.state = .waiting) (free : ∀ x ∈ y.mvs.orders, x.holder = o.holder → x.state = .waiting) (hd : z.yds = y.yds)
    (hc : z.mvs.coupled = y.mvs.coupled) (ht : z.mvs.tripped = y.mvs.tripped)
    (ho : z.mvs.orders = y.mvs.orders.map fun x => if x.number == o.number then f x else x)
    (hf : ∀ x, (f x).number = x.number ∧ (f x).holder = x.holder ∧ (f x).kind = x.kind ∧ (f x).state = .opening)
    (hv : ∀ v, (z.mvs.valve v).commanded.passes → (y.mvs.valve v).commanded.passes ∨ v ∈ usedValves y o) :
    z.Ordered q r := by
  have one : ∀ x ∈ y.mvs.orders, x.number = o.number → x = o := fun x mx e => hy.lawful.eq_of_number mx mo e
  refine ⟨hy.lawful.activates mo (fun x => ⟨(hf x).1, (hf x).2.1⟩) free ho hc, fun a => ?_, fun b t x mx hk => ?_⟩
  · have held := hy.held a
    refine ⟨fun e => ?_, fun v hp => ?_⟩
    · rw [hd, held.committed mo] at e; cases e
    rw [hd, ho]
    simp only [Order.works_congr hc]
    obtain before | new := hv v hp
    · obtain ⟨bound, x, mx, wx⟩ := held.worked v before
      refine ⟨bound, x, List.mem_map.2 ⟨x, mx, if_neg fun e => ?_⟩, wx⟩
      rw [one x mx (by simpa using e)] at wx
      exact Order.not_works_of_idle (.inl hw) wx
    · obtain ⟨bound, hh, hs⟩ := (mem_usedValves hy.lawful mo).1 new
      obtain ⟨-, fh, fk, fs⟩ := hf o
      exact ⟨bound, f o, List.mem_map.2 ⟨o, mo, by simp⟩, .inl fs, fh ▸ hh, fk ▸ hs⟩
  · rw [ho] at mx
    obtain ⟨u, mu, rfl⟩ := List.mem_map.1 mx
    have trips := hy.trips b (ht ▸ t)
    by_cases e : u.number = o.number
    · obtain rfl := one u mu e
      simp only [beq_self_eq_true, if_true] at hk
      exact absurd (trips u mu ((hf u).2.2.1 ▸ hk)) (by rw [hw]; simp)
    · simp only [beq_iff_eq, e, if_false] at hk ⊢
      exact trips u mu hk

theorem Yard.Ordered.tryActivate (hy : y.Ordered q r) (h : Holder) : (tryActivate h y).1.Ordered q r := by
  unfold Machine.tryActivate
  dsimp only
  split
  · next c =>
    simp only [Bool.and_eq_true, Option.isNone_iff_eq_none] at c
    obtain ⟨⟨none, -⟩, -⟩ := c
    split
    · exact hy
    · next o found =>
      obtain ⟨mo, hw, -, hh⟩ := Mvs.nextEligible_some found
      split
      · exact hy.finishOrder _ fun x mx e => .inl (by rw [hy.lawful.eq_of_number mx mo e]; exact hw)
      · refine hy.opens mo hw (fun x mx e => ?_) (by simp [setUnmanaged, setShutPending])
          (by simp [setUnmanaged, setShutPending]) (by simp [setUnmanaged, setShutPending, Mvs.updOrder])
          (f := fun x => { x with state := .opening, eligible := false })
          (by simp [setUnmanaged, setShutPending, Mvs.updOrder]) (fun _ => ⟨rfl, rfl, rfl, rfl⟩) fun v hp => ?_
        · exact waiting_of_activeOrder_none none mx (by rw [e, hh, Mvs.orderHolder_orderHolder])
        · rw [commandAll_commanded] at hp
          split at hp
          · next u => exact .inr u.1
          · exact .inl (passes_of_commandAll_shut _ _ _ hp).1
  · exact hy

theorem Yard.Ordered.lagOne (hy : y.Ordered q r) (best : Int) (h : Holder) : (lagOne best y h).Ordered q r := by
  unfold Machine.lagOne
  dsimp only
  split
  · split
    · have goes (x : Order) : x.goesOn (x.setLag h) := by unfold Order.setLag; split <;> exact ⟨rfl, rfl, rfl, .inl rfl⟩
      exact (hy.of_plan (raiseNotice_plan _ _ _ _)).updOrder fun x _ _ => goes x
    · exact hy
  · exact hy

/-- What each step of a fold keeps, the fold keeps. -/
theorem Yard.Ordered.foldl {α : Type} {f : Yard → α → Yard} (hf : ∀ z a, z.Ordered q r → (f z a).Ordered q r) (as : List α)
    (hy : y.Ordered q r) : (as.foldl f y).Ordered q r := by
  induction as generalizing y with
  | nil => exact hy
  | cons a as ih => exact ih (hf y a hy)

theorem Yard.Ordered.lagTest (hy : y.Ordered q r) : (lagTest y).Ordered q r := by
  unfold Machine.lagTest
  split
  · exact hy.foldl (fun z h hz => hz.lagOne _ h) _
  · exact hy

theorem Yard.Ordered.commandShut (hy : y.Ordered q r) (v : Valve) : (commandValve v .shut y).1.Ordered q r := by
  obtain ⟨hd, ho, hc, ht⟩ := commandValve_others y .shut v
  refine ⟨hy.lawful.of_eq ho hc, fun a => (hy.held a).fewer hd (fun e => ho.trans e) fun w hp => ?_, fun b t x mx => ?_⟩
  · rw [commandValve_commanded] at hp
    split at hp
    · simp [Commanded.passes] at hp
    · exact ⟨hp, fun x mx wx => ⟨x, ho ▸ mx, (Order.works_congr hc).2 wx⟩⟩
  · exact hy.trips b (ht ▸ t) x (ho ▸ mx)

theorem Yard.Ordered.deed (hy : y.Ordered q r) {d : Deed} (hd : d.safe) : (deed d y).1.Ordered q r := by
  cases d with
  | command v p => obtain rfl : p = .shut := hd; exact hy.commandShut v
  | failed v => exact hy.valveFails v
  | close n e => exact hy.closeOrder n e
  | testComplete n => exact hy.completeOrder n
  | testRunning n => exact hy.runOrder n
  | drop n e => exact hd.elim
  | reReason n e => exact hy.updOrder fun x _ _ => by split <;> exact ⟨rfl, rfl, rfl, .inl rfl⟩
  | activate h => exact hy.tryActivate h
  | testShut h => exact hy.of_plan (testShutHolder_plan y h)
  | lag => exact hy.lagTest

theorem Yard.Ordered.doAll {ds : List Deed} (hy : y.Ordered q r) (hd : ∀ d ∈ ds, d.safe) : (doAll ds y).1.Ordered q r := by
  induction ds generalizing y with
  | nil => exact hy
  | cons d ds ih =>
    obtain ⟨h, hs⟩ := List.forall_mem_cons.1 hd
    exact ih (hy.deed h) hs

theorem doAll_safe {ds : List Deed} {d : Deed} (h : d ∈ (Machine.doAll ds y).2) : d.safe := by
  induction ds generalizing y with
  | nil => cases h
  | cons e ds ih =>
    obtain h | h := List.mem_append.1 h
    exacts [deed_safe h, ih h]

theorem Yard.Ordered.workN {n : Nat} {ds : List Deed} (hy : y.Ordered q r) (hd : ∀ d ∈ ds, d.safe) :
    (workN n ds y).Ordered q r := by
  induction n generalizing ds y with
  | zero => exact hy
  | succ n ih => rw [workN_succ]; exact ih (hy.doAll hd) fun d h => doAll_safe h

theorem Yard.Ordered.work {ds : List Deed} (hy : y.Ordered q r) (hd : ∀ d ∈ ds, d.safe) : (work ds y).Ordered q r :=
  hy.workN hd

end

end Sys2Proof.Machine
end

section
/-! SUPPORT. Outcomes, reports, the trip, readings and movement requests keep the laws of the order list, the valves and the
trip (R34 to R63). -/

namespace Sys2Proof.Machine

section
variable {y z : Yard} {q r : Prop} {o : Order}

/-! ### Outcomes and reports of valves (R35, R36, R38, R52) -/

/-- Fewer valves pass gas, the rest of the plan standing. -/
theorem Yard.Ordered.fewer (hy : y.Ordered q r) (hd : z.yds = y.yds) (ho : z.mvs.orders = y.mvs.orders)
    (hc : z.mvs.coupled = y.mvs.coupled) (ht : z.mvs.tripped = y.mvs.tripped)
    (hv : ∀ v, (z.mvs.valve v).commanded.passes → (y.mvs.valve v).commanded.passes) : z.Ordered q r where
  lawful := hy.lawful.of_eq ho hc
  held a := (hy.held a).fewer hd (fun e => ho.trans e) fun v hp =>
    ⟨hv v hp, fun x mx wx => ⟨x, ho ▸ mx, (Order.works_congr hc).2 wx⟩⟩
  trips b t x mx := hy.trips b (ht ▸ t) x (ho ▸ mx)

/-- A valve at local hand is commanded nothing (R38). -/
theorem Yard.Ordered.uncommanded (hy : y.Ordered q r) (v : Valve) :
    (y.updMvs fun m => m.setValve v { m.valve v with commanded := .none, timer := .idle }).Ordered q r := by
  refine hy.fewer rfl (by simp) (by simp) (by simp) fun w hp => ?_
  by_cases e : w = v
  · subst e; simp [Commanded.passes] at hp
  · simpa [Mvs.valve_setValve_ne _ _ e] using hp

/-- An order is abandoned, all its valves that are not SHUT but one at local hand being commanded SHUT (R52). -/
theorem Yard.Ordered.abandon {v : Valve} (hy : y.Ordered q r) (mo : o ∈ y.mvs.orders)
    (hn : (y.mvs.valve v).commanded = .none) :
    let others := (allValves y o).filter fun w => w != v && (y.mvs.valve w).commanded != .shut
    ((commandAll .shut others (setUnmanaged (y.mvs.worked o.holder) true y)).1.updMvs (·.dropOrder o.number)).Ordered q r := by
  intro others
  refine hy.leaves mo (by simp [setUnmanaged]) (by simp [setUnmanaged]) (by simp [Mvs.dropOrder, setUnmanaged])
    (by simp [Mvs.dropOrder, setUnmanaged]) fun a w hp => ?_
  obtain ⟨before, free⟩ := passes_of_commandAll_shut _ _ _ hp
  refine ⟨before, fun ⟨_, hh, _⟩ => free ?_⟩
  obtain ⟨bound, -⟩ := (hy.held a).worked w before
  have ne : w ≠ v := by
    rintro rfl
    change (y.mvs.valve w).commanded.passes at before
    simp [Commanded.passes, hn] at before
  have open_ : (y.mvs.valve w).commanded ≠ .shut := by
    intro e
    change (y.mvs.valve w).commanded.passes at before
    simp [Commanded.passes, e] at before
  exact ⟨List.mem_filter.2 ⟨(mem_allValves hy.lawful mo).2 ⟨bound, hh⟩, by simp [ne, open_]⟩, bound, (hy.held a).committed mo⟩

theorem Yard.Ordered.valveLocal (hy : y.Ordered q r) (v : Valve) : (valveLocal v y).Ordered q r := by
  have h1 : (setShutPending [v.holder] false (raiseLocal v (setUnmanaged [v.holder] true
      (y.updMvs fun m => m.setValve v { m.valve v with commanded := .none, timer := .idle })))).Ordered q r :=
    (hy.uncommanded v).of_plan (by simp)
  unfold Machine.valveLocal
  dsimp only
  split
  · next o found =>
    obtain ⟨mo, -⟩ := orderOfValve_active found
    refine Yard.Ordered.work ((h1.abandon (v := v) mo ?_).of_plan (raiseEnded_plan _ _ _)) fun d hd => ?_
    · exact congrArg ValveRec.commanded (Mvs.valve_setValve y.mvs v _)
    · simp only [List.mem_append, List.mem_singleton] at hd
      obtain (h | h) | rfl := hd
      exacts [commandAll_safe h, lagIfRunning_safe h, trivial]
  · exact h1

theorem Yard.Ordered.failed (hy : y.Ordered q r) (v : Valve) : (Machine.work [.failed v] y).Ordered q r :=
  hy.work (by simp [Deed.safe])

theorem Yard.Ordered.valveOutcome (hy : y.Ordered q r) (v : Valve) (c : CmdOutcome) : (valveOutcome v c y).Ordered q r := by
  cases c with
  | delivered => unfold Machine.valveOutcome; dsimp only; split <;> exact hy.of_plan (by simp)
  | undelivered cause => exact hy.failed v
  | refused => exact hy.failed v
  | localHand => exact hy.valveLocal v

@[simp] theorem valveMovedItself_plan (v : Valve) : (valveMovedItself v y).plan = y.plan := by
  unfold valveMovedItself
  dsimp only
  repeat' split
  all_goals simp

theorem Yard.Ordered.valveReport (hy : y.Ordered q r) (v : Valve) (rep : Reported) : (valveReport v rep y).Ordered q r := by
  have h1 : (y.updMvs fun m => m.setValve v { m.valve v with reported := rep }).Ordered q r :=
    hy.of_plan (y.setValve_plan rfl)
  unfold Machine.valveReport
  dsimp only
  generalize (y.updMvs fun m => m.setValve v { m.valve v with reported := rep }) = a at h1 ⊢
  have h2 : (if (a.mvs.valve v).there then setTimer v .idle a else a).Ordered q r := by
    split
    · exact h1.of_plan (by simp)
    · exact h1
  generalize (if (a.mvs.valve v).there then setTimer v .idle a else a) = b at h2 ⊢
  have moved : (valveMovedItself v b).Ordered q r := h2.of_plan (by simp)
  cases rep
  case fault =>
    dsimp only
    have h3 : (setTimer v .idle b).Ordered q r := h2.of_plan (by simp)
    split
    · split
      · exact (h3.failed v).work (by simp [Deed.safe])
      · exact h3.work (by simp [Deed.safe])
    · split
      · exact (h3.failed v).work (by simp [Deed.safe])
      · exact h3.work (by simp [Deed.safe])
  all_goals
    dsimp only
    split
    all_goals
      refine Yard.Ordered.work ?_ (by simp [Deed.safe])
      assumption

/-! ### Orders dropped together (R55, R62) -/

/-- The yard with some orders gone from the list, ORDER ENDED raised for each with its reason and the standing count as it
stood. -/
def Yard.ended (y : Yard) (l : List Order) (e : EndReason) : Yard :=
  { y with
    mvs := { y.mvs with orders := y.mvs.orders.filter fun x => l.all fun o => !(x.number == o.number) }
    notices := l.foldl (fun u o => u.raise .orderEnded o.number ((e.code + 256 * o.standing : Nat) : Int)
      (y.gdc.clock.map (·.day)) (y.gdc.clock.map (·.period))) y.notices }

theorem Mvs.orderOf_of_mem {m : Mvs} (hn : m.orders.Pairwise fun a b => a.number ≠ b.number) (mo : o ∈ m.orders) :
    m.orderOf o.number = some o := by
  have : Std.Symm fun x y : Order => x.number ≠ y.number := ⟨fun _ _ => Ne.symm⟩
  cases e : m.orderOf o.number with
  | none => exact absurd (List.find?_eq_none.1 e o mo) (by simp)
  | some x =>
    obtain ⟨mx, hx⟩ := Mvs.mem_of_orderOf e
    by_contra ne
    exact hn.forall mx mo (fun c => ne (by rw [c])) hx

/-- Orders of different numbers are dropped in turn, and nothing follows. -/
theorem doAll_drops {l : List Order} (e : EndReason) (hn : y.mvs.orders.Pairwise fun a b => a.number ≠ b.number)
    (hl : l.Pairwise fun a b => a.number ≠ b.number) (ml : ∀ o ∈ l, o ∈ y.mvs.orders) :
    doAll (l.map fun o => .drop o.number e) y = (y.ended l e, []) := by
  induction l generalizing y with
  | nil => simp [doAll, Yard.ended]
  | cons o l ih =>
    obtain ⟨mo, ml⟩ := List.forall_mem_cons.1 ml
    obtain ⟨ho, hl⟩ := List.pairwise_cons.1 hl
    have step : deed (.drop o.number e) y = ((raiseEnded o e y).updMvs (·.dropOrder o.number), []) := by
      simp [deed, Mvs.orderOf_of_mem hn mo]
    have rest := ih (y := (raiseEnded o e y).updMvs (·.dropOrder o.number)) (hn.sublist List.filter_sublist) hl
      fun x mx => List.mem_filter.2 ⟨ml x mx, by simpa using (ho x mx).symm⟩
    rw [List.map_cons, doAll, step]
    dsimp only
    rw [rest]
    simp [Yard.ended, raiseEnded, raiseNotice, Yard.updMvs, Mvs.dropOrder, List.filter_filter, Bool.and_comm]

/-- Orders that do no work leave the list. -/
theorem Yard.Ordered.sheds {p : Order → Bool} (hy : y.Ordered q r) (hd : z.yds = y.yds)
    (ho : z.mvs.orders = y.mvs.orders.filter p) (hc : z.mvs.coupled = y.mvs.coupled) (ht : z.mvs.tripped = y.mvs.tripped)
    (hv : ∀ v, z.mvs.valve v = y.mvs.valve v) (hp : ∀ x ∈ y.mvs.orders, x.state = .opening ∨ x.state = .running → p x = true) :
    z.Ordered q r where
  lawful := hy.lawful.sublist (ho ▸ List.filter_sublist) hc
  held a := (hy.held a).fewer hd (fun e => by simp [ho, e]) fun v h => ⟨hv v ▸ h, fun x mx wx =>
    ⟨x, ho ▸ List.mem_filter.2 ⟨mx, hp x mx wx.1⟩, (Order.works_congr hc).2 wx⟩⟩
  trips b t x mx := by
    rw [ho] at mx
    exact hy.trips b (ht ▸ t) x (List.mem_filter.1 mx).1

theorem Yard.Ordered.ended (hy : y.Ordered q r) {l : List Order} (hl : ∀ o ∈ l, o ∈ y.mvs.orders ∧ o.state = .waiting)
    (e : EndReason) : (y.ended l e).Ordered q r := by
  refine hy.sheds rfl rfl rfl rfl (fun _ => rfl) fun x mx hx => List.all_eq_true.2 fun o mo => ?_
  obtain ⟨mo, hw⟩ := hl o mo
  simp only [Bool.not_eq_true', beq_eq_false_iff_ne]
  intro c
  obtain rfl := hy.lawful.eq_of_number mx mo c
  rw [hw] at hx
  obtain h | h := hx <;> cases h

/-! ### The yard trip (R59 to R62) -/

theorem doAll_append (as bs : List Deed) (y : Yard) : doAll (as ++ bs) y =
    ((doAll bs (doAll as y).1).1, (doAll as y).2 ++ (doAll bs (doAll as y).1).2) := by
  induction as generalizing y with
  | nil => simp [doAll]
  | cons d ds ih => simp [doAll, ih, List.append_assoc]

theorem flatMap_tripWaiting (l : List Order) :
    l.flatMap tripWaiting = (l.filter (·.state == .waiting)).map fun o => .drop o.number .trip := by
  induction l with
  | nil => rfl
  | cons o l ih => by_cases h : o.state = .waiting <;> simp [tripWaiting, h, ih]

/-- A close of an order leaves the others as they stand, and that order CLOSING where it worked. -/
theorem closeOrder_orders (lw : y.mvs.Lawful) (n : Nat) (e : EndReason) {x : Order}
    (mx : x ∈ (closeOrder n e y).1.mvs.orders) :
    ∃ u ∈ y.mvs.orders, x.number = u.number ∧ x.kind = u.kind ∧ (x.state = .closing ∨ x.state = u.state ∧
      ¬(u.number = n ∧ (u.state = .opening ∨ u.state = .running))) := by
  have stands (h : ∀ o, y.mvs.orderOf n = some o → ¬(o.state = .opening ∨ o.state = .running)) (mx : x ∈ y.mvs.orders) :
      ∃ u ∈ y.mvs.orders, x.number = u.number ∧ x.kind = u.kind ∧ (x.state = .closing ∨ x.state = u.state ∧
        ¬(u.number = n ∧ (u.state = .opening ∨ u.state = .running))) := by
    refine ⟨x, mx, rfl, rfl, .inr ⟨rfl, fun ⟨hn, hw⟩ => h x ?_ hw⟩⟩
    rw [← hn]
    exact Mvs.orderOf_of_mem lw.numbers mx
  unfold closeOrder at mx
  dsimp only at mx
  split at mx
  · next o found =>
    split at mx
    · simp only [commandAll_orders] at mx
      obtain ⟨u, mu, rfl⟩ := List.mem_map.1 mx
      refine ⟨u, mu, ?_⟩
      by_cases h : u.number = n <;> simp [h]
    · next w =>
      refine stands (fun x hx => ?_) mx
      rw [found] at hx
      cases hx
      simpa using w
  · next none => exact stands (fun o ho => by rw [none] at ho; cases ho) mx

theorem reReason_orders (n : Nat) (e : EndReason) {x : Order} (mx : x ∈ (deed (.reReason n e) y).1.mvs.orders) :
    ∃ u ∈ y.mvs.orders, x.number = u.number ∧ x.kind = u.kind ∧ x.state = u.state := by
  obtain ⟨u, mu, rfl⟩ := List.mem_map.1 mx
  refine ⟨u, mu, ?_⟩
  split
  · dsimp only; split <;> exact ⟨rfl, rfl, rfl⟩
  · exact ⟨rfl, rfl, rfl⟩

/-- The orders that fill are CLOSING once each of them that works has been closed. -/
theorem doAll_closes {ds : List Deed} (hy : y.Ordered q False)
    (hk : ∀ d ∈ ds, (∃ n e, d = .close n e) ∨ ∃ n e, d = .reReason n e)
    (ho : ∀ o ∈ y.mvs.orders, o.kind.fills = true →
      o.state = .closing ∨ (o.state = .opening ∨ o.state = .running) ∧ ∃ e, .close o.number e ∈ ds) :
    ∀ o ∈ (doAll ds y).1.mvs.orders, o.kind.fills = true → o.state = .closing := by
  induction ds generalizing y with
  | nil => intro o mo f; obtain h | ⟨-, e, me⟩ := ho o mo f; exacts [h, by cases me]
  | cons d ds ih =>
    obtain ⟨hd, hk⟩ := List.forall_mem_cons.1 hk
    have next : (deed d y).1.Ordered q False := hy.deed (by obtain ⟨n, e, rfl⟩ | ⟨n, e, rfl⟩ := hd <;> trivial)
    refine ih next hk fun x mx f => ?_
    obtain ⟨n, e, rfl⟩ | ⟨n, e, rfl⟩ := hd
    · obtain ⟨u, mu, hn, hf, hs⟩ := closeOrder_orders hy.lawful n e mx
      obtain hs | ⟨hs, other⟩ := hs
      · exact .inl hs
      · obtain c | ⟨w, a, ma⟩ := ho u mu (hf ▸ f)
        · exact .inl (hs.trans c)
        · refine .inr ⟨hs ▸ w, a, ?_⟩
          obtain e | ma := List.mem_cons.1 ma
          · cases e; exact absurd ⟨rfl, w⟩ other
          · rwa [hn]
    · obtain ⟨u, mu, hn, hf, hs⟩ := reReason_orders n e mx
      rw [hs, hn]
      obtain c | ⟨w, a, ma⟩ := ho u mu (hf ▸ f)
      · exact .inl c
      · refine .inr ⟨w, a, ?_⟩
        obtain e | ma := List.mem_cons.1 ma
        · cases e
        · exact ma

theorem mem_tripActive {l : List Order} {d : Deed} (h : d ∈ l.flatMap tripActive) :
    (∃ n e, d = .close n e) ∨ ∃ n e, d = .reReason n e := by
  obtain ⟨o, -, h⟩ := List.mem_flatMap.1 h
  unfold tripActive at h
  repeat' split at h
  all_goals simp_all

/-- The orders that wait end first, in the order of the list (R62, log 20). -/
theorem tripYard_eq (numbers : y.mvs.orders.Pairwise fun a b => a.number ≠ b.number) (c : TripCause) :
    let a := raiseNotice .trip 0 (c.code : Int) (y.updMvs fun m => { m with tripped := true, tripCause := some c })
    let b := a.ended (y.mvs.orders.filter (·.state == .waiting)) .trip
    tripYard c y = workN 1999 (doAll (y.mvs.orders.flatMap tripActive) b).2 (doAll (y.mvs.orders.flatMap tripActive) b).1 := by
  intro a b
  have drops := doAll_drops (y := a) (l := y.mvs.orders.filter (·.state == .waiting)) .trip numbers
    (numbers.sublist List.filter_sublist) fun o mo => (List.mem_filter.1 mo).1
  unfold tripYard
  dsimp only
  rw [work_eq]
  change workN 1999 (doAll (y.mvs.orders.flatMap tripWaiting ++ y.mvs.orders.flatMap tripActive) a).2
    (doAll (y.mvs.orders.flatMap tripWaiting ++ y.mvs.orders.flatMap tripActive) a).1 = _
  rw [doAll_append, flatMap_tripWaiting, drops]
  rfl

theorem Yard.Ordered.tripYard (hy : y.Ordered q r) (c : TripCause) : (tripYard c y).Ordered q r := by
  rw [tripYard_eq hy.lawful.numbers]
  have h1 : (raiseNotice .trip 0 (c.code : Int)
      (y.updMvs fun m => { m with tripped := true, tripCause := some c })).Ordered q False :=
    ⟨hy.lawful.of_eq rfl rfl, fun a => (hy.held a).fewer rfl id fun v hp => ⟨hp, fun x mx wx => ⟨x, mx, wx⟩⟩, False.elim⟩
  have h2 := h1.ended (l := y.mvs.orders.filter (·.state == .waiting))
    (fun o mo => by simpa using List.mem_filter.1 mo) .trip
  have safe : ∀ d ∈ y.mvs.orders.flatMap tripActive, d.safe := fun d hd => by
    obtain ⟨n, e, rfl⟩ | ⟨n, e, rfl⟩ := mem_tripActive hd <;> trivial
  have closes := doAll_closes h2 (fun d => mem_tripActive) fun o mo f => by
    obtain ⟨mo, stays⟩ := List.mem_filter.1 mo
    have active : o.state ≠ .waiting := fun hw => by
      have := List.all_eq_true.1 stays o (List.mem_filter.2 ⟨mo, by simp [hw]⟩)
      simp at this
    have listed (d : Deed) (hd : d ∈ tripActive o) : d ∈ y.mvs.orders.flatMap tripActive := List.mem_flatMap.2 ⟨o, mo, hd⟩
    cases hs : o.state with
    | waiting => exact absurd hs active
    | closing => exact .inl rfl
    | opening => exact .inr ⟨.inl rfl, .trip, listed _ (by simp [tripActive, hs, f])⟩
    | running => exact .inr ⟨.inr rfl, .trip, listed _ (by simp [tripActive, hs, f])⟩
  have h3 := h2.doAll safe
  have h4 : (Machine.doAll (y.mvs.orders.flatMap tripActive) _).1.Ordered q r := ⟨h3.lawful, h3.held, fun _ _ => closes⟩
  exact h4.workN fun d hd => doAll_safe hd

/-! ### Readings and the start of a period (R41 to R48, R61) -/

/-- Used valves of a working order are commanded a position. -/
theorem Yard.Ordered.commandUsed {vs : List Valve} (hy : y.Ordered q r) (p : Commanded)
    (ho : ∃ x ∈ y.mvs.orders, x.holder = o.holder ∧ x.kind = o.kind ∧ (x.state = .opening ∨ x.state = .running))
    (hv : ∀ v ∈ vs, v ∈ usedValves y o) : (commandAll p vs y).1.Ordered q r := by
  refine ⟨hy.lawful.of_eq (by simp) (by simp), fun a => ⟨?_, fun v hp => ?_⟩, fun b t x mx => ?_⟩
  · simpa using (hy.held a).opened
  · simp only [commandAll_yds, commandAll_orders, Order.works_congr (commandAll_coupled y p vs)]
    rw [commandAll_commanded] at hp
    split at hp
    · next c =>
      obtain ⟨x, mx, eh, ek, w⟩ := ho
      have used : v ∈ usedValves y x := by
        have := hv v c.1
        unfold usedValves at this ⊢
        rwa [eh, ek]
      obtain ⟨bound, hh, hs⟩ := (mem_usedValves hy.lawful mx).1 used
      exact ⟨bound, x, mx, w, hh, hs⟩
    · exact (hy.held a).worked v hp
  · simp only [commandAll_tripped, commandAll_orders] at t mx
    exact hy.trips b t x mx

/-- The same with the failures taken. -/
theorem Yard.Ordered.workUsed {vs : List Valve} (hy : y.Ordered q r) (p : Commanded)
    (ho : ∃ x ∈ y.mvs.orders, x.holder = o.holder ∧ x.kind = o.kind ∧ (x.state = .opening ∨ x.state = .running))
    (hv : ∀ v ∈ vs, v ∈ usedValves y o) :
    (Machine.work (commandAll p vs y).2 (commandAll p vs y).1).Ordered q r :=
  (hy.commandUsed p ho hv).work fun _ => commandAll_safe

@[simp] theorem bandsPassed_plan (h : Holder) (prev t : Int) (k : Nat) (bs : List (Int × Int)) :
    (bandsPassed h prev t k bs y).plan = y.plan := by
  induction bs generalizing k y with
  | nil => rfl
  | cons b bs ih => rw [bandsPassed, ih]; split <;> simp

theorem Yard.Ordered.throttle (hy : y.Ordered q r) (h : Holder) (t : Int)
    (ho : ∃ x ∈ y.mvs.orders, x.holder = o.holder ∧ x.kind = o.kind ∧ (x.state = .opening ∨ x.state = .running)) :
    (throttle h t o y).Ordered q r := by
  have put := hy.workUsed (workingPosition y o) ho (vs := (usedValves y o).filter fun v =>
    (y.mvs.valve v).commanded != workingPosition y o) fun v hv => (List.mem_filter.1 hv).1
  unfold Machine.throttle
  dsimp only
  split
  · exact put.of_plan (by simp)
  · exact put

theorem Yard.Ordered.close (hy : y.Ordered q r) (n : Nat) (e : EndReason) : (Machine.work [.close n e] y).Ordered q r :=
  hy.work (by simp [Deed.safe])

theorem Yard.Ordered.orderReading (hy : y.Ordered q r) (h : Holder) (mo : o ∈ y.mvs.orders)
    (hw : o.state = .opening ∨ o.state = .running) : (orderReading h o y).Ordered q r := by
  unfold Machine.orderReading
  dsimp only
  split
  · exact hy.close _ _
  · split
    · exact hy.close _ _
    · have h1 := hy.updOrder (n := o.number) (f := fun x => { x with stockDir := (endMetAt y o).2 })
        fun x _ _ => ⟨rfl, rfl, rfl, .inl rfl⟩
      split
      · exact h1.close _ _
      · exact h1.throttle _ _ ⟨{ o with stockDir := (endMetAt y o).2 }, List.mem_map.2 ⟨o, mo, by simp⟩, rfl, rfl, hw⟩

theorem Yard.Ordered.overTop (hy : y.Ordered q r) (h : Holder) : (overTop h y).Ordered q r := by
  unfold Machine.overTop
  repeat' split
  · exact hy.tripYard _
  all_goals exact hy

/-- Orders become eligible (R41). -/
theorem Yard.Ordered.eligible (hy : y.Ordered q r) (p : Order → Bool) :
    (y.updMvs fun m => { m with orders := m.orders.map fun o => if p o then { o with eligible := true } else o }).Ordered q r :=
  hy.map fun x _ => by split <;> exact ⟨rfl, rfl, rfl, .inl rfl⟩

theorem Yard.Ordered.whenReading (hy : y.Ordered q r) (h : Holder) : (whenReading h y).Ordered q r := by
  refine (hy.eligible (whenMet h (travelOf y h))).work fun d hd => ?_
  simp only [List.mem_append, List.mem_map, List.mem_singleton] at hd
  obtain ⟨o, -, rfl⟩ | rfl := hd <;> trivial

theorem Yard.Ordered.mvsReading (hy : y.Ordered q r) (h : Holder) : (mvsReading h y).Ordered q r := by
  have last : ∀ z : Yard, z.Ordered q r →
      (z.updMvs fun m => { m with prevTravel := m.prevTravel.set h (travelOf z h) }).Ordered q r := fun z hz => hz.of_plan rfl
  unfold Machine.mvsReading
  refine last _ ((Yard.Ordered.overTop ?_ h).whenReading h)
  split
  · next o found =>
    split
    · next w => exact hy.orderReading h (Mvs.mem_of_activeOrder found).1 (by simpa using w)
    · exact hy
  · exact hy

theorem Yard.Ordered.newContribution (hy : y.Ordered q r) (h : Holder) : (newContribution h y).Ordered q r := by
  unfold Machine.newContribution
  split
  exacts [hy.lagTest, hy]

theorem Yard.Ordered.mvsPeriodStart (hy : y.Ordered q r) (p : Nat) : (mvsPeriodStart p y).Ordered q r := by
  refine Yard.Ordered.work (Yard.Ordered.eligible (Yard.Ordered.work hy fun d hd => ?_) _) fun d hd => ?_
  all_goals obtain ⟨o, -, rfl⟩ := List.mem_map.1 hd; trivial

end

end Sys2Proof.Machine
end

section
/-! SUPPORT. The movement requests keep the laws of the order list, the valves and the trip (R40, R53 to R63). -/

namespace Sys2Proof.Machine

/-! ### Coupling (R55 to R57) -/

theorem Three.get_set_pair (t : Three Bool) (h k : Holder) (b : Bool) :
    (t.set h.pair b).get k.pair = if k.pair = h.pair then b else t.get k.pair := by
  cases h <;> cases k <;> rfl

theorem Holder.eq_or_partner {h k : Holder} (e : k.pair = h.pair) : k = h ∨ k = h.partner := by
  cases h <;> cases k <;> simp_all [Holder.pair, Holder.partner]

@[simp] theorem Holder.partner_pair (h : Holder) : h.partner.pair = h.pair := by cases h <;> rfl
@[simp] theorem Holder.partner_partner (h : Holder) : h.partner.partner = h := by cases h <;> rfl
@[simp] theorem Holder.partner_leads (h : Holder) : h.partner.leads = !h.leads := by cases h <;> rfl
theorem Holder.partner_ne (h : Holder) : h.partner ≠ h := by cases h <;> decide

section
variable {y z : Yard} {q r : Prop} {o : Order}

theorem Mvs.role_eq_follower {m : Mvs} {h : Holder} : m.role h = .follower ↔ m.isCoupled h = true ∧ h.leads = false := by
  unfold Mvs.role
  cases m.isCoupled h <;> cases h.leads <;> simp

/-- A holder's orders are those of a holder of its own pair. -/
theorem Mvs.orderHolder_pair (m : Mvs) (h : Holder) : (m.orderHolder h).pair = h.pair := by
  unfold Mvs.orderHolder
  split
  · exact Holder.partner_pair h
  · rfl

/-- A pair with no active order changes its coupling; where it becomes coupled the follower has no order (R55, R56). -/
theorem Yard.Ordered.recouple {h : Holder} {b : Bool} (hy : y.Ordered q r) (hl : h.leads = true)
    (rest : ∀ o ∈ y.mvs.orders, o.holder = h ∨ o.holder = h.partner → o.state = .waiting)
    (lead : b = true → ∀ o ∈ y.mvs.orders, o.holder ≠ h.partner) :
    (y.updMvs fun m => { m with coupled := m.coupled.set h.pair b }).Ordered q r := by
  have coupled (k : Holder) : ({ y.mvs with coupled := y.mvs.coupled.set h.pair b } : Mvs).isCoupled k =
      if k.pair = h.pair then b else y.mvs.isCoupled k := Three.get_set_pair _ _ _ _
  refine ⟨⟨hy.lawful.length, hy.lawful.numbers, hy.lawful.single, fun o mo f => ?_⟩, fun a => ⟨(hy.held a).opened,
    fun v hp => ?_⟩, hy.trips⟩
  · change ({ y.mvs with coupled := y.mvs.coupled.set h.pair b } : Mvs).role o.holder = .follower at f
    rw [Mvs.role_eq_follower, coupled] at f
    obtain ⟨c, nl⟩ := f
    split at c
    · next e =>
      obtain e | e := Holder.eq_or_partner e
      · rw [e, hl] at nl; cases nl
      · exact lead c o mo e
    · exact hy.lawful.follower o mo (Mvs.role_eq_follower.2 ⟨c, nl⟩)
  · obtain ⟨bound, x, mx, w, hh, hs⟩ := (hy.held a).worked v hp
    refine ⟨bound, x, mx, w, hh.trans ?_, hs⟩
    have other : v.holder.pair ≠ h.pair := fun e => by
      have stays := rest x mx (Holder.eq_or_partner (by rw [hh, Mvs.orderHolder_pair, e]))
      exact Order.not_works_of_idle (m := y.mvs) (v := v) (.inl stays) ⟨w, hh, hs⟩
    unfold Mvs.orderHolder
    rw [show (y.updMvs fun m => { m with coupled := m.coupled.set h.pair b }).mvs.isCoupled v.holder = _ from coupled v.holder,
      if_neg other]

theorem Yard.Ordered.activate (hy : y.Ordered q r) (h : Holder) : (Machine.work [.activate h] y).Ordered q r :=
  hy.work (by simp [Deed.safe])

/-- No active order of a holder that leads its pair or stands alone: all its orders wait. -/
theorem waiting_of_free {m : Mvs} {h : Holder} (e : m.activeOrder h = none) (hh : m.orderHolder h = h) :
    ∀ o ∈ m.orders, o.holder = h → o.state = .waiting :=
  fun _ mo eo => waiting_of_activeOrder_none e mo (eo.trans hh.symm)

theorem Mvs.orderHolder_of_leads {m : Mvs} {h : Holder} (hl : h.leads = true) : m.orderHolder h = h := by
  simp [Mvs.orderHolder, hl]

theorem Mvs.orderHolder_of_alone {m : Mvs} {h : Holder} (hc : m.isCoupled h = false) : m.orderHolder h = h := by
  simp [Mvs.orderHolder, hc]

theorem Mvs.isCoupled_partner (m : Mvs) (h : Holder) : m.isCoupled h.partner = m.isCoupled h := by simp [Mvs.isCoupled]

/-- COUPLE as its owner works it, once the tests are passed (R55, log 62). -/
theorem couplePair_eq {h : Holder} {n : Nat} (numbers : y.mvs.orders.Pairwise fun a b => a.number ≠ b.number) (hn : holderOf n = some h) (hl : h.leads = true)
    (hp : y.yds.holderPresent h = true ∧ y.yds.holderPresent h.partner = true)
    (ha : y.mvs.activeOrder h = none ∧ y.mvs.activeOrder h.partner = none) (hc : y.mvs.isCoupled h = false) :
    couplePair n y = (work [.activate h]
      ((y.ended (y.mvs.orders.filter fun o => o.holder == h.partner && o.state == .waiting) .coupling).updMvs
        fun m => { m with coupled := m.coupled.set h.pair true }), okAnswer) := by
  have drops := doAll_drops (y := y) (l := y.mvs.orders.filter fun o => o.holder == h.partner && o.state == .waiting) .coupling
    numbers (numbers.sublist List.filter_sublist) fun o mo => (List.mem_filter.1 mo).1
  have ends : work ((y.mvs.orders.filter fun o => o.holder == h.partner && o.state == .waiting).map
      fun o => .drop o.number .coupling) y = y.ended (y.mvs.orders.filter fun o => o.holder == h.partner && o.state == .waiting)
        .coupling := by
    rw [work_eq, drops]
    exact workN_nil _ _
  have found : (holderOf n).filter (·.leads) = some h := by simp [hn, hl]
  unfold couplePair
  rw [found]
  dsimp only
  rw [if_neg (by simp [hp]), if_neg (by simp [ha]), if_neg (by simp [hc]), ends]

theorem Yard.Ordered.couplePair (hy : y.Ordered q r) (n : Nat) : (couplePair n y).1.Ordered q r := by
  cases hn : (holderOf n).filter (·.leads) with
  | none => unfold Machine.couplePair; rw [hn]; exact hy
  | some h =>
    obtain ⟨hn', hl⟩ := Option.filter_eq_some_iff.1 hn
    by_cases hp : y.yds.holderPresent h = true ∧ y.yds.holderPresent h.partner = true
    · by_cases ha : y.mvs.activeOrder h = none ∧ y.mvs.activeOrder h.partner = none
      · cases hc : y.mvs.isCoupled h with
        | true => unfold Machine.couplePair; rw [hn]; simpa [hp, ha, hc] using hy
        | false =>
          rw [couplePair_eq hy.lawful.numbers hn' hl hp ha hc]
          have own := waiting_of_free ha.1 (Mvs.orderHolder_of_leads hl)
          have others := waiting_of_free ha.2 (Mvs.orderHolder_of_alone (by rw [Mvs.isCoupled_partner, hc]))
          have ended := hy.ended (l := y.mvs.orders.filter fun o => o.holder == h.partner && o.state == .waiting)
            (fun o mo => by simp_all) .coupling
          refine (ended.recouple hl (fun o mo ho => ?_) fun _ o mo ho => ?_).activate h
          · have mo := (List.mem_filter.1 mo).1
            obtain ho | ho := ho
            exacts [own o mo ho, others o mo ho]
          · obtain ⟨mo, stays⟩ := List.mem_filter.1 mo
            have := List.all_eq_true.1 stays o (List.mem_filter.2 ⟨mo, by simp [ho, others o mo ho]⟩)
            simp at this
      · unfold Machine.couplePair
        rw [hn]
        have : (y.mvs.activeOrder h).isSome || (y.mvs.activeOrder h.partner).isSome := by
          simpa [Option.isSome_iff_ne_none, imp_iff_not_or] using not_and_or.1 ha
        simpa [hp, this] using hy
    · unfold Machine.couplePair
      rw [hn]
      have : (y.yds.holderPresent h && y.yds.holderPresent h.partner) = false := by simpa using hp
      simpa [this] using hy

theorem Yard.Ordered.uncouplePair (hy : y.Ordered q r) (n : Nat) : (uncouplePair n y).1.Ordered q r := by
  unfold Machine.uncouplePair
  dsimp only
  split
  · exact hy
  · next h hn =>
    obtain ⟨-, hl⟩ := Option.filter_eq_some_iff.1 hn
    split
    · exact hy
    · next ha =>
      split
      · next hc =>
        have own := waiting_of_free (by simpa using ha) (Mvs.orderHolder_of_leads hl)
        refine (hy.recouple hl (fun o mo ho => ?_) (fun e => by cases e)).work (by simp [Deed.safe])
        obtain ho | ho := ho
        · exact own o mo ho
        · refine absurd (Mvs.role_eq_follower.2 ?_) (hy.lawful.follower o mo)
          rw [ho, Mvs.isCoupled_partner, hc]
          simp [hl]
      · exact hy

/-! ### FILL, DRAW and FLOAT (R40) -/

/-- An order is appended as WAITING: of a new number, of no follower, the list not full, and of no kind that fills while TRIPPED. -/
theorem Yard.Ordered.append (hy : y.Ordered q r) (hc : y.yds.desc = .committed) (hw : o.state = .waiting)
    (hn : ∀ x ∈ y.mvs.orders, x.number ≠ o.number) (hl : y.mvs.orders.length < 16) (hf : y.mvs.role o.holder ≠ .follower)
    (ht : ¬(y.mvs.tripped = true ∧ o.kind.fills = true)) :
    (y.updMvs fun m => { m with orders := m.orders ++ [o] }).Ordered q r := by
  refine ⟨⟨?_, ?_, ?_, ?_⟩, fun a => ⟨fun e => ?_, fun v hp => ?_⟩, fun b t x mx hk => ?_⟩
  · simpa using hl
  · exact List.pairwise_append.2 ⟨hy.lawful.numbers, List.pairwise_singleton _ _, fun x mx z mz => by
      rw [List.mem_singleton.1 mz]; exact hn x mx⟩
  · exact List.pairwise_append.2 ⟨hy.lawful.single, List.pairwise_singleton _ _, fun x mx z mz => by
      rw [List.mem_singleton.1 mz]; simp [hw, OrderState.active]⟩
  · intro x mx
    obtain mx | mx := List.mem_append.1 mx
    · exact hy.lawful.follower x mx
    · rw [List.mem_singleton.1 mx]; exact hf
  · rw [show (y.updMvs fun m => { m with orders := m.orders ++ [o] }).yds.desc = y.yds.desc from rfl, hc] at e
    cases e
  · obtain ⟨bound, x, mx, wx⟩ := (hy.held a).worked v hp
    exact ⟨bound, x, List.mem_append_left _ mx, wx⟩
  · obtain mx | mx := List.mem_append.1 mx
    · exact hy.trips b t x mx hk
    · rw [List.mem_singleton.1 mx] at hk; exact absurd ⟨t, hk⟩ ht

/-- An order that passes test 3 of R40 bears a number that no order bears. -/
theorem orderFault_number {a : OrderAsk} {h : Holder} (e : orderFault a h y = none) : ∀ x ∈ y.mvs.orders, x.number ≠ a.number := by
  have free : (y.mvs.orderOf a.number).isNone = true := firstFault_eq_none.1 e (1, (y.mvs.orderOf a.number).isNone) (by simp)
  rw [Option.isNone_iff_eq_none] at free
  intro x mx c
  exact List.find?_eq_none.1 free x mx (by simpa using c)

/-- An order request passes the first two tests of R40: its holder is present, and so is that of a staged WHEN, and its holder
is no follower of a coupled pair. -/
structure OrderAsk.Admitted (a : OrderAsk) (h : Holder) (y : Yard) : Prop where
  holder : y.yds.presentHolder a.holder = some h
  whenHolder : ∀ n, a.whenHolder = some n → y.yds.presentHolder n ≠ none
  lead : y.mvs.role h ≠ .follower

section
variable {a : OrderAsk} {h : Holder}

theorem takeOrder_absent (e : y.yds.presentHolder a.holder = none) : takeOrder a y = (y, noSuch 2) := by
  simp [takeOrder, e]

theorem takeOrder_whenAbsent {n : Nat} (e : y.yds.presentHolder a.holder = some h) (hn : a.whenHolder = some n)
    (hp : y.yds.presentHolder n = none) : takeOrder a y = (y, noSuch 0) := by
  simp [takeOrder, e, hn, hp]

theorem takeOrder_follower (e : y.yds.presentHolder a.holder = some h)
    (hw : ∀ n, a.whenHolder = some n → y.yds.presentHolder n ≠ none) (hf : y.mvs.role h = .follower) :
    takeOrder a y = (y, .refuse .coupled [.u8 2]) := by
  cases w : a.whenHolder with
  | none => simp [takeOrder, e, w, hf]
  | some n => simp [takeOrder, e, w, hf, hw n w]

theorem OrderAsk.Admitted.fault (ad : a.Admitted h y) {f : Nat} (hf : orderFault a h y = some f) :
    takeOrder a y = (y, invalid f) := by
  cases w : a.whenHolder with
  | none => simp [takeOrder, ad.holder, w, ad.lead, hf]
  | some n => simp [takeOrder, ad.holder, w, ad.lead, hf, ad.whenHolder n w]

/-- The tests of R40 from the fourth on. -/
theorem OrderAsk.Admitted.passes (ad : a.Admitted h y) (hf : orderFault a h y = none) : takeOrder a y =
    if (a.period.isSome || a.finish.isPeriod) && y.gdc.clock.isNone then
      (y, .refuse .clockUnset [.u8 (if a.period.isSome then 3 else 0)])
    else if a.kind.fills && y.mvs.tripped then (y, refuse .tripped)
    else if 16 ≤ y.mvs.orders.length then (y, refuse .listFull)
    else acceptOrder a h y := by
  cases w : a.whenHolder with
  | none => simp [takeOrder, ad.holder, w, ad.lead, hf]
  | some n => simp [takeOrder, ad.holder, w, ad.lead, hf, ad.whenHolder n w]

end

/-- An order is accepted once every test is passed, and else changes nothing (R40). -/
theorem takeOrder_cases (a : OrderAsk) (y : Yard) : (takeOrder a y).1 = y ∨
    ∃ h, a.Admitted h y ∧ orderFault a h y = none ∧ ¬(y.mvs.tripped = true ∧ a.kind.fills = true) ∧
      y.mvs.orders.length < 16 ∧ takeOrder a y = acceptOrder a h y := by
  cases hp : y.yds.presentHolder a.holder with
  | none => exact .inl (by rw [takeOrder_absent hp])
  | some h =>
    by_cases hw : ∀ n, a.whenHolder = some n → y.yds.presentHolder n ≠ none
    · by_cases hf : y.mvs.role h = .follower
      · exact .inl (by rw [takeOrder_follower hp hw hf])
      · have ad : a.Admitted h y := ⟨hp, hw, hf⟩
        cases fault : orderFault a h y with
        | some f => exact .inl (by rw [ad.fault fault])
        | none =>
          rw [ad.passes fault]
          split
          · exact .inl rfl
          · split
            · exact .inl rfl
            · next ht =>
              split
              · exact .inl rfl
              · next room => exact .inr ⟨h, ad, fault, by simpa [and_comm] using ht, by omega, rfl⟩
    · push Not at hw
      obtain ⟨n, hn, absent⟩ := hw
      exact .inl (by rw [takeOrder_whenAbsent hp hn absent])

theorem Yard.Ordered.takeOrder (hy : y.Ordered q r) (hc : y.yds.desc = .committed) (a : OrderAsk) :
    (takeOrder a y).1.Ordered q r := by
  obtain e | ⟨h, ad, fault, ht, room, e⟩ := takeOrder_cases a y
  · rw [e]; exact hy
  · rw [e]
    have put (o : Order) (hw : o.state = .waiting) (hn : o.number = a.number) (hh : o.holder = h) (hk : o.kind = a.kind) :=
      hy.append hc hw (by rw [hn]; exact orderFault_number fault) room (by rw [hh]; exact ad.lead) (by rwa [hk])
    unfold acceptOrder
    dsimp only
    split
    · refine Yard.Ordered.activate (put _ ?_ ?_ ?_ ?_) h <;> rfl
    · refine put _ ?_ ?_ ?_ ?_ <;> rfl

/-! ### CANCEL, SHUT HOLDER, TRIP, CLEAR TRIP and the YARD TRIP input (R53, R54, R59, R60, R63) -/

theorem Yard.Ordered.cancelOrder (hy : y.Ordered q r) (n : Nat) : (cancelOrder n y).1.Ordered q r := by
  unfold Machine.cancelOrder
  split
  · exact hy
  · next o found =>
    obtain ⟨mo, rfl⟩ := Mvs.mem_of_orderOf found
    split
    · next hw => exact (hy.drop mo (.inl hw)).activate _
    · exact hy
    · exact hy.close _ _

theorem Yard.Ordered.shutHolder (hy : y.Ordered q r) (n : Nat) : (shutHolder n y).1.Ordered q r := by
  unfold Machine.shutHolder
  dsimp only
  repeat' split
  any_goals exact hy
  refine (hy.of_plan (setShutPending_plan y _ _)).work fun d hd => ?_
  simp only [List.mem_append, List.mem_map] at hd
  obtain ⟨v, -, rfl⟩ | ⟨h, -, rfl⟩ := hd
  exacts [rfl, trivial]

theorem Yard.Ordered.clearTrip (hy : y.Ordered q r) : (clearTrip y).1.Ordered q r := by
  unfold Machine.clearTrip
  dsimp only
  split
  · exact hy
  · split
    · refine Yard.Ordered.of_plan (y := y.updMvs fun m => { m with tripped := false }) ?_ rfl
      exact ⟨hy.lawful.of_eq rfl rfl, fun a => (hy.held a).fewer rfl id fun v hp => ⟨hp, fun x mx wx => ⟨x, mx, wx⟩⟩,
        fun _ t => by cases t⟩
    · exact hy

theorem Yard.Ordered.tripAsserted (hy : y.Ordered q r) (t : Time) : (tripAsserted t y).Ordered q r := by
  unfold Machine.tripAsserted
  split
  exacts [hy, hy.of_plan rfl]

theorem Yard.Ordered.tripWatchOver (hy : y.Ordered q r) : (tripWatchOver y).Ordered q r := by
  unfold Machine.tripWatchOver
  split
  · exact (hy.of_plan (z := (y.reach _).updMvs fun m => { m with watch := .spent }) rfl).tripYard _
  · exact hy

theorem Yard.Ordered.valveTimerOver (hy : y.Ordered q r) (v : Valve) : (valveTimerOver v y).Ordered q r := by
  unfold Machine.valveTimerOver
  split
  · exact (hy.of_plan (y.reach_plan _)).failed v
  · exact hy

end

end Sys2Proof.Machine
end

section
/-! SUPPORT. The work that leaves MVS as it stands. -/

namespace Sys2Proof.Machine

theorem mvs_of_unbooked {y z : Yard} (h : z.unbooked = y.unbooked) : z.mvs = y.mvs := by
  have e : ∀ x : Yard, x.unbooked.mvs = x.mvs := fun _ => rfl
  rw [← e z, h, e]

section
variable (y : Yard)

@[simp] theorem putCommand_mvs (p : Point) (c : CmdCode) (v : Int) (w : Owner) : (putCommand p c v w y).1.mvs = y.mvs := rfl
@[simp] theorem drawShortfall_mvs : (drawShortfall y).2.mvs = y.mvs := rfl
@[simp] theorem updEntryDyn_mvs (a : Nat) (f : EntryDyn → EntryDyn) : (updEntryDyn a f y).mvs = y.mvs := rfl

/-! ### The accounts, and the closing stocks (09, R25) -/

@[simp] theorem openFresh_mvs (day weekday : Nat) (t : DayType) (gap : Bool) :
    (openFresh day weekday t gap y).mvs = y.mvs := by
  simp [openFresh]

@[simp] theorem takePeriodVolume_mvs (m : Meter) (day period : Nat) (v : Int) (e : Bool) :
    (takePeriodVolume m day period v e y).mvs = y.mvs := by
  unfold takePeriodVolume
  dsimp only
  repeat' split
  all_goals simp

@[simp] theorem takeRemainder_mvs (m : Meter) (v : Int) : (takeRemainder m v y).mvs = y.mvs :=
  mvs_of_unbooked (by simp)

@[simp] theorem closeDay_mvs (d : Day) : (closeDay d y).1.mvs = y.mvs :=
  mvs_of_unbooked (by simp)

@[simp] theorem finishPending_mvs : (finishPending y).mvs = y.mvs :=
  mvs_of_unbooked (by simp)

@[simp] theorem correctRemainder_mvs (m : Meter) : (correctRemainder y m).mvs = y.mvs :=
  mvs_of_unbooked (by simp)

@[simp] theorem startCompletion_mvs : (startCompletion y).mvs = y.mvs :=
  mvs_of_unbooked (by simp)

@[simp] theorem tryComplete_mvs : (tryComplete y).mvs = y.mvs :=
  mvs_of_unbooked (by simp)

@[simp] theorem makeDue_mvs : (makeDue y).mvs = y.mvs :=
  mvs_of_unbooked (by simp)

@[simp] theorem periodResult_mvs (c : Correction) : (periodResult c y).mvs = y.mvs := by
  simp [periodResult]

@[simp] theorem remainderValue_mvs (r : Remainder) : (remainderValue r y).mvs = y.mvs := by
  simp [remainderValue]

@[simp] theorem meterResult_mvs (m : Meter) (p : Nat) : (meterResult m p y).mvs = y.mvs := by
  unfold meterResult
  repeat' split
  all_goals simp

@[simp] theorem remainderBack_mvs (m : Meter) : (remainderBack m y).mvs = y.mvs := by
  unfold remainderBack
  repeat' split
  all_goals simp

@[simp] theorem forcePending_mvs : (forcePending y).mvs = y.mvs := by
  unfold forcePending
  dsimp only
  split
  · simp [foldl_keeps Yard.mvs fun z c => periodResult_mvs z c,
      foldl_keeps Yard.mvs fun z r => remainderValue_mvs z r]
  · rfl

@[simp] theorem soaDelta_mvs (m : Meter) (n : Nat) (b : Bool) (r : Option Nat) :
    (soaDelta m n b r y).mvs = y.mvs := by
  unfold soaDelta
  dsimp only
  repeat' split
  all_goals simp

@[simp] theorem forgetSeen_mvs (m : Meter) : (forgetSeen m y).mvs = y.mvs := by simp [forgetSeen]

@[simp] theorem newReply_mvs : (newReply y).mvs = y.mvs := by simp [newReply]

@[simp] theorem soaLatch_mvs (pt : Point) (l : Nat) : (soaLatch pt l y).mvs = y.mvs := by
  unfold soaLatch
  dsimp only
  repeat' split
  all_goals simp

@[simp] theorem correctPeriod_mvs (r : PeriodRec) (m : Meter) :
    (correctPeriod r y m).mvs = y.mvs := by
  unfold correctPeriod
  dsimp only
  repeat' split
  all_goals simp

@[simp] theorem soaRecord_mvs (r : PeriodRec) : (soaRecord r y).mvs = y.mvs := by
  unfold soaRecord
  dsimp only
  split
  · simp [foldl_keeps Yard.mvs fun z m => correctPeriod_mvs z r m]
  · rfl

@[simp] theorem soaClosing_mvs (h : Holder) (c : Closing) : (soaClosing h c y).mvs = y.mvs := by
  unfold soaClosing
  repeat' split
  all_goals simp

@[simp] theorem soaPeriodClose_mvs (p : Nat) : (soaPeriodClose p y).mvs = y.mvs := by
  unfold soaPeriodClose
  repeat' split
  all_goals simp

@[simp] theorem soaStop_mvs : (soaStop y).mvs = y.mvs := by
  unfold soaStop
  dsimp only
  repeat' split
  all_goals simp

@[simp] theorem closePartial_mvs : (closePartial y).1.mvs = y.mvs := by
  unfold closePartial
  dsimp only
  repeat' split
  all_goals simp

@[simp] theorem soaDayClose_mvs (b : Bool) : (soaDayClose b y).1.mvs = y.mvs := by
  unfold soaDayClose
  dsimp only
  repeat' split
  all_goals simp

@[simp] theorem soaPeriodStart_mvs (s : PeriodStart) (c : Option (Int × Bool)) :
    (soaPeriodStart s c y).mvs = y.mvs := by
  unfold soaPeriodStart
  dsimp only
  repeat' split
  all_goals simp

@[simp] theorem soaMarkerSent_mvs : (soaMarkerSent y).mvs = y.mvs := by simp [soaMarkerSent]

@[simp] theorem soaCommit_mvs : (soaCommit y).mvs = y.mvs := by
  unfold soaCommit
  dsimp only
  repeat' split
  all_goals simp

@[simp] theorem recordClosing_mvs (h : Holder) (c : Closing) :
    (recordClosing h c y).mvs = y.mvs := by
  simp [recordClosing]

@[simp] theorem closeHolder_mvs (r : PeriodRec) (h : Holder) : (closeHolder r y h).mvs = y.mvs := by
  unfold closeHolder
  repeat' split
  all_goals simp

@[simp] theorem hsuRecord_mvs (r : PeriodRec) : (hsuRecord r y).mvs = y.mvs := by
  unfold hsuRecord
  split
  · exact foldl_keeps Yard.mvs (fun z h => closeHolder_mvs z r h) _ y
  · rfl

@[simp] theorem closingBack_mvs (h : Holder) : (closingBack h y).mvs = y.mvs := by
  unfold closingBack
  dsimp only
  repeat' split
  all_goals simp

/-! ### The district governing unit (05) -/

@[simp] theorem dguPeriodStart_mvs (s : PeriodStart) : (dguPeriodStart s y).mvs = y.mvs :=
  foldl_keeps Yard.mvs (fun z d => z.updDistrict_mvs d _) _ y

@[simp] theorem trimOne_mvs (r : PeriodRec) (d : District) : (trimOne r y d).mvs = y.mvs := by
  unfold trimOne
  dsimp only
  repeat' split
  all_goals simp

@[simp] theorem dguRecord_mvs (r : PeriodRec) : (dguRecord r y).mvs = y.mvs := by
  unfold dguRecord
  split
  · exact foldl_keeps Yard.mvs (fun z d => trimOne_mvs z r d) _ y
  · rfl

@[simp] theorem raiseBooster_mvs (d : District) (c : BoosterCause) :
    (raiseBooster d c y).mvs = y.mvs := by
  simp [raiseBooster]

@[simp] theorem enterShort_mvs (d : District) : (enterShort d y).mvs = y.mvs := by
  unfold enterShort
  dsimp only
  repeat' split
  all_goals simp

@[simp] theorem putStop_mvs (d : District) : (putStop d y).mvs = y.mvs := by
  unfold putStop
  repeat' split
  all_goals simp

@[simp] theorem boosterFails_mvs (d : District) (c : BoosterCause) :
    (boosterFails d c y).mvs = y.mvs := by
  simp [boosterFails]

@[simp] theorem stopFails_mvs (d : District) (c : BoosterCause) :
    (stopFails d c y).mvs = y.mvs := by
  simp [stopFails]

@[simp] theorem enterBoosting_mvs (d : District) : (enterBoosting d y).mvs = y.mvs := by
  unfold enterBoosting
  dsimp only
  repeat' split
  all_goals simp

@[simp] theorem enterUnboosting_mvs (d : District) : (enterUnboosting d y).mvs = y.mvs := by
  unfold enterUnboosting
  dsimp only
  repeat' split
  all_goals simp

@[simp] theorem infeasible_mvs (d : District) : (infeasible d y).mvs = y.mvs := by
  unfold infeasible
  dsimp only
  repeat' split
  all_goals simp

@[simp] theorem evaluateFeed_mvs (d : District) : (evaluateFeed d y).mvs = y.mvs := by
  unfold evaluateFeed
  dsimp only
  repeat' split
  all_goals simp

@[simp] theorem governorOutcome_mvs (d : District) (v : Int) (o : CmdOutcome) :
    (governorOutcome d v o y).mvs = y.mvs := by
  unfold governorOutcome
  dsimp only
  repeat' split
  all_goals simp

@[simp] theorem governorCommand_mvs (d : District) (b : Bool) (v : Int) :
    (governorCommand d b v y).mvs = y.mvs := by
  unfold governorCommand
  dsimp only
  repeat' split
  all_goals simp

@[simp] theorem updateDistrict_mvs (d : District) : (updateDistrict y d).mvs = y.mvs := by
  unfold updateDistrict
  dsimp only
  repeat' split
  all_goals simp

@[simp] theorem districtUpdate_mvs : (districtUpdate y).mvs = y.mvs := by
  unfold districtUpdate
  dsimp only
  split
  · simp [foldl_keeps Yard.mvs fun z d => updateDistrict_mvs z d]
  · rfl

@[simp] theorem governorReport_mvs (d : District) (v : Int) (st : PointStatus) :
    (governorReport d v st y).mvs = y.mvs := by
  simp [governorReport]

@[simp] theorem adoptFrom_mvs (d : District) (r : BoosterRep) : (adoptFrom d r y).mvs = y.mvs := by
  unfold adoptFrom
  repeat' split
  all_goals simp

@[simp] theorem boosterMoves_mvs (d : District) (r : BoosterRep) :
    (boosterMoves d r y).mvs = y.mvs := by
  unfold boosterMoves
  repeat' split
  all_goals simp

@[simp] theorem boosterReport_mvs (d : District) (r : BoosterRep) :
    (boosterReport d r y).mvs = y.mvs := by
  unfold boosterReport
  dsimp only
  repeat' split
  all_goals simp

@[simp] theorem boosterOutcome_mvs (d : District) (c : CmdCode) (o : CmdOutcome) :
    (boosterOutcome d c o y).mvs = y.mvs := by
  unfold boosterOutcome
  dsimp only
  repeat' split
  all_goals simp

@[simp] theorem runUpExpiry_mvs (d : District) : (runUpExpiry d y).mvs = y.mvs := by
  unfold runUpExpiry
  dsimp only
  repeat' split
  all_goals simp

@[simp] theorem adoptionExpiry_mvs (d : District) : (adoptionExpiry d y).mvs = y.mvs := by
  unfold adoptionExpiry
  repeat' split
  all_goals simp

/-! ### The quantity table (08) -/

@[simp] theorem updOpen_mvs (q : Slot) (f : PEntry → PEntry) : (updOpen q f y).mvs = y.mvs := by
  simp [updOpen]

@[simp] theorem handDelta_mvs (m : Meter) (d r : Nat) : (handDelta m d r y).mvs = y.mvs := by
  simp [handDelta]

@[simp] theorem meterSample_mvs (m : Meter) (r : Nat) (b : Bool) :
    (meterSample m r b y).mvs = y.mvs := by
  unfold meterSample
  dsimp only
  repeat' split
  all_goals simp

@[simp] theorem countClamp_mvs (q : Slot) : (countClamp q y).mvs = y.mvs := by simp [countClamp]

@[simp] theorem writeSample_mvs (q : Slot) (v : Int) (s : Source) :
    (writeSample q v s y).mvs = y.mvs := by
  simp [writeSample]

@[simp] theorem qprPolled_mvs (a : Nat) : (qprPolled a y).mvs = y.mvs := by simp [qprPolled]

@[simp] theorem qprPhaseCut_mvs : (qprPhaseCut y).mvs = y.mvs := by
  unfold qprPhaseCut
  dsimp only
  rw [Yard.updQpr_mvs, foldl_keeps Yard.mvs fun z q => z.updRec_mvs q _]

@[simp] theorem qprPeriodStart_mvs (s : PeriodStart) : (qprPeriodStart s y).mvs = y.mvs := by
  simp [qprPeriodStart]

/-! ### The clock (04) -/

@[simp] theorem giveDayClose_mvs (b : Bool) : (giveDayClose b y).1.mvs = y.mvs := by
  simp [giveDayClose]

@[simp] theorem markTest_mvs : (markTest y).mvs = y.mvs := by
  unfold markTest
  dsimp only
  repeat' split
  all_goals simp

@[simp] theorem setLastClosed_mvs (p : Nat) : (setLastClosed p y).mvs = y.mvs := by
  simp [setLastClosed]

@[simp] theorem dayChange_mvs (c : ClockTime) : (dayChange c y).1.mvs = y.mvs := by simp [dayChange]

@[simp] theorem startClock_mvs (d w p s : Nat) : (startClock d w p s y).1.mvs = y.mvs := by
  simp [startClock]

@[simp] theorem forceDay_mvs (b : Bool) (t : DayType) : (forceDay b t y).1.mvs = y.mvs := by
  unfold forceDay
  dsimp only
  repeat' split
  all_goals simp

/-! ### The yard line (06) -/

@[simp] theorem handExchange_mvs (e : Exchange) : (handExchange e y).mvs = y.mvs := by
  rw [handExchange_frame]

@[simp] theorem settle_mvs : (settle y).mvs = y.mvs := by rw [settle_frame]

@[simp] theorem release_mvs : (release y).mvs = y.mvs := by rw [release_frame]

@[simp] theorem beginLong_mvs : (beginLong y).mvs = y.mvs := by rw [beginLong_frame]

@[simp] theorem askLong_mvs : (askLong y).mvs = y.mvs := by rw [askLong_frame]

@[simp] theorem breakOff_mvs (o : ExOutcome) : (breakOff o y).mvs = y.mvs := by
  rw [breakOff_frame]

@[simp] theorem busyAt_mvs (t : Time) : (busyAt t y).mvs = y.mvs := by simp [busyAt]

@[simp] theorem drain_mvs (o : ExOutcome) : (drain o y).mvs = y.mvs := by simp [drain]

/-! ### The scan sequencer (07) -/

@[simp] theorem countOutcome_mvs (a : Nat) (o : ExOutcome) : (countOutcome a o y).mvs = y.mvs := by
  simp [countOutcome]

@[simp] theorem pollGood_mvs (a : Nat) (b : Bool) : (pollGood a b y).mvs = y.mvs := by
  unfold pollGood
  dsimp only
  repeat' split
  all_goals simp

@[simp] theorem pollMissed_mvs (a : Nat) : (pollMissed a y).mvs = y.mvs := by
  unfold pollMissed
  dsimp only
  repeat' split
  all_goals simp

@[simp] theorem askPoll_mvs : (askPoll y).mvs = y.mvs := by simp [askPoll]

@[simp] theorem startCycle_mvs : (startCycle y).mvs = y.mvs := by
  unfold startCycle
  dsimp only
  repeat' split
  all_goals simp

@[simp] theorem beginRead_mvs (a : Nat) (b : Bool) (r : List Nat) :
    (beginRead a b r y).mvs = y.mvs := by
  simp [beginRead]

@[simp] theorem endOrder_mvs : (endOrder y).mvs = y.mvs := by
  unfold endOrder
  repeat' split
  all_goals simp

@[simp] theorem orderOn_mvs : (orderOn y).mvs = y.mvs := by
  unfold orderOn
  dsimp only
  repeat' split
  all_goals simp

@[simp] theorem startOrders_mvs : (startOrders y).mvs = y.mvs := by simp [startOrders]

@[simp] theorem dropCommand_mvs (p : Point) : (dropCommand p y).mvs = y.mvs := by simp [dropCommand]

@[simp] theorem loadOn_mvs : (loadOn y).mvs = y.mvs := by
  unfold loadOn
  dsimp only
  repeat' split
  all_goals simp

@[simp] theorem startLoads_mvs : (startLoads y).mvs = y.mvs := by simp [startLoads]

@[simp] theorem wakeSleepers_mvs (b : Bool) : (wakeSleepers b y).mvs = y.mvs := rfl

@[simp] theorem wakeSent_mvs : (wakeSent y).mvs = y.mvs := by simp [wakeSent]

@[simp] theorem probeOutcome_mvs (a : Nat) (o : ExOutcome) : (probeOutcome a o y).mvs = y.mvs := by
  unfold probeOutcome
  rw [loadOn_mvs]
  split <;> simp

@[simp] theorem endLoad_mvs (a : Nat) (r : LoadOutcome) : (endLoad a r y).mvs = y.mvs := by
  simp [endLoad]

@[simp] theorem loadOutcome_mvs (a : Nat) (o : ExOutcome) : (loadOutcome a o y).mvs = y.mvs := by
  unfold loadOutcome
  rw [loadOn_mvs]
  repeat' split
  all_goals simp

@[simp] theorem intervalOver_mvs : (intervalOver y).mvs = y.mvs := by
  unfold intervalOver
  repeat' split
  all_goals simp

@[simp] theorem cutCycle_mvs : (cutCycle y).mvs = y.mvs := by simp [cutCycle]

@[simp] theorem failLoads_mvs (ls : List Load) : (failLoads ls y).mvs = y.mvs :=
  foldl_keeps Yard.mvs (fun z (l : Load) => updEntryDyn_mvs z l.address fun d => { d with load := .failed }) ls y

end

end Sys2Proof.Machine
end

section
/-! SUPPORT. The laws of the order list, the valves and the trip, kept by what reaches MVS through the holder stocks, the quantities and
the clock (02, 04, 08). -/

namespace Sys2Proof.Machine

section
variable {y z : Yard} {q r : Prop}

/-- Work that leaves the description and MVS as they stand. -/
theorem Yard.Ordered.leave (hy : y.Ordered q r) (hd : z.described = y.described) (hm : z.mvs = y.mvs) : z.Ordered q r :=
  hy.of_plan (by simp only [Yard.plan, Yard.yds_of_described hd, hm])

/-! ### The updates of the other blocks -/

theorem Yard.Ordered.reach (hy : y.Ordered q r) (t : Time) : (y.reach t).Ordered q r := hy.of_plan rfl

theorem Yard.Ordered.updHsu (hy : y.Ordered q r) (f : Hsu → Hsu) : (y.updHsu f).Ordered q r := hy.of_plan rfl

theorem Yard.Ordered.updHolder (hy : y.Ordered q r) (h : Holder) (f : HolderDyn → HolderDyn) : (y.updHolder h f).Ordered q r :=
  hy.of_plan rfl

theorem Yard.Ordered.updRec (hy : y.Ordered q r) (s : Slot) (f : QRec → QRec) : (y.updRec s f).Ordered q r := hy.of_plan rfl

theorem Yard.Ordered.updQpr (hy : y.Ordered q r) (f : Qpr → Qpr) : (y.updQpr f).Ordered q r := hy.of_plan rfl

theorem Yard.Ordered.updGdc (hy : y.Ordered q r) (f : Gdc → Gdc) : (y.updGdc f).Ordered q r := hy.of_plan rfl

theorem Yard.Ordered.updScs (hy : y.Ordered q r) (f : Scs → Scs) : (y.updScs f).Ordered q r := hy.of_plan rfl

theorem Yard.Ordered.updYlc (hy : y.Ordered q r) (f : Ylc → Ylc) : (y.updYlc f).Ordered q r := hy.of_plan rfl

/-! ### The holder stock unit (02) -/

theorem Yard.Ordered.assess (hy : y.Ordered q r) (h : Holder) : (assess h y).Ordered q r :=
  (hy.updHolder h fun r => { r with status := .unknown }).mvsReading h

theorem Yard.Ordered.formStock (hy : y.Ordered q r) (h : Holder) : (formStock h y).Ordered q r := by
  unfold Machine.formStock
  split
  · split
    exacts [hy.updHsu _, hy.assess h]
  · exact hy

theorem Yard.Ordered.formAll (hy : y.Ordered q r) (hs : List Holder) : (formAll hs y).Ordered q r :=
  hy.foldl (fun _ h hz => hz.formStock h) hs

theorem Yard.Ordered.formPresent (hy : y.Ordered q r) : (formPresent y).Ordered q r := hy.formAll _

theorem Yard.Ordered.stockBack (hy : y.Ordered q r) (h : Holder) : (stockBack h y).Ordered q r := by
  unfold Machine.stockBack
  dsimp only
  split
  · next j rest _ =>
    have figures : ∀ f, (Machine.mvsReading h ((y.updHsu fun u => { u with stockJobs := rest }).updHolder h f)).Ordered q r :=
      fun f => ((hy.updHsu _).updHolder h f).mvsReading h
    split
    exacts [figures _, (figures _).newContribution h]
  · exact hy

theorem Yard.Ordered.pressSample (hy : y.Ordered q r) (h : Holder) (s : Sampled) : (pressSample h s y).Ordered q r := by
  unfold Machine.pressSample
  dsimp only
  refine Yard.Ordered.newContribution ?_ h
  repeat' split
  all_goals exact hy.leave (by simp) (by simp)

theorem Yard.Ordered.pressSource (hy : y.Ordered q r) (h : Holder) (s : Option Sampled) : (pressSource h s y).Ordered q r :=
  (hy.updHolder h _).newContribution h

theorem Yard.Ordered.yardTempChange (hy : y.Ordered q r) : (yardTempChange y).Ordered q r := hy.formAll _

theorem Yard.Ordered.baroChange (hy : y.Ordered q r) (s : Option Sampled) : (baroChange s y).Ordered q r :=
  (hy.updHsu fun u => { u with baro := s }).formPresent

theorem Yard.Ordered.hsuSample (hy : y.Ordered q r) (s : Slot) (v : Sampled) : (hsuSample s v y).Ordered q r := by
  unfold Machine.hsuSample
  split
  · exact (hy.updHolder _ _).formStock _
  · exact (hy.updHolder _ _).formStock _
  · exact hy.pressSample _ _
  · exact hy.baroChange _
  · exact hy

theorem Yard.Ordered.hsuSource (hy : y.Ordered q r) (s : Slot) (v : Option Sampled) : (hsuSource s v y).Ordered q r := by
  unfold Machine.hsuSource
  split
  · exact (hy.updHolder _ _).formStock _
  · exact (hy.updHolder _ _).formStock _
  · exact hy.pressSource _ _
  · exact hy.baroChange _
  · exact hy.yardTempChange
  · exact hy

/-! ### The quantities (08) -/

theorem Yard.Ordered.handSource (hy : y.Ordered q r) (s : Slot) : (handSource s y).Ordered q r := hy.hsuSource s _

theorem Yard.Ordered.toDeclared (hy : y.Ordered q r) (s : Slot) : (toDeclared s y).Ordered q r :=
  (hy.updRec s _).handSource s

theorem Yard.Ordered.holdTest (hy : y.Ordered q r) (s : Slot) : (holdTest s y).Ordered q r := by
  unfold Machine.holdTest
  dsimp only
  split
  exacts [(hy.updRec s _).toDeclared s, hy]

theorem Yard.Ordered.unboundNow (hy : y.Ordered q r) (s : Slot) : (unboundNow s y).Ordered q r := by
  unfold Machine.unboundNow
  extract_lets z
  have unbound : z.Ordered q r := hy.updRec s _
  split
  exacts [unbound, unbound.toDeclared s]

theorem Yard.Ordered.unboundAll (hy : y.Ordered q r) : (unboundAll y).Ordered q r :=
  hy.foldl (fun _ s hz => hz.unboundNow s) _

theorem Yard.Ordered.acceptSample (hy : y.Ordered q r) (s : Slot) (raw : Int) (src : Source) (b : Bool) :
    (acceptSample s raw src b y).Ordered q r := by
  unfold Machine.acceptSample
  dsimp only
  split
  · split
    all_goals exact hy.leave (by simp) (by simp)
  · have written : ∀ v, (updOpen s (·.enter v) (writeSample s v src (if v = raw then y else countClamp s y))).Ordered q r :=
      fun v => hy.leave (by split <;> simp) (by split <;> simp)
    split
    · split
      exacts [(written _).yardTempChange, written _]
    · exact (written _).hsuSample _ _

theorem Yard.Ordered.slotEntry (hy : y.Ordered q r) (p : Point) (v : Int) (b : Bool) (s : Slot) :
    (slotEntry p v b y s).Ordered q r := by
  unfold Machine.slotEntry
  dsimp only
  split; · exact hy
  split
  · exact (hy.updRec s _).acceptSample _ _ _ _
  split
  · split
    · exact hy.acceptSample _ _ _ _
    · split
      exacts [hy, hy.updRec s _]
  · exact hy

theorem Yard.Ordered.qprEntry (hy : y.Ordered q r) (p : Point) (st : PointStatus) (v : Int) (b : Bool) :
    (qprEntry p st v b y).Ordered q r := by
  unfold Machine.qprEntry
  split
  exacts [hy.foldl (fun _ s hz => hz.slotEntry p v b s) _, hy]

/-- A standby candidate is accepted at the end of the phase, and a quantity not accepted in it goes to HELD. -/
theorem Yard.Ordered.slotPhaseEnd (hy : y.Ordered q r) (s : Slot) : (slotPhaseEnd y s).Ordered q r := by
  unfold Machine.slotPhaseEnd
  split
  · extract_lets _ z _ x
    have accepted : z.Ordered q r := by
      unfold z
      split
      · split
        exacts [hy, hy.acceptSample _ _ _ _]
      · exact hy
    refine Yard.Ordered.updRec ?_ s _
    unfold x
    split
    exacts [((accepted.updRec s _).handSource s).holdTest s, accepted]
  · exact hy

theorem Yard.Ordered.qprPhaseEnd (hy : y.Ordered q r) : (qprPhaseEnd y).Ordered q r :=
  ((hy.foldl (fun _ s hz => hz.slotPhaseEnd s) Slot.list).updQpr _).unboundAll

theorem Yard.Ordered.sinceRises (hy : y.Ordered q r) : (sinceRises y).Ordered q r :=
  (hy.foldl (fun _ s hz => hz.updRec s _) _).foldl (fun _ s hz => hz.holdTest s) _

theorem Yard.Ordered.qprClose (hy : y.Ordered q r) (b : Bool) : (qprClose b y).Ordered q r := by
  unfold Machine.qprClose
  dsimp only
  refine Yard.Ordered.sinceRises ?_
  split
  · split
    all_goals exact hy.leave (by simp) (by simp)
  · exact hy

theorem Yard.Ordered.reclamp (hy : y.Ordered q r) (s : Slot) : (reclamp s y).Ordered q r := by
  unfold Machine.reclamp
  dsimp only
  split
  · split
    exacts [(hy.updRec s _).hsuSample _ _, hy]
  · exact hy

theorem Yard.Ordered.applySubstitute (hy : y.Ordered q r) (s : Slot) : (applySubstitute s y).Ordered q r := by
  unfold Machine.applySubstitute
  extract_lets z
  have range : z.Ordered q r := by
    unfold z
    split
    exacts [hy, hy.reclamp s]
  split
  · exact range.toDeclared s
  · split
    exacts [range.toDeclared s, range]
  · exact range.holdTest s
  · exact range

/-! ### The clock (04) -/

theorem Yard.Ordered.markTest (hy : y.Ordered q r) : (markTest y).Ordered q r := hy.leave (markTest_described y) (markTest_mvs y)

theorem Yard.Ordered.setLastClosed (hy : y.Ordered q r) (p : Nat) : (setLastClosed p y).Ordered q r :=
  hy.leave (setLastClosed_described y p) (setLastClosed_mvs y p)

theorem Yard.Ordered.startClock (hy : y.Ordered q r) (d w p s : Nat) : (startClock d w p s y).1.Ordered q r :=
  hy.leave (startClock_described y d w p s) (startClock_mvs y d w p s)

theorem Yard.Ordered.dayChange (hy : y.Ordered q r) (c : ClockTime) : (dayChange c y).1.Ordered q r :=
  hy.leave (dayChange_described y c) (dayChange_mvs y c)

theorem Yard.Ordered.giveDayClose (hy : y.Ordered q r) (b : Bool) : (giveDayClose b y).1.Ordered q r :=
  hy.leave (giveDayClose_described y b) (giveDayClose_mvs y b)

theorem Yard.Ordered.givePeriodClose (hy : y.Ordered q r) (p : Nat) (b : Bool) : (givePeriodClose p b y).Ordered q r :=
  (hy.qprClose b).leave (soaPeriodClose_described _ p) (soaPeriodClose_mvs _ p)

theorem Yard.Ordered.givePeriodStart (hy : y.Ordered q r) (s : PeriodStart) (c : Option (Int × Bool)) :
    (givePeriodStart s c y).Ordered q r :=
  (hy.mvsPeriodStart s.period).leave (by simp [Machine.givePeriodStart]) (by simp [Machine.givePeriodStart])

theorem Yard.Ordered.boundary (hy : y.Ordered q r) (c : ClockTime) : (boundary c y).Ordered q r := by
  have closed := (hy.givePeriodClose c.period c.partialMark).setLastClosed c.period
  unfold Machine.boundary
  refine ((Yard.Ordered.updGdc ?_ _).givePeriodStart _ _).markTest
  split
  exacts [closed.dayChange c, closed]

theorem Yard.Ordered.periodEnd (hy : y.Ordered q r) : (periodEnd y).Ordered q r := by
  unfold Machine.periodEnd
  split
  · next c _ =>
    have later : ∀ t, ({ y with secondMark := t } : Yard).Ordered q r := fun t => hy.of_plan rfl
    exact ((later _).reach _).boundary c
  · exact hy

theorem Yard.Ordered.clockSecond (hy : y.Ordered q r) : (clockSecond y).Ordered q r := by
  unfold Machine.clockSecond
  dsimp only
  split
  · split
    exacts [hy.of_plan rfl, hy]
  · exact hy.of_plan rfl

theorem Yard.Ordered.holdTick (hy : y.Ordered q r) : (holdTick y).Ordered q r := by
  unfold Machine.holdTick
  split
  exacts [((hy.updQpr _).reach _).sinceRises, hy]

theorem Yard.Ordered.setFirst (hy : y.Ordered q r) (d w p s : Nat) : (setFirst d w p s y).Ordered q r :=
  (((hy.startClock d w p s).updGdc _).givePeriodStart _ _).markTest

theorem Yard.Ordered.setResumed (hy : y.Ordered q r) (p : Resume) (b : Bool) (d w n s : Nat) :
    (setResumed p b d w n s y).1.Ordered q r := by
  unfold Machine.setResumed
  refine (((Yard.Ordered.startClock ?_ d w n s).givePeriodStart _ _).updGdc _).markTest
  split
  exacts [hy, hy.giveDayClose false]

theorem Yard.Ordered.setTime (hy : y.Ordered q r) (d w p s : Nat) : (setTime d w p s y).1.Ordered q r := by
  unfold Machine.setTime
  dsimp only
  split; · exact hy
  split
  · split
    exacts [hy.of_plan rfl, hy]
  · split
    · exact hy.setFirst d w p s
    · split
      · split
        exacts [hy.setResumed _ _ _ _ _ _, hy]
      · split
        exacts [hy.setResumed _ _ _ _ _ _, hy]

theorem Yard.Ordered.stopClock (hy : y.Ordered q r) : (stopClock y).Ordered q r := by
  unfold Machine.stopClock
  split
  · next c _ =>
    have closed := (hy.givePeriodClose c.period true).setLastClosed c.period
    exact ((closed.updGdc _).updQpr _).leave (soaStop_described _) (soaStop_mvs _)
  · exact hy

end

end Sys2Proof.Machine
end

section
/-! SUPPORT. The laws of the order list, the valves and the trip, kept by what reaches MVS through the scan and the yard line (06, 07). -/

namespace Sys2Proof.Machine

section
variable {y z : Yard} {q r : Prop}

/-! ### The values of a reply (R120) -/

theorem Yard.Ordered.handEntry (hy : y.Ordered q r) (a : Nat) (b : Bool) (p : PointEntry) : (handEntry a b y p).Ordered q r := by
  unfold Machine.handEntry
  dsimp only
  split
  · split
    · split
      · exact hy.qprEntry _ _ _ _
      · exact hy.qprEntry _ _ _ _
      · exact hy.foldl (fun _ v hz => hz.valveReport v _) _
      · exact hy.foldl (fun z d hz => hz.leave (boosterReport_described z d _) (boosterReport_mvs z d _)) _
      · exact hy.foldl (fun z d hz => hz.leave (governorReport_described z d _ _) (governorReport_mvs z d _ _)) _
      · exact hy
    · exact hy
  · exact hy

theorem Yard.Ordered.handValues (hy : y.Ordered q r) (a : Nat) (v : ValuesReply) : (handValues a v y).Ordered q r := by
  have handed := (hy.leave (newReply_described y) (newReply_mvs y)).foldl (fun _ p hz => hz.handEntry a v.restarted p) v.entries
  unfold Machine.handValues
  extract_lets _ z
  have latched : z.Ordered q r :=
    handed.foldl (fun x l hx => hx.leave (soaLatch_described x _ _) (soaLatch_mvs x _ _)) _
  split
  exacts [latched.leave (by simp) (by simp), latched]

/-! ### The phases of the cycle (R123 to R127) -/

theorem Yard.Ordered.handExchange (hy : y.Ordered q r) (e : Exchange) : (handExchange e y).Ordered q r :=
  hy.leave (handExchange_described y e) (handExchange_mvs y e)

theorem Yard.Ordered.endPoll (hy : y.Ordered q r) : (endPoll y).Ordered q r :=
  ((hy.updScs _).qprPhaseEnd.updScs _).handExchange _

theorem Yard.Ordered.endShort (hy : y.Ordered q r) (a : Nat) : (endShort a y).Ordered q r := by
  unfold Machine.endShort
  refine Yard.Ordered.endPoll ?_
  split
  exacts [hy.of_plan rfl, hy.of_plan rfl]

theorem Yard.Ordered.endRound (hy : y.Ordered q r) : (endRound y).Ordered q r := (hy.updScs _).endPoll

theorem Yard.Ordered.beginRead (hy : y.Ordered q r) (a : Nat) (b : Bool) (l : List Nat) : (beginRead a b l y).Ordered q r :=
  hy.leave (beginRead_described y a b l) (beginRead_mvs y a b l)

theorem Yard.Ordered.pollOn (hy : y.Ordered q r) (l : List Nat) : (pollOn l y).Ordered q r := by
  induction l with
  | nil => exact hy.endRound
  | cons a l ih =>
    rw [Machine.pollOn]
    split
    · exact ih
    · split
      · exact hy.updScs _
      · split
        exacts [hy.beginRead a false l, hy.endShort a]

theorem Yard.Ordered.qprPolled (hy : y.Ordered q r) (a : Nat) : (qprPolled a y).Ordered q r := hy.updQpr _

theorem Yard.Ordered.readOutcome (hy : y.Ordered q r) (a : Nat) (o : ExOutcome) : (readOutcome a o y).Ordered q r := by
  unfold Machine.readOutcome
  split
  · next v =>
    exact (((hy.leave (pollGood_described y a v.sleeping) (pollGood_mvs y a v.sleeping)).handValues a v).qprPolled a).pollOn _
  · exact hy.pollOn _
  · split
    · exact ((hy.leave (pollMissed_described y a) (pollMissed_mvs y a)).qprPolled a).pollOn _
    · split
      exacts [hy.beginRead _ _ _, hy.endShort a]

/-! ### Commands and loads (R128 to R131) -/

theorem Yard.Ordered.returnCommand (hy : y.Ordered q r) (c : Command) (o : CmdOutcome) : (returnCommand c o y).Ordered q r := by
  unfold Machine.returnCommand
  split
  · exact hy.valveOutcome _ _
  · exact hy.leave (governorOutcome_described y _ _ _) (governorOutcome_mvs y _ _ _)
  · exact hy.leave (boosterOutcome_described y _ _ _) (boosterOutcome_mvs y _ _ _)

theorem Yard.Ordered.returnAll (hy : y.Ordered q r) (n : Nat) (cs : List Command) : (returnAll n cs y).Ordered q r :=
  hy.foldl (fun _ c hz => hz.returnCommand c _) cs

theorem Yard.Ordered.orderOutcome (hy : y.Ordered q r) (p : Point) (o : ExOutcome) : (orderOutcome p o y).Ordered q r := by
  have dropped : (dropCommand p y).Ordered q r := hy.updScs _
  unfold Machine.orderOutcome
  refine Yard.Ordered.leave ?_ (orderOn_described _) (orderOn_mvs _)
  split
  · split
    · exact dropped.returnCommand _ _
    · split
      exacts [dropped.returnCommand _ _, hy.updScs _]
  · exact hy

theorem Yard.Ordered.markSent (hy : y.Ordered q r) (p : MarkPhase) : (markSent p y).Ordered q r := by
  unfold Machine.markSent
  split
  · exact hy.leave (by simp) (by simp)
  · exact hy.pollOn _
  · exact hy.leave (startOrders_described y) (startOrders_mvs y)
  · exact hy.leave (startLoads_described y) (startLoads_mvs y)

theorem Yard.Ordered.scsOutcome (hy : y.Ordered q r) (e : Exchange) (o : ExOutcome) : (scsOutcome e o y).Ordered q r := by
  cases e with
  | wake => exact hy.leave (wakeSent_described y) (wakeSent_mvs y)
  | frame f =>
    have counted := hy.leave (countOutcome_described y f.address o) (countOutcome_mvs y f.address o)
    unfold Machine.scsOutcome
    cases f with
    | mark p => exact counted.markSent p
    | read a => exact counted.readOutcome a o
    | order a ch _ _ => exact counted.orderOutcome ⟨a, ch⟩ o
    | load a _ _ => exact counted.leave (loadOutcome_described _ a o) (loadOutcome_mvs _ a o)
    | probe a => exact counted.leave (probeOutcome_described _ a o) (probeOutcome_mvs _ a o)

theorem Yard.Ordered.sleepOver (hy : y.Ordered q r) : (sleepOver y).Ordered q r := by
  unfold Machine.sleepOver
  split
  exacts [((hy.reach _).updScs _).pollOn _, hy]

theorem Yard.Ordered.lineReset (hy : y.Ordered q r) : (lineReset y).Ordered q r := by
  have cut : (cutCycle (askLong y)).Ordered q r := hy.leave (by simp) (by simp)
  unfold Machine.lineReset
  refine Yard.Ordered.updScs (Yard.Ordered.leave ?_ (failLoads_described _ _) (failLoads_mvs _ _)) _
  exact ((cut.updScs _).returnAll 2 _).updScs _

theorem Yard.Ordered.loadRequest (hy : y.Ordered q r) (a : Nat) (p v : Int) : (loadRequest a p v y).1.Ordered q r := by
  unfold Machine.loadRequest
  dsimp only
  repeat' split
  all_goals exact hy.leave (by simp) (by simp)

/-! ### The events of the line (06) -/

theorem Yard.Ordered.settle (hy : y.Ordered q r) : (settle y).Ordered q r := hy.leave (settle_described y) (settle_mvs y)

theorem Yard.Ordered.release (hy : y.Ordered q r) : (release y).Ordered q r := hy.leave (release_described y) (release_mvs y)

theorem Yard.Ordered.beginLong (hy : y.Ordered q r) : (beginLong y).Ordered q r :=
  hy.leave (beginLong_described y) (beginLong_mvs y)

theorem Yard.Ordered.breakOff (hy : y.Ordered q r) (o : ExOutcome) : (breakOff o y).Ordered q r :=
  hy.leave (breakOff_described y o) (breakOff_mvs y o)

theorem Yard.Ordered.busyAt (hy : y.Ordered q r) (t : Time) : (busyAt t y).Ordered q r :=
  hy.leave (busyAt_described y t) (busyAt_mvs y t)

theorem Yard.Ordered.drain (hy : y.Ordered q r) (o : ExOutcome) : (drain o y).Ordered q r := hy.updYlc _

theorem Yard.Ordered.startCycle (hy : y.Ordered q r) : (startCycle y).Ordered q r :=
  hy.leave (startCycle_described y) (startCycle_mvs y)

theorem Yard.Ordered.intervalOver (hy : y.Ordered q r) : (intervalOver y).Ordered q r :=
  hy.leave (intervalOver_described y) (intervalOver_mvs y)

theorem Yard.Ordered.endExchange (hy : y.Ordered q r) (o : ExOutcome) : (endExchange o y).Ordered q r := by
  unfold Machine.endExchange
  split
  exacts [((hy.updYlc _).scsOutcome _ o).settle, hy]

theorem Yard.Ordered.guardExpiry (hy : y.Ordered q r) : (guardExpiry y).Ordered q r := by
  unfold Machine.guardExpiry
  split
  exacts [(hy.reach _).settle, hy]

theorem Yard.Ordered.frameSent (hy : y.Ordered q r) : (frameSent y).Ordered q r := by
  unfold Machine.frameSent
  split
  · extract_lets z
    have sent : z.Ordered q r := (hy.reach _).release
    split
    exacts [sent.endExchange _, sent.updYlc _]
  · exact hy

theorem Yard.Ordered.longSent (hy : y.Ordered q r) (w : LongWhy) : (longSent w y).Ordered q r := by
  have guarded : (y.updYlc fun u => { u with line := .guard, why := ⟨false, false, false⟩ }).Ordered q r := hy.updYlc _
  unfold Machine.longSent
  extract_lets _ z
  have woken : z.Ordered q r := by
    unfold z
    split
    exacts [guarded.updScs _, guarded]
  refine Yard.Ordered.settle ?_
  split
  exacts [woken.startCycle, woken]

theorem Yard.Ordered.breakSent (hy : y.Ordered q r) : (breakSent y).Ordered q r := by
  unfold Machine.breakSent
  split
  · extract_lets _ _ _ z
    have sent : z.Ordered q r := (hy.reach _).release.updYlc _
    split
    · exact sent.beginLong
    · split
      exacts [sent.longSent _, sent.endExchange _, sent.endExchange _]
  · exact hy

theorem Yard.Ordered.windowExpiry (hy : y.Ordered q r) : (windowExpiry y).Ordered q r := by
  unfold Machine.windowExpiry
  split
  exacts [(hy.reach _).endExchange _, hy]

theorem Yard.Ordered.replyStart (hy : y.Ordered q r) (t : Time) : (replyStart t y).Ordered q r := by
  unfold Machine.replyStart
  dsimp only
  split
  · split
    exacts [(hy.busyAt t).updYlc _, hy]
  · exact hy

theorem Yard.Ordered.replyHeader (hy : y.Ordered q r) (t : Time) (a b c : Byte) : (replyHeader t a b c y).Ordered q r := by
  have busy := hy.busyAt t
  unfold Machine.replyHeader
  dsimp only
  split
  · split
    · split
      · exact busy.drain _
      · split
        exacts [busy.drain _, busy.endExchange _, busy.updYlc _]
    · exact hy
  · exact hy

theorem Yard.Ordered.replyComplete (hy : y.Ordered q r) (t : Time) (bs : List Byte) : (replyComplete t bs y).Ordered q r := by
  unfold Machine.replyComplete
  dsimp only
  split
  · split
    exacts [(hy.busyAt t).endExchange _, hy]
  · exact hy

theorem Yard.Ordered.deadlineExpiry (hy : y.Ordered q r) : (deadlineExpiry y).Ordered q r := by
  unfold Machine.deadlineExpiry
  split
  exacts [(hy.reach _).breakOff _, hy]

theorem Yard.Ordered.stopBit (hy : y.Ordered q r) (t : Time) : (stopBit t y).Ordered q r := by
  unfold Machine.stopBit
  split
  exacts [(hy.busyAt t).breakOff _, hy]

theorem Yard.Ordered.drainEnd (hy : y.Ordered q r) : (drainEnd y).Ordered q r := by
  unfold Machine.drainEnd
  split
  · split
    exacts [(hy.reach _).endExchange _, hy]
  · exact hy

theorem Yard.Ordered.drainTimeout (hy : y.Ordered q r) : (drainTimeout y).Ordered q r := by
  unfold Machine.drainTimeout
  split
  · split
    exacts [(hy.reach _).breakOff _, hy]
  · exact hy

theorem Yard.Ordered.lineHeld (hy : y.Ordered q r) : (lineHeld y).Ordered q r := by
  unfold Machine.lineHeld
  split
  · split
    · extract_lets _ _ flight held ended
      have begun : held.Ordered q r := (hy.reach _).updYlc _
      have told : ended.Ordered q r := by
        unfold ended flight
        split
        exacts [begun.scsOutcome _ _, begun]
      exact told.of_plan rfl
    · exact hy
  · exact hy

theorem Yard.Ordered.heldRelease (hy : y.Ordered q r) : (heldRelease y).Ordered q r := by
  unfold Machine.heldRelease
  split
  exacts [((hy.reach _).updYlc _).beginLong, hy]

theorem Yard.Ordered.goesToSpace (hy : y.Ordered q r) (t : Time) : (goesToSpace t y).Ordered q r := by
  unfold Machine.goesToSpace
  split
  exacts [hy.of_plan rfl, hy]

theorem Yard.Ordered.returnsToMark (hy : y.Ordered q r) (t : Time) : (returnsToMark t y).Ordered q r := by
  unfold Machine.returnsToMark
  split
  · extract_lets _ z
    have mark : z.Ordered q r := hy.of_plan rfl
    split
    exacts [mark.beginLong, mark]
  · exact hy

end

end Sys2Proof.Machine
end

section
/-! SUPPORT. The laws of the order list, the valves and the trip under the description requests, the settings and the resets (01, 11). -/

namespace Sys2Proof.Machine

section
variable {y z : Yard} {q r : Prop}

/-! ### The structural requests while OPEN (R1) -/

theorem opened_of_not_committed (h : ¬y.isCommitted = true) : y.yds.desc = .opened := by
  revert h
  unfold Yard.isCommitted
  cases y.yds.desc <;> simp

/-- A change of the description while OPEN. -/
theorem Yard.Ordered.redescribed (hy : y.Ordered q r) (ho : y.yds.desc = .opened) (f : Yds → Yds) : (y.updYds f).Ordered q r :=
  hy.bare (.inl ho) rfl

theorem releaseSlots_mvs (l : List Slot) (y : Yard) : (releaseSlots l y).mvs = y.mvs := by
  induction l generalizing y with
  | nil => rfl
  | cons s l ih => exact ih _

theorem holderForgotten_plan (m : Mvs) (h : Holder) : ({ m with prevTravel := m.prevTravel.set h none } : Mvs).plan = m.plan := rfl

theorem Yard.Ordered.describeHolder (hy : y.Ordered q r) (n : Nat) (b : Bool) (c d e f : Option Int) :
    (describeHolder n b c d e f y).1.Ordered q r := by
  unfold Machine.describeHolder
  split; · exact hy
  next open_ =>
  have ho := opened_of_not_committed open_
  split; · exact hy
  split
  · split; · exact hy
    dsimp only
    split
    exacts [hy.redescribed ho _, (hy.redescribed ho _).updHolder _ _]
  · exact hy.bare (.inl ho) (by simpa [removeHolder, releaseSlots_mvs] using holderForgotten_plan _ _)

theorem Yard.Ordered.describeLift (hy : y.Ordered q r) (n k : Nat) (a s w : Int) : (describeLift n k a s w y).1.Ordered q r := by
  unfold Machine.describeLift
  split; · exact hy
  next open_ =>
  split; · exact hy
  split
  exacts [hy, hy.bare (.inl (opened_of_not_committed open_)) rfl]

theorem Yard.Ordered.describeDistrict (hy : y.Ordered q r) (n : Nat) (b : Bool) (c d e f : Option Int) :
    (describeDistrict n b c d e f y).1.Ordered q r := by
  unfold Machine.describeDistrict
  split; · exact hy
  next open_ =>
  have ho := opened_of_not_committed open_
  split; · exact hy
  split
  · split; · exact hy
    exact hy.bare (.inl ho) rfl
  · refine hy.bare (.inl ho) ?_
    change (releaseSlots _ y).mvs.plan = y.mvs.plan
    rw [releaseSlots_mvs]

theorem Yard.Ordered.describeOutstation (hy : y.Ordered q r) (a : Nat) (b : Bool) (k : Option OutstationKind) (c : Bool) :
    (describeOutstation a b k c y).1.Ordered q r := by
  unfold Machine.describeOutstation
  split; · exact hy
  split; · exact hy
  split
  · split; · exact hy
    dsimp only
    split
    exacts [hy, hy.of_plan rfl]
  · exact (hy.updScs _).returnAll 0 _

theorem Yard.Ordered.describePoint (hy : y.Ordered q r) (a c : Nat) (b : Bool) (k : Option PointKind) :
    (describePoint a c b k y).1.Ordered q r := by
  unfold Machine.describePoint
  split; · exact hy
  split; · exact hy
  split; · exact hy
  split
  exacts [hy, hy.of_plan rfl]

theorem Yard.Ordered.putBinding (hy : y.Ordered q r) (ho : y.yds.desc = .opened) (b : Binding) (c : Bool) (p : Option Point) :
    (putBinding b c p y).Ordered q r := by
  unfold Machine.putBinding
  split
  · extract_lets _ _ x z
    have bound : x.Ordered q r := hy.redescribed ho _
    have based : z.Ordered q r := by
      unfold z
      split
      · split
        exacts [bound, bound.leave (by simp) (by simp)]
      · exact bound
    split
    exacts [based, based.unboundNow _]
  · exact hy.redescribed ho _
  · exact hy.redescribed ho _
  · exact hy.redescribed ho _

theorem Yard.Ordered.describeBinding (hy : y.Ordered q r) (n : Nat) (b : Bool) (p : Option Point) :
    (describeBinding n b p y).1.Ordered q r := by
  unfold Machine.describeBinding
  split; · exact hy
  next open_ =>
  split; · exact hy
  split
  · split
    exacts [hy, hy.putBinding (opened_of_not_committed open_) _ _ _]
  · exact hy

theorem Yard.Ordered.setLine (hy : y.Ordered q r) (n w : Int) : (setLine n w y).1.Ordered q r := by
  unfold Machine.setLine
  split; · exact hy
  next open_ =>
  split; · exact hy
  split
  exacts [hy.bare (.inl (opened_of_not_committed open_)) rfl, hy]

/-! ### COMMIT and RECOMMISSION (R10, R11) -/

theorem Yard.Ordered.dguCommit (hy : y.Ordered q r) : (dguCommit y).Ordered q r := by
  refine hy.foldl (fun z d hz => ?_) _
  dsimp only
  split
  · exact hz.leave (by simp) (by simp)
  · exact hz.of_plan rfl

theorem Yard.Ordered.commit (hy : y.Ordered q r) : (commit y).1.Ordered q r := by
  unfold Machine.commit
  split; · exact hy
  next open_ =>
  split
  · exact hy
  · have formed := hy.redescribed (opened_of_not_committed open_)
      fun d => { d with desc := .committed, geometry := formGeometry d.holders }
    exact formed.unboundAll.formPresent.dguCommit.leave (soaCommit_described _) (soaCommit_mvs _)

theorem dguRecommission_plan (y : Yard) : (dguRecommission y).plan = y.plan :=
  foldl_keeps Yard.plan (fun z d => z.updDistrict_plan d _) _ y

/-- The description returns to OPEN with an empty order list alone (R11). -/
theorem Yard.Ordered.recommission (hy : y.Ordered q r) : (recommission y).1.Ordered q r := by
  unfold Machine.recommission
  split
  · split
    · exact hy
    · next free =>
      have empty : y.mvs.orders = [] := by simp_all
      have opened := hy.bare (z := hsuRecommission (y.updYds fun d => { d with desc := .opened, geometry := .all none }))
        (.inr empty) rfl
      exact opened.of_plan (dguRecommission_plan _)
  · exact hy

/-! ### The adjustable settings (R8) -/

theorem Yard.Ordered.setVapour (hy : y.Ordered q r) (es : List Nat) : (setVapour es y).1.Ordered q r := by
  have stored : ∀ t, (y.updYds fun u => { u with vapour := t }).Ordered q r := fun t => hy.of_plan rfl
  unfold Machine.setVapour
  split
  exacts [(stored _).formPresent, hy, hy]

theorem Yard.Ordered.setHolderLimits (hy : y.Ordered q r) (n : Nat) (a b : Int) : (setHolderLimits n a b y).1.Ordered q r := by
  unfold Machine.setHolderLimits
  split
  · exact hy
  · next h _ =>
    have stored : (y.updYds fun d => { d with limits := d.limits.set h ⟨clampTo 50 1000 a, clampTo 50 1000 b⟩ }).Ordered q r :=
      hy.of_plan rfl
    dsimp only
    split
    exacts [stored.lagTest, stored]

theorem Yard.Ordered.setProfile (hy : y.Ordered q r) (n : Nat) (b : Int) : (setProfile n b y).1.Ordered q r := by
  unfold Machine.setProfile; split; exacts [hy, hy.of_plan rfl]

theorem Yard.Ordered.setPeak (hy : y.Ordered q r) (n k : Nat) (a b c d e : Int) : (setPeak n k a b c d e y).1.Ordered q r := by
  unfold Machine.setPeak
  split; · exact hy
  split; exacts [hy, hy.of_plan rfl]

theorem Yard.Ordered.dropPeak (hy : y.Ordered q r) (n k : Nat) : (dropPeak n k y).1.Ordered q r := by
  unfold Machine.dropPeak
  split; · exact hy
  split; exacts [hy, hy.of_plan rfl]

theorem Yard.Ordered.setTrim (hy : y.Ordered q r) (n : Nat) (a b c d : Int) : (setTrim n a b c d y).1.Ordered q r := by
  unfold Machine.setTrim; split; exacts [hy, hy.of_plan rfl]

theorem Yard.Ordered.setFeed (hy : y.Ordered q r) (n : Nat) (a b c d : Int) : (setFeed n a b c d y).1.Ordered q r := by
  unfold Machine.setFeed; split; exacts [hy, hy.of_plan rfl]

theorem Yard.Ordered.setPeriodMark (hy : y.Ordered q r) (p : Option Int) : (setPeriodMark p y).1.Ordered q r := by
  cases p; exacts [hy.of_plan rfl, hy.of_plan rfl]

theorem Yard.Ordered.setSubstitute (hy : y.Ordered q r) (n : Nat) (a b c : Int) (d e : Option Int) :
    (setSubstitute n a b c d e y).1.Ordered q r := by
  have stored : ∀ f : Slots Substitute → Slots Substitute, (y.updYds fun d => { d with subs := f d.subs }).Ordered q r :=
    fun f => hy.of_plan rfl
  unfold Machine.setSubstitute
  split; · exact hy
  split; · exact hy
  split; · exact hy
  · exact (stored fun t => t.set _ _).applySubstitute _

/-! ### The resets (R64, R177) -/

/-- No order stands, and no valve is commanded. -/
theorem Yard.Ordered.fresh (ho : z.mvs.orders = []) (hv : ∀ v, (z.mvs.valve v).commanded = .none) : z.Ordered q r where
  lawful := ⟨by simp [ho], by simp [ho], by simp [ho], by simp [ho]⟩
  held _ := ⟨fun _ => ho, fun v hp => by simp [Commanded.passes, hv] at hp⟩
  trips _ := by simp [Mvs.TripHeld, ho]

theorem Mvs.valve_cold (b : Bool) (t : Time) (v : Valve) : ((Mvs.cold b t).valve v).commanded = .none := by
  obtain ⟨h, side⟩ := v
  cases side <;> cases h <;> rfl

theorem restartYard_mvs (c : KeepClass) (y : Yard) :
    (restartYard c y).mvs = restartMvs y.mvs y.tripPin (if c.warm then y.now else 0) := by
  cases c with
  | powerRestore =>
    simp only [restartYard, KeepClass.warm]
    exact makeDue_mvs _
  | warmRestart n => rfl

theorem restartYard_ordered (c : KeepClass) (y : Yard) : (restartYard c y).Ordered q r := by
  refine Yard.Ordered.fresh ?_ fun v => ?_
  · rw [restartYard_mvs]; rfl
  · rw [restartYard_mvs]; exact Mvs.valve_cold y.tripPin (if c.warm then y.now else 0) v

theorem coldYard_ordered (c : Option ClockTime) (y : Yard) : (coldYard c y).Ordered q r :=
  .fresh rfl fun v => Mvs.valve_cold _ _ v

theorem powerUp_ordered (b : Bool) (s : State) : (powerUp b s).yard.Ordered q r := by
  unfold powerUp
  dsimp only
  split
  exacts [restartYard_ordered _ _, coldYard_ordered _ _]

theorem beginReset_ordered (a : ResetAsk) (s : State) : (beginReset a s).yard.Ordered q r := by
  cases a
  exacts [coldYard_ordered _ _, restartYard_ordered _ _]

theorem answerGone_ordered {s : State} (hs : s.yard.Ordered q r) : (answerGone s).yard.Ordered q r := by
  unfold answerGone
  dsimp only
  split
  · split
    exacts [beginReset_ordered _ _, hs]
  · exact hs

end

/-! ### Queries that move a cursor, and the host link -/

section
variable {y : Yard} {q r : Prop}

theorem Yard.Ordered.readDayBook (hy : y.Ordered q r) (n : Nat) (a b : Bool) : (readDayBook n a b y).1.Ordered q r := by
  unfold Machine.readDayBook
  dsimp only
  repeat' split
  all_goals exact hy.of_plan rfl

theorem Yard.Ordered.takeNotice (hy : y.Ordered q r) : (takeNotice y).1.Ordered q r := by
  unfold Machine.takeNotice
  split
  exacts [hy.of_plan rfl, hy.of_plan rfl]

theorem frameGap_ordered {s : State} (hs : s.yard.Ordered q r) : (frameGapEvent s).yard.Ordered q r := by
  unfold frameGapEvent
  split
  exacts [hs.of_plan rfl, hs]

end

/-! ### Requests and events in general -/

section
variable {P : Yard → Prop} {s : State}

/-- What holds of the yard as it stands, and as the owner of a request leaves it, holds once the request is taken. -/
theorem takeRequest_keeps (kind tag : Byte) (p : List Byte) (form : Form) (b : Bool) (asks : Option ResetAsk)
    {owner : RequestWork} (hs : P s.yard) (h : ∀ q l fs, P (owner q l fs s.yard).1) :
    P (takeRequest kind tag p form b asks owner s).yard := by
  unfold takeRequest
  dsimp only
  split; swap; · exact hs
  split; swap; · exact hs
  split
  exacts [h _ _ _, hs]

theorem plain_keeps (kind tag : Byte) (p : List Byte) (form : List Byte → Form) {work : List Field → Yard → Yard × Decision}
    (hs : P s.yard) (h : ∀ fs, P (work fs s.yard).1) : P (plain kind form work tag p s).yard :=
  takeRequest_keeps _ _ _ _ _ _ hs fun _ _ fs => h fs

theorem operational_keeps (kind tag : Byte) (p : List Byte) (form : List Byte → Form)
    {work : List Field → Yard → Yard × Decision} (hs : P s.yard) (h : ∀ fs, P (work fs s.yard).1) :
    P (operational kind form work tag p s).yard := by
  refine plain_keeps _ _ _ _ hs fun fs => ?_
  split
  exacts [h fs, hs]

theorem orderRequest_keeps (kind tag : Byte) (k : OrderKind) (p : List Byte) (hs : P s.yard)
    (h : s.yard.yds.desc = .committed → ∀ a, P (takeOrder a s.yard).1) : P (orderRequest kind k tag p s).yard := by
  refine takeRequest_keeps _ _ _ _ _ _ hs fun q l fs => ?_
  split
  · next c => exact h (by simpa [Yard.isCommitted] using c) _
  · exact hs

theorem whilePowered_keeps {f : Yard → Yard} (hs : P s.yard) (h : P (f s.yard)) : P (whilePowered f s).yard := by
  unfold whilePowered
  split
  exacts [h, hs]

end

end Sys2Proof.Machine
end

section
/-! O56: the order list, and the laws of the valves and the trip (R34, R39, R42, R55, R62). -/

namespace Sys2Proof.Machine

section
variable {s t : State} {q r : Prop}

/-- What the work of an event keeps in every yard. -/
theorem event_ordered {f : Yard → Yard} (hs : s.yard.Ordered q r) (h : ∀ y, y.Ordered q r → (f y).Ordered q r) :
    (whilePowered f s).yard.Ordered q r :=
  whilePowered_keeps hs (h s.yard hs)

/-- An order request of any kind. -/
theorem orderRequest_ordered (hs : s.yard.Ordered q r) (kind tag : Byte) (k : OrderKind) (p : List Byte) :
    (orderRequest kind k tag p s).yard.Ordered q r :=
  orderRequest_keeps _ _ _ _ hs fun hc a => hs.takeOrder hc a

/-- Every command keeps the laws of the order list, the valves and the trip. -/
theorem exec_ordered (i : Instr) (hs : s.yard.Ordered q r) : ∃ u, exec i s = concluded u ∧ u.yard.Ordered q r := by
  cases i with
  | holder => exact ⟨_, rfl, plain_keeps _ _ _ _ hs fun _ => hs.describeHolder _ _ _ _ _ _⟩
  | lift => exact ⟨_, rfl, plain_keeps _ _ _ _ hs fun _ => hs.describeLift _ _ _ _ _⟩
  | vapourTable => exact ⟨_, rfl, plain_keeps _ _ _ _ hs fun _ => hs.setVapour _⟩
  | district => exact ⟨_, rfl, plain_keeps _ _ _ _ hs fun _ => hs.describeDistrict _ _ _ _ _ _⟩
  | outstation => exact ⟨_, rfl, plain_keeps _ _ _ _ hs fun _ => hs.describeOutstation _ _ _ _⟩
  | point => exact ⟨_, rfl, plain_keeps _ _ _ _ hs fun _ => hs.describePoint _ _ _ _⟩
  | bind => exact ⟨_, rfl, plain_keeps _ _ _ _ hs fun _ => hs.describeBinding _ _ _⟩
  | lineSettings => exact ⟨_, rfl, plain_keeps _ _ _ _ hs fun _ => hs.setLine _ _⟩
  | commit => exact ⟨_, rfl, plain_keeps _ _ _ _ hs fun _ => hs.commit⟩
  | recommission => exact ⟨_, rfl, plain_keeps _ _ _ _ hs fun _ => hs.recommission⟩
  | setHolderLimits => exact ⟨_, rfl, plain_keeps _ _ _ _ hs fun _ => hs.setHolderLimits _ _ _⟩
  | setProfile => exact ⟨_, rfl, plain_keeps _ _ _ _ hs fun _ => hs.setProfile _ _⟩
  | setPeak =>
    refine ⟨_, rfl, plain_keeps _ _ _ _ hs fun _ => ?_⟩
    split
    exacts [hs.setPeak _ _ _ _ _ _ _, hs.dropPeak _ _]
  | setTrim => exact ⟨_, rfl, plain_keeps _ _ _ _ hs fun _ => hs.setTrim _ _ _ _ _⟩
  | setFeed =>
    refine ⟨_, rfl, plain_keeps _ _ _ _ hs fun _ => ?_⟩
    split
    exacts [hs.setFeed _ _ _ _ _, hs.of_plan rfl]
  | setLag => exact ⟨_, rfl, plain_keeps _ _ _ _ hs fun _ => hs.of_plan rfl⟩
  | setDayPattern => exact ⟨_, rfl, plain_keeps _ _ _ _ hs fun _ => hs.of_plan rfl⟩
  | setPeriodMark => exact ⟨_, rfl, plain_keeps _ _ _ _ hs fun _ => hs.setPeriodMark _⟩
  | setCv => exact ⟨_, rfl, plain_keeps _ _ _ _ hs fun _ => hs.of_plan rfl⟩
  | setBalanceLimit => exact ⟨_, rfl, plain_keeps _ _ _ _ hs fun _ => hs.of_plan rfl⟩
  | setScan => exact ⟨_, rfl, plain_keeps _ _ _ _ hs fun _ => hs.of_plan rfl⟩
  | setSubstitute => exact ⟨_, rfl, plain_keeps _ _ _ _ hs fun _ => hs.setSubstitute _ _ _ _ _ _⟩
  | setValveLimit => exact ⟨_, rfl, plain_keeps _ _ _ _ hs fun _ => hs.of_plan rfl⟩
  | setTime =>
    refine ⟨_, rfl, plain_keeps _ _ _ _ hs fun _ => ?_⟩
    dsimp only
    split
    exacts [hs, hs.setTime _ _ _ _]
  | stopClock => exact ⟨_, rfl, plain_keeps _ _ _ _ hs fun _ => hs.stopClock⟩
  | forceDay => exact ⟨_, rfl, operational_keeps _ _ _ _ hs fun _ =>
      hs.leave (forceDay_described _ _ _) (forceDay_mvs _ _ _)⟩
  | whenReq => exact ⟨_, rfl, by rwa [takeQualifier_yard]⟩
  | untilReq => exact ⟨_, rfl, by rwa [takeQualifier_yard]⟩
  | fill => exact ⟨_, rfl, orderRequest_ordered hs _ _ _ _⟩
  | draw => exact ⟨_, rfl, orderRequest_ordered hs _ _ _ _⟩
  | floatReq => exact ⟨_, rfl, orderRequest_ordered hs _ _ _ _⟩
  | cancel => exact ⟨_, rfl, operational_keeps _ _ _ _ hs fun _ => hs.cancelOrder _⟩
  | couple => exact ⟨_, rfl, operational_keeps _ _ _ _ hs fun _ => hs.couplePair _⟩
  | uncouple => exact ⟨_, rfl, operational_keeps _ _ _ _ hs fun _ => hs.uncouplePair _⟩
  | shutHolder => exact ⟨_, rfl, operational_keeps _ _ _ _ hs fun _ => hs.shutHolder _⟩
  | trip => exact ⟨_, rfl, operational_keeps _ _ _ _ hs fun _ => hs.tripYard _⟩
  | clearTrip => exact ⟨_, rfl, operational_keeps _ _ _ _ hs fun _ => hs.clearTrip⟩
  | lineReset => exact ⟨_, rfl, operational_keeps _ _ _ _ hs fun _ => hs.lineReset⟩
  | loadOutstation => exact ⟨_, rfl, operational_keeps _ _ _ _ hs fun _ => hs.loadRequest _ _ _⟩
  | readStatus => exact ⟨_, rfl, takeRequest_keeps _ _ _ _ _ _ hs fun _ _ _ => hs⟩
  | readHolder => exact ⟨_, rfl, by rwa [query_yard]⟩
  | readOrders => exact ⟨_, rfl, by rwa [query_yard]⟩
  | readDistrict => exact ⟨_, rfl, by rwa [query_yard]⟩
  | readOutstation => exact ⟨_, rfl, by rwa [query_yard]⟩
  | readQuantity => exact ⟨_, rfl, by rwa [query_yard]⟩
  | readPeriod => exact ⟨_, rfl, by rwa [query_yard]⟩
  | readDay => exact ⟨_, rfl, by rwa [query_yard]⟩
  | readDayBook => exact ⟨_, rfl, plain_keeps _ _ _ _ hs fun _ => hs.readDayBook _ _ _⟩
  | takeNotice => exact ⟨_, rfl, plain_keeps _ _ _ _ hs fun _ => hs.takeNotice⟩
  | restart => exact ⟨_, rfl, takeRequest_keeps _ _ _ _ _ _ hs fun _ _ _ => hs⟩
  | coldStart => exact ⟨_, rfl, takeRequest_keeps _ _ _ _ _ _ hs fun _ _ _ => hs⟩
  | unknownKind =>
    refine ⟨_, rfl, ?_⟩
    split
    exacts [hs, takeRequest_keeps _ _ _ _ _ _ hs fun _ _ _ => hs]
  | requestFrame => exact ⟨_, rfl, by split; exacts [hs, hs]⟩
  | frameGap => exact ⟨_, rfl, by split; exacts [frameGap_ordered hs, hs]⟩
  | answerSent => exact ⟨_, rfl, by split; exacts [answerGone_ordered hs, hs]⟩
  | powerUp => exact ⟨_, rfl, powerUp_ordered _ _⟩
  | powerFail => exact ⟨_, rfl, by split; exacts [hs.of_plan rfl, hs]⟩
  | yardTripAsserted => exact ⟨_, rfl, by split; exacts [hs.tripAsserted _, hs.of_plan rfl]⟩
  | yardTripReleased => exact ⟨_, rfl, by split; exacts [hs.of_plan rfl, hs.of_plan rfl]⟩
  | yardTripWatchExpiry => exact ⟨_, rfl, event_ordered hs fun _ hy => hy.tripWatchOver⟩
  | clockSecond => exact ⟨_, rfl, event_ordered hs fun _ hy => hy.clockSecond⟩
  | periodEnd => exact ⟨_, rfl, event_ordered hs fun _ hy => hy.periodEnd⟩
  | stockComputationResult => exact ⟨_, rfl, event_ordered hs fun _ hy => hy.stockBack _⟩
  | closingStockResult => exact ⟨_, rfl, event_ordered hs fun y hy => hy.leave (closingBack_described y _) (closingBack_mvs y _)⟩
  | meterVolumeResult =>
    exact ⟨_, rfl, event_ordered hs fun y hy => hy.leave (meterResult_described y _ _) (meterResult_mvs y _ _)⟩
  | remainderResult =>
    exact ⟨_, rfl, event_ordered hs fun y hy => hy.leave (remainderBack_described y _) (remainderBack_mvs y _)⟩
  | valveTimerExpiry => exact ⟨_, rfl, event_ordered hs fun _ hy => hy.valveTimerOver _⟩
  | boosterRunUpExpiry => exact ⟨_, rfl, event_ordered hs fun y hy => hy.leave (runUpExpiry_described y _) (runUpExpiry_mvs y _)⟩
  | adoptionWaitExpiry =>
    exact ⟨_, rfl, event_ordered hs fun y hy => hy.leave (adoptionExpiry_described y _) (adoptionExpiry_mvs y _)⟩
  | scanCycleStart => exact ⟨_, rfl, event_ordered hs fun _ hy => hy.intervalOver⟩
  | sleeperPollWaitExpiry => exact ⟨_, rfl, event_ordered hs fun _ hy => hy.sleepOver⟩
  | unsetHoldTick => exact ⟨_, rfl, event_ordered hs fun _ hy => hy.holdTick⟩
  | guardExpiry => exact ⟨_, rfl, event_ordered hs fun _ hy => hy.guardExpiry⟩
  | frameSent => exact ⟨_, rfl, event_ordered hs fun _ hy => hy.frameSent⟩
  | breakSent => exact ⟨_, rfl, event_ordered hs fun _ hy => hy.breakSent⟩
  | replyWindowExpiry => exact ⟨_, rfl, event_ordered hs fun _ hy => hy.windowExpiry⟩
  | replyStart => exact ⟨_, rfl, event_ordered hs fun _ hy => hy.replyStart _⟩
  | replyHeaderReceived => exact ⟨_, rfl, event_ordered hs fun _ hy => hy.replyHeader _ _ _ _⟩
  | replyComplete => exact ⟨_, rfl, event_ordered hs fun _ hy => hy.replyComplete _ _⟩
  | replyDeadlineExpiry => exact ⟨_, rfl, event_ordered hs fun _ hy => hy.deadlineExpiry⟩
  | stopBitAtSpace => exact ⟨_, rfl, event_ordered hs fun _ hy => hy.stopBit _⟩
  | drainEnd => exact ⟨_, rfl, event_ordered hs fun _ hy => hy.drainEnd⟩
  | drainTimeout => exact ⟨_, rfl, event_ordered hs fun _ hy => hy.drainTimeout⟩
  | lineHeld => exact ⟨_, rfl, event_ordered hs fun _ hy => hy.lineHeld⟩
  | lineHeldRelease => exact ⟨_, rfl, event_ordered hs fun _ hy => hy.heldRelease⟩
  | hostLinkCharacter => exact ⟨_, rfl, by split; exacts [hs.of_plan rfl, hs]⟩
  | lineGoesToSpace => exact ⟨_, rfl, by split; exacts [hs.goesToSpace _, hs.of_plan rfl]⟩
  | lineReturnsToMark => exact ⟨_, rfl, by split; exacts [hs.returnsToMark _, hs.of_plan rfl]⟩

theorem step_ordered (h : step s = .next t) (hs : s.yard.Ordered q r) : t.yard.Ordered q r := by
  unfold step at h
  split at h
  · next c rest _ =>
    obtain ⟨u, hu, kept⟩ := exec_ordered c (s := { s with pending := rest }) hs
    obtain rfl := concluded_eq_next.1 (hu.symm.trans h)
    rwa [State.resealed_yard]
  · cases h; exact hs

end

/-! ### What the laws say of a valve that passes gas (R34, R62) -/

/-- The holder of an order that works a holder is the holder itself or the leader of its coupled pair (R57). -/
theorem Mvs.holder_or_leader {m : Mvs} {h k : Holder} (e : k = m.orderHolder h) :
    k = h ∨ (m.isCoupled k = true ∧ k.leads = true ∧ k.partner = h) := by
  unfold Mvs.orderHolder at e
  split at e
  · next f =>
    obtain ⟨coupled, follows⟩ := Bool.and_eq_true_iff.1 f
    subst e
    refine .inr ⟨by rwa [Mvs.isCoupled_partner], ?_, Holder.partner_partner h⟩
    cases h <;> first | rfl | cases follows
  · exact .inl e

/-- An order that uses an inlet or an outlet is of a kind that does (R34). -/
theorem OrderKind.of_mem_used {k : OrderKind} {side : Side} (h : side ∈ k.used) :
    k = .float ∨ (side = .inlet ∧ k = .fill) ∨ (side = .outlet ∧ k = .draw) := by
  cases k <;> cases side <;> simp_all [OrderKind.used]

theorem OrderKind.fills_of_inlet {k : OrderKind} (h : Side.inlet ∈ k.used) : k.fills = true := by
  cases k <;> simp_all [OrderKind.used, OrderKind.fills]

/-- In a TRIPPED yard no inlet passes gas: the working order that uses it would fill (R62). -/
theorem Yard.ValvesHeld.inlets_shut {y : Yard} (held : y.ValvesHeld) (trips : y.mvs.TripHeld) (ht : y.mvs.tripped = true)
    (h : Holder) : (y.mvs.inlets.get h).commanded = .shut ∨ (y.mvs.inlets.get h).commanded = .none := by
  have still : ¬(y.mvs.valve ⟨h, .inlet⟩).commanded.passes := by
    intro hp
    obtain ⟨-, o, mo, working, -, used⟩ := held.worked ⟨h, .inlet⟩ hp
    have closing := trips ht o mo (OrderKind.fills_of_inlet used)
    simp [closing] at working
  change ¬(y.mvs.inlets.get h).commanded.passes at still
  revert still
  cases (y.mvs.inlets.get h).commanded <;> simp [Commanded.passes]

/-- Settles O56: every step keeps the three laws together, and they say of a valve that passes gas which order uses it. -/
theorem ordersStayLawful : Obligations.OrdersStayLawful := by
  refine ⟨fun s t lw h => ?_, fun s t lw vl h => ?_⟩
  · exact (step_ordered (q := False) (r := False) h ⟨lw, False.elim, False.elim⟩).lawful
  · obtain ⟨held, trips⟩ := Yard.valvesLawful_iff.1 vl
    have after := step_ordered (q := True) (r := True) h ⟨lw, fun _ => held, fun _ => trips⟩
    have held := after.held trivial
    have trips := after.trips trivial
    refine ⟨Yard.valvesLawful_iff.2 ⟨held, trips⟩, fun v hp => ?_, fun ht h => held.inlets_shut trips ht h⟩
    obtain ⟨-, o, mo, working, whose, used⟩ := held.worked v hp
    refine ⟨o, mo, ?_, Mvs.holder_or_leader whose, OrderKind.of_mem_used used⟩
    rcases working with e | e <;> simp [e]

end Sys2Proof.Machine
end

section
/-! O21: the seven yard-wide settings (R33, R72, R74, R77, R123, R145). -/

namespace Sys2Proof.Machine

section
variable (y : Yard) (v w : Int)

/-- A value stored as its clamp is answered NONE where it lies in its range already (R8). -/
theorem settled_clamp {lo hi : Int} (h : lo ≤ hi) :
    settled (min hi (max lo v) != v) = .answer (if lo ≤ v ∧ v ≤ hi then .none else .clamped) [] :=
  settled_eq (by rw [bne_eq_false_iff_eq]; omega)

theorem setLag_eq : setLag v y = ({ y with yds := { y.yds with lag := (min 8 (max 0 v)).toNat } },
    .answer (if 0 ≤ v ∧ v ≤ 8 then .none else .clamped) []) := by
  rw [setLag, clampTo_eq (by decide)]
  exact Prod.ext rfl (settled_clamp v (by decide))

theorem setPeriodMark_eq : setPeriodMark (some v) y = ({ y with yds := { y.yds with
    periodMark := some (min 95 (max 0 v)).toNat } }, .answer (if 0 ≤ v ∧ v ≤ 95 then .none else .clamped) []) := by
  rw [setPeriodMark, clampTo_eq (by decide)]
  exact Prod.ext rfl (settled_clamp v (by decide))

theorem setCv_eq : setCv v w y = ({ y with yds := { y.yds with
      cv := min 30000 (max 10000 v)
      makeFactor := min 10000000 (max 1 w) } },
    .answer (if 10000 ≤ v ∧ v ≤ 30000 ∧ 1 ≤ w ∧ w ≤ 10000000 then .none else .clamped) []) := by
  rw [setCv, clampTo_eq (by decide), clampTo_eq (by decide)]
  refine Prod.ext rfl (settled_eq ?_)
  simp only [anyMoved, List.any_cons, List.any_nil, Bool.or_false, Bool.or_eq_false_iff, bne_eq_false_iff_eq]
  omega

theorem setBalanceLimit_eq : setBalanceLimit v y = ({ y with yds := { y.yds with balanceLimit := min 200 (max 0 v) } },
    .answer (if 0 ≤ v ∧ v ≤ 200 then .none else .clamped) []) := by
  rw [setBalanceLimit, clampTo_eq (by decide)]
  exact Prod.ext rfl (settled_clamp v (by decide))

theorem setScan_eq : setScan v y = ({ y with yds := { y.yds with scan := (min 60 (max 5 v)).toNat } },
    .answer (if 5 ≤ v ∧ v ≤ 60 then .none else .clamped) []) := by
  rw [setScan, clampTo_eq (by decide)]
  exact Prod.ext rfl (settled_clamp v (by decide))

theorem setValveLimit_eq : setValveLimit v y = ({ y with yds := { y.yds with valveLimit := (min 600 (max 20 v)).toNat } },
    .answer (if 20 ≤ v ∧ v ≤ 600 then .none else .clamped) []) := by
  rw [setValveLimit, clampTo_eq (by decide)]
  exact Prod.ext rfl (settled_clamp v (by decide))

end

/-- A mark of the day pattern read back from its field (R72). -/
theorem mark_field (b : Bool) : ((some (if b then 1 else 0) : Field) == some 1) = b := by cases b <;> rfl

/-- Settles O21, setting by setting. -/
theorem yardSettingsStored : Obligations.YardSettingsStored := by
  intro y v w
  refine ⟨gives_of_plain (fun _ _ _ => rfl) (setLag_eq y v), fun a b c d e f g => ?_,
    gives_of_plain (fun _ _ _ => rfl) (setPeriodMark_eq y v), gives_of_plain (fun _ _ _ => rfl) rfl,
    gives_of_plain (fun _ _ _ => rfl) (setCv_eq y v w), gives_of_plain (fun _ _ _ => rfl) (setBalanceLimit_eq y v),
    gives_of_plain (fun _ _ _ => rfl) (setScan_eq y v), gives_of_plain (fun _ _ _ => rfl) (setValveLimit_eq y v)⟩
  refine gives_of_plain (fun _ _ _ => rfl) ?_
  simp only [List.map_cons, List.map_nil, mark_field]
  rfl

end Sys2Proof.Machine
end

section
/-! O35: the YARD TRIP input, and CLEAR TRIP (R59, R63). -/

namespace Sys2Proof.Machine

/-- An operational request that its owner answers from its fields and the yard alone, while COMMITTED (R12). -/
theorem gives_of_operational {kind : Byte} {c : Byte → List Byte → Instr} {form : List Byte → Form} {fs : List Field}
    {y y' : Yard} {d : Decision} {work : List Field → Yard → Yard × Decision} (hc : y.yds.desc = .committed)
    (he : ∀ tag p s, exec (c tag p) s = concluded (operational kind form work tag p s)) (hw : work fs y = (y', d)) :
    Gives kind c form fs y y' d := by
  rintro s tag p before after rfl h hf
  rw [he, operational_ok h hf hc, hw]

section
variable {y : Yard}

/-- A present holder has an accepted travel at or above its full stroke (R63). -/
def Yard.Overfull (y : Yard) : Prop :=
  ∃ h g a, y.yds.holders.get h ≠ none ∧ y.yds.geometry.get h = some g ∧ (y.hsu.holders.get h).travel = some a ∧ g.full ≤ a.value

/-- CLEAR TRIP, written with its two tests (R63). -/
theorem clearTrip_eq [Decidable y.Overfull] : clearTrip y =
    if y.tripPin = true ∨ y.Overfull then (y, refuse .active)
    else if y.mvs.tripped = true then
      (raiseNotice .tripCleared 0 0 (y.updMvs fun m => { m with tripped := false }), okAnswer)
    else (y, okAnswer) := by
  unfold clearTrip
  extract_lets overfull
  have full : y.yds.presentHolders.any overfull = true ↔ y.Overfull := by
    rw [List.any_eq_true]
    constructor
    · rintro ⟨h, hp, e⟩
      unfold overfull at e
      split at e
      · next t g ht hg =>
        obtain ⟨a, ha, rfl⟩ := Option.map_eq_some_iff.1 ht
        exact ⟨h, g, a, by simpa [Yds.presentHolders, Yds.holderPresent, Option.isSome_iff_ne_none] using (List.mem_filter.1 hp).2,
          hg, ha, by simpa using e⟩
      · cases e
    · rintro ⟨h, g, a, hp, hg, ha, le⟩
      refine ⟨h, List.mem_filter.2 ⟨Holder.mem_list h, by simpa [Yds.holderPresent, Option.isSome_iff_ne_none] using hp⟩, ?_⟩
      simp [overfull, travelOf, ha, hg, le]
  simp only [Bool.or_eq_true, full]

theorem clearTrip_refused (c : y.tripPin = true ∨ y.Overfull) : clearTrip y = (y, refuse .active) := by
  classical rw [clearTrip_eq, if_pos c]

/-- With the input released and no holder over the top, the yard returns to NORMAL, or stands so. -/
theorem clearTrip_fits (low : y.tripPin = false) (fits : ¬y.Overfull) : clearTrip y =
    if y.mvs.tripped = true then
      (raiseNotice .tripCleared 0 0 (y.updMvs fun m => { m with tripped := false }), okAnswer)
    else (y, okAnswer) := by
  classical rw [clearTrip_eq, if_neg (by simp [low, fits])]

end

/-- Settles O35, from the input's events and the two tests of CLEAR TRIP. -/
theorem tripInputAndClear : Obligations.TripInputAndClear := by
  refine ⟨fun s on => ⟨fun moment low => ?_, fun moment high => ?_, ?_, fun still => ?_⟩, fun y hc => ?_⟩
  · refine congrArg concluded ((if_pos on).trans ?_)
    rw [tripAsserted, if_neg (by simp [low])]
    rfl
  · refine congrArg concluded ((if_pos on).trans ?_)
    rw [tripAsserted, if_pos high]
  · exact congrArg concluded (if_pos on)
  · refine congrArg concluded ((if_pos on).trans ?_)
    rcases still with e | e <;> rw [tripWatchOver, e]
  · have gives {y' : Yard} {d : Decision} (e : clearTrip y = (y', d)) : Gives 0x4A#8 .clearTrip (formOf []) [] y y' d :=
      gives_of_operational hc (fun _ _ _ => rfl) e
    refine ⟨fun c => gives (clearTrip_refused c), fun low fits ht => gives ?_, fun low fits ht => gives ?_⟩
    · rw [clearTrip_fits low fits, if_pos ht]; rfl
    · rw [clearTrip_fits low fits, if_neg (by simp [ht])]; rfl

end Sys2Proof.Machine
end

section
/-! O29 and O30: an order accepted, and an order refused (R39, R40, R41, R167). -/

namespace Sys2Proof.Machine

section
variable {y y' : Yard} {k : OrderKind} {h : Holder} {n standing : Nat} {period : Option Nat} {staged : List Qualifier}

/-! ### An order request and its tests -/

/-- An order request of holder h, with the qualifiers that stand in the staging slot. -/
def askFor (k : OrderKind) (n : Nat) (h : Holder) (period : Option Nat) (standing : Nat) (staged : List Qualifier) : OrderAsk :=
  ⟨n, h.number, k, period, standing, staged⟩

theorem askOf_fields : askOf k staged [some (n : Int), some (h.number : Int), period.map fun p => (p : Int), some (standing : Int)] =
    askFor k n h period standing staged := by
  cases period <;> simp [askOf, askFor, natAt, intAt, fieldAt]

/-- What MVS decides of an order request, the request is answered. -/
theorem givesOrder {d : Decision} (hc : y.yds.desc = .committed)
    (hw : takeOrder (askFor k n h period standing staged) y = (y', d)) :
    GivesOrder (orderRow k).1 (orderRow k).2
      [some (n : Int), some (h.number : Int), period.map fun p => (p : Int), some (standing : Int)] staged y y' d := by
  rintro s tag p before after rfl rfl front hf
  rw [← askOf_fields] at hw
  have e : exec ((orderRow k).2 tag p) s = concluded (orderRequest (orderRow k).1 k tag p s) := by cases k <;> rfl
  rw [e, orderRequest, hf, takeRequest_ok front, State.ordered]
  simp only [isCommitted_of hc, if_true, hw, Bool.not_true, Bool.false_and]

/-- The valves that an order uses are bound (R40). -/
def Yard.usesBound (y : Yard) (k : OrderKind) (h : Holder) : Prop :=
  ∀ u ∈ y.mvs.worked h, (k.fills = true → y.yds.bind.inlet.get u ≠ none) ∧ (k.draws = true → y.yds.bind.outlet.get u ≠ none)

theorem Yard.usesBound_iff : (((y.mvs.worked h).flatMap fun x => k.used.map fun s => (⟨x, s⟩ : Valve)).all
    fun v => (y.yds.bind.valve v).isSome) = true ↔ y.usesBound k h := by
  simp only [List.all_flatMap, List.all_map, List.all_eq_true, Yard.usesBound]
  refine forall₂_congr fun u _ => ?_
  cases k <;> simp [OrderKind.used, OrderKind.fills, OrderKind.draws, Bindings.valve, Option.isSome_iff_ne_none]

/-- What test 3 of R40 asks, in the order of its causes. -/
structure OrderAsk.Sound (a : OrderAsk) (h : Holder) (y : Yard) : Prop where
  number : 1 ≤ a.number ∧ a.number ≤ 999
  period : ∀ p ∈ a.period, p ≤ 95
  standing : a.standing ≤ 31
  ranges : ∀ q ∈ a.staged, q.inRanges = true
  single : (a.staged.filter (·.isWhen)).length ≤ 1 ∧ (a.staged.filter fun q => !q.isWhen).length ≤ 1
  fresh : ∀ o ∈ y.mvs.orders, o.number ≠ a.number
  travel : a.kind = .float → a.finish.isTravel = false
  again : a.standing = 0 ∨ a.period.isSome = true
  start : a.period.isSome = true → a.whenHolder = none
  other : ∀ p ∈ a.period, a.finish ≠ .untilPeriod p
  bound : y.usesBound a.kind h

theorem orderOf_eq_none {m : Mvs} : m.orderOf n = none ↔ ∀ o ∈ m.orders, o.number ≠ n := by
  simp [Mvs.orderOf]

theorem orderFault_eq_none {a : OrderAsk} : orderFault a h y = none ↔ a.Sound h y := by
  unfold orderFault
  extract_lets finish periodOk samePeriod used
  have range : periodOk = true ↔ ∀ p ∈ a.period, p ≤ 95 := by
    unfold periodOk
    cases a.period <;> simp
  have same : samePeriod = false ↔ ∀ p ∈ a.period, a.finish ≠ .untilPeriod p := by
    unfold samePeriod finish
    cases a.period with
    | none => simp
    | some p =>
      cases a.finish with
      | untilPeriod q => simpa using ne_comm
      | _ => simp
  simp only [firstFault_eq_none, List.forall_mem_cons, List.not_mem_nil, false_implies, implies_true, and_true, range,
    Yard.usesBound_iff, used, Bool.not_eq_true', same]
  constructor
  · rintro ⟨a1, a2, a3, a4, a5, a6, a7, a8, a9, a10, a11⟩
    exact ⟨by simpa using a1, a2, by simpa using a3, by simpa using a4, by simpa using a5,
      by simpa [orderOf_eq_none] using a6, by simpa using a7, by simpa using a8, by simpa using a9, a10, a11⟩
  · rintro ⟨a1, a2, a3, a4, a5, a6, a7, a8, a9, a10, a11⟩
    exact ⟨by simpa using a1, a2, by simpa using a3, by simpa using a4, by simpa using a5,
      by simpa [orderOf_eq_none] using a6, by simpa using a7, by simpa using a8, by simpa using a9, a10, a11⟩

theorem role_ne_follower {m : Mvs} (lead : m.isCoupled h = true → h.leads = true) : m.role h ≠ .follower := by
  rw [Ne, Mvs.role_eq_follower]
  rintro ⟨c, f⟩
  simp [lead c] at f

/-- A present holder that is no follower, and a present holder of the WHEN: the first tests are passed (R40). -/
theorem askFor_admitted (hp : y.yds.holders.get h ≠ none) (lead : y.mvs.isCoupled h = true → h.leads = true)
    (hw : ∀ m, (askFor k n h period standing staged).whenHolder = some m → y.yds.presentHolder m ≠ none) :
    (askFor k n h period standing staged).Admitted h y :=
  ⟨presentHolder_some hp, hw, role_ne_follower lead⟩

/-- An order that passes the tests is accepted (R40). -/
theorem OrderAsk.Sound.taken {a : OrderAsk} (sound : a.Sound h y) (ad : a.Admitted h y)
    (clock : a.period.isSome = true ∨ a.finish.isPeriod = true → y.gdc.clock ≠ none)
    (trip : a.kind.fills = true → y.mvs.tripped = false) (room : y.mvs.orders.length < 16) :
    takeOrder a y = acceptOrder a h y := by
  have runs : ((a.period.isSome || a.finish.isPeriod) && y.gdc.clock.isNone) = false := by
    cases e : (a.period.isSome || a.finish.isPeriod)
    · rfl
    · simpa [Option.isSome_iff_ne_none] using clock (by simpa using e)
  have normal : (a.kind.fills && y.mvs.tripped) = false := by
    cases e : a.kind.fills
    · rfl
    · simpa using trip e
  rw [ad.passes (orderFault_eq_none.2 sound), runs, normal, if_neg (by simp), if_neg (by simp), if_neg (by omega)]

/-- An order that passes the tests and is not eligible waits in the list (R40, R41). -/
theorem OrderAsk.Sound.accepted {a : OrderAsk} (sound : a.Sound h y) (ad : a.Admitted h y)
    (clock : a.period.isSome = true ∨ a.finish.isPeriod = true → y.gdc.clock ≠ none)
    (trip : a.kind.fills = true → y.mvs.tripped = false) (room : y.mvs.orders.length < 16)
    (notYet : eligibleAtOnce a.start y.gdc.clock = false) : takeOrder a y =
      ({ y with mvs := { y.mvs with orders := y.mvs.orders ++ [⟨a.number, h, a.kind, a.start,
          (limitTarget a.kind (y.yds.geometry.get h) a.finish).1, .unset, a.standing, false, false, false, .waiting, none⟩] } },
        settled (limitTarget a.kind (y.yds.geometry.get h) a.finish).2) := by
  rw [sound.taken ad clock trip room]
  simp only [acceptOrder, notYet]
  rfl

end

/-! ### O29 -/

section
variable {y : Yard} {k : OrderKind} {h g : Holder} {n : Nat} {above : Bool} {x : Int}

/-- The start condition that a staged WHEN sets (R39). -/
def whenOf (above : Bool) (g : Holder) (x : Int) : StartCond := if above then .whenAbove g x else .whenBelow g x

theorem eligibleAtOnce_whenOf (c : Option ClockTime) : eligibleAtOnce (whenOf above g x) c = false := by
  cases above <;> rfl

/-- What holds of an order request of a present holder that passes the tests but for its qualifiers (R40). -/
structure Yard.Free (y : Yard) (k : OrderKind) (n : Nat) (h : Holder) : Prop where
  committed : y.yds.desc = .committed
  present : y.yds.holders.get h ≠ none
  lead : y.mvs.isCoupled h = true → h.leads = true
  number : 1 ≤ n ∧ n ≤ 999
  fresh : ∀ o ∈ y.mvs.orders, o.number ≠ n
  trip : k.fills = true → y.mvs.tripped = false
  room : y.mvs.orders.length < 16
  bound : y.usesBound k h

/-- A staged WHEN with or without an end condition makes a WAITING order (R39, R41). -/
theorem Yard.Free.when {staged : List Qualifier} (fr : y.Free k n h) (hg : y.yds.holders.get g ≠ none)
    (hw : staged.find? (·.isWhen) = some (.whenTravel g.number above x)) (ranges : ∀ q ∈ staged, q.inRanges = true)
    (single : (staged.filter (·.isWhen)).length ≤ 1 ∧ (staged.filter fun q => !q.isWhen).length ≤ 1) {e : EndCond}
    (he : (askFor k n h none 0 staged).finish = e) (travel : k = .float → e.isTravel = false)
    (clock : e.isPeriod = true → y.gdc.clock ≠ none) :
    GivesOrder (orderRow k).1 (orderRow k).2 [some (n : Int), some (h.number : Int), none, some 0] staged y
      { y with mvs := { y.mvs with orders := y.mvs.orders ++ [⟨n, h, k, whenOf above g x,
          (limitTarget k (y.yds.geometry.get h) e).1, .unset, 0, false, false, false, .waiting, none⟩] } }
      (settled (limitTarget k (y.yds.geometry.get h) e).2) := by
  subst he
  have start : (askFor k n h none 0 staged).start = whenOf above g x := by
    simp [OrderAsk.start, askFor, hw, whenOf]
  have ad : (askFor k n h none 0 staged).Admitted h y := by
    refine askFor_admitted fr.present fr.lead fun m hm => ?_
    have e : g.number = m := by simpa [OrderAsk.whenHolder, askFor, hw] using hm
    rw [← e, presentHolder_some hg]
    simp
  have sound : (askFor k n h none 0 staged).Sound h y :=
    { number := fr.number, period := by simp [askFor], standing := Nat.zero_le _, ranges, single, fresh := fr.fresh, travel,
      again := .inl rfl, start := by simp [askFor], other := by simp [askFor], bound := fr.bound }
  refine givesOrder (period := none) (standing := 0) fr.committed ((sound.accepted ad (fun c => clock ?_) fr.trip fr.room
    (start ▸ eligibleAtOnce_whenOf _)).trans ?_)
  · exact c.resolve_left (by simp [askFor])
  · rw [start]; rfl

/-- AT PERIOD for a period that is not the current one makes a WAITING order (R41). -/
theorem Yard.Free.atPeriod {p standing : Nat} {c : ClockTime} (fr : y.Free k n h) (hp : p ≤ 95) (hs : standing ≤ 31)
    (hc : y.gdc.clock = some c) (other : c.period ≠ p) :
    GivesOrder (orderRow k).1 (orderRow k).2 [some (n : Int), some (h.number : Int), some (p : Int), some (standing : Int)] [] y
      { y with mvs := { y.mvs with orders := y.mvs.orders ++
        [⟨n, h, k, .atPeriod p, .absent, .unset, standing, false, false, false, .waiting, none⟩] } } (.answer .none []) := by
  have ad : (askFor k n h (some p) standing []).Admitted h y := askFor_admitted fr.present fr.lead fun m hm => nomatch hm
  have sound : (askFor k n h (some p) standing []).Sound h y :=
    { number := fr.number, period := by simpa [askFor] using hp, standing := hs, ranges := by simp [askFor],
      single := by simp [askFor], fresh := fr.fresh, travel := fun _ => rfl, again := .inr rfl, start := fun _ => rfl,
      other := fun q _ e => (nomatch e), bound := fr.bound }
  exact givesOrder (period := some p) fr.committed (sound.accepted ad (fun _ => by simp [hc]) fr.trip fr.room
    (by simp [OrderAsk.start, askFor, eligibleAtOnce, hc, other]))

end

theorem limitTarget_fill (g : Geometry) (t : Int) :
    limitTarget .fill (some g) (.untilTravel t) = (.untilTravel (min t g.topStop), decide (g.topStop < t)) := by
  by_cases c : g.topStop < t
  · simp [limitTarget, c, min_eq_right c.le]
  · simp [limitTarget, c, min_eq_left (not_lt.1 c)]

theorem limitTarget_draw (g : Geometry) (t : Int) :
    limitTarget .draw (some g) (.untilTravel t) = (.untilTravel (max t g.landing), decide (t < g.landing)) := by
  by_cases c : t < g.landing
  · simp [limitTarget, c, max_eq_right c.le]
  · simp [limitTarget, c, max_eq_left (not_lt.1 c)]

theorem settled_decide (p : Prop) [Decidable p] : settled (decide p) = .answer (if p then .clamped else .none) [] := by
  by_cases h : p <;> simp [settled, h]

/-- Settles O29, by the tests that each staging passes. -/
theorem orderAccepted : Obligations.OrderAccepted := by
  intro y k n h g above x hc hp hg lead n1 n2 fresh x0 x1 trip room bound waits when_
  have fr : y.Free k n h := ⟨hc, hp, lead, ⟨n1, n2⟩, fresh, trip, room, bound⟩
  refine ⟨?_, fun v v0 v1 => ⟨?_, ?_⟩, fun p hp hclock => ?_, fun t geo t0 t1 hgeo => ⟨?_, ?_⟩,
    fun p standing c hp hs hclock other => fr.atPeriod hp hs hclock other⟩
  · exact fr.when hg rfl (by simp [Qualifier.inRanges, inRange_iff, x0, x1]) (by simp [Qualifier.isWhen]) rfl (fun _ => rfl)
      (fun e => nomatch e)
  · exact fr.when hg rfl (by simp [Qualifier.inRanges, inRange_iff, x0, x1, v0, v1]) (by simp [Qualifier.isWhen]) rfl
      (fun _ => rfl) (fun e => nomatch e)
  · exact fr.when hg rfl (by simp [Qualifier.inRanges, inRange_iff, x0, x1, v0, v1]) (by simp [Qualifier.isWhen]) rfl
      (fun _ => rfl) (fun e => nomatch e)
  · exact fr.when hg rfl (by simp [Qualifier.inRanges, inRange_iff, x0, x1, hp]) (by simp [Qualifier.isWhen]) rfl
      (fun _ => rfl) (fun _ => hclock)
  all_goals
    rintro rfl
    have made := fr.when hg (staged := [.whenTravel g.number above x, .untilTravel t]) rfl
      (by simp [Qualifier.inRanges, inRange_iff, x0, x1, t0, t1]) (by simp [Qualifier.isWhen]) rfl (fun e => nomatch e)
      (fun e => nomatch e)
  · have e : (askFor .fill n h none 0 [.whenTravel g.number above x, .untilTravel t]).finish = .untilTravel t := rfl
    rw [e, hgeo, limitTarget_fill, settled_decide] at made
    exact made
  · have e : (askFor .draw n h none 0 [.whenTravel g.number above x, .untilTravel t]).finish = .untilTravel t := rfl
    rw [e, hgeo, limitTarget_draw, settled_decide] at made
    exact made

/-! ### O30 -/

section
variable {y : Yard} {k : OrderKind} {h : Holder} {n standing : Nat} {period : Option Nat} {staged : List Qualifier}

/-- An order request that test 3 of R40 stops is refused INVALID. -/
theorem OrderAsk.Admitted.unsound {a : OrderAsk} (ad : a.Admitted h y) (bad : ¬a.Sound h y) :
    ∃ f, takeOrder a y = (y, invalid f) := by
  cases e : orderFault a h y with
  | none => exact absurd (orderFault_eq_none.1 e) bad
  | some f => exact ⟨f, ad.fault e⟩

theorem gives_invalid (hc : y.yds.desc = .committed) (ad : (askFor k n h period standing staged).Admitted h y)
    (bad : ¬(askFor k n h period standing staged).Sound h y) :
    ∃ f, GivesOrder (orderRow k).1 (orderRow k).2
      [some (n : Int), some (h.number : Int), period.map fun p => (p : Int), some (standing : Int)] staged y y
      (.refuse .invalid [.u8 f]) := by
  obtain ⟨f, e⟩ := ad.unsound bad
  exact ⟨f, givesOrder hc e⟩

/-- With the number, the period and the standing count in their ranges, a qualifier out of its range, or two of one sort, are
found first, which no field of the request is (R40, R167). -/
theorem orderFault_staged {a : OrderAsk} (hn : 1 ≤ a.number ∧ a.number ≤ 999) (hp : ∀ p ∈ a.period, p ≤ 95) (hs : a.standing ≤ 31)
    (bad : (∃ q ∈ a.staged, q.inRanges = false) ∨
      ¬((a.staged.filter (·.isWhen)).length ≤ 1 ∧ (a.staged.filter fun q => !q.isWhen).length ≤ 1)) :
    orderFault a h y = some 0 := by
  unfold orderFault
  extract_lets finish periodOk samePeriod used
  have range : periodOk = true := by
    unfold periodOk
    cases e : a.period
    · rfl
    · simpa using hp _ e
  have number : (decide (1 ≤ a.number) && decide (a.number ≤ 999)) = true := by simp [hn]
  rw [firstFault, if_pos number, firstFault, if_pos range, firstFault, if_pos (by simp [hs]), firstFault]
  by_cases r : (a.staged.all (·.inRanges)) = true
  · have two : ¬((decide ((a.staged.filter (·.isWhen)).length ≤ 1) && decide ((a.staged.filter fun q => !q.isWhen).length ≤ 1)) =
        true) := by
      rw [Bool.and_eq_true, decide_eq_true_eq, decide_eq_true_eq]
      refine bad.resolve_left ?_
      rintro ⟨q, mq, e⟩
      simp [List.all_eq_true.1 r q mq] at e
    rw [if_pos r, firstFault, if_neg two]
  · rw [if_neg r]

end

section
variable {y : Yard} {k : OrderKind} {h : Holder} {n : Nat} {period : Option Nat} {staged : List Qualifier}

theorem holderOf_eq_some {m : Nat} {u : Holder} (e : holderOf m = some u) : u.number = m := by
  simpa using List.find?_some e

theorem whenHolder_some {a : OrderAsk} {m : Nat} (e : a.whenHolder = some m) : ∃ above x, .whenTravel m above x ∈ a.staged := by
  unfold OrderAsk.whenHolder at e
  split at e
  · next found => cases e; exact ⟨_, _, List.mem_of_find?_eq_some found⟩
  · cases e

/-- A number that names a present holder. -/
theorem presentHolder_ne_none {d : Yds} {m : Nat} (e : ∃ u : Holder, u.number = m ∧ d.holders.get u ≠ none) :
    d.presentHolder m ≠ none := by
  obtain ⟨u, rfl, hu⟩ := e
  simp [presentHolder_some hu]

/-- A number that names no present holder. -/
theorem presentHolder_eq_none {d : Yds} {m : Nat} (e : ∀ u : Holder, u.number = m → d.holders.get u = none) :
    d.presentHolder m = none := by
  rw [Yds.presentHolder]
  cases f : holderOf m with
  | none => rfl
  | some u => simp [Yds.holderPresent, e u (holderOf_eq_some f)]

/-- An order request with a number, a period and valves that pass the tests, and nothing staged. -/
theorem askFor_sound (hn : 1 ≤ n ∧ n ≤ 999) (fresh : ∀ o ∈ y.mvs.orders, o.number ≠ n) (hp : ∀ v ∈ period, v ≤ 95)
    (hb : y.usesBound k h) : (askFor k n h period 0 []).Sound h y where
  number := hn
  period := hp
  standing := Nat.zero_le _
  ranges := by simp [askFor]
  single := by simp [askFor]
  fresh := fresh
  travel _ := rfl
  again := .inl rfl
  start _ := rfl
  other _ _ e := nomatch e
  bound := hb

/-- The same with an UNTIL PERIOD staged, and no AT PERIOD. -/
theorem askFor_untilPeriod_sound {q : Nat} (hn : 1 ≤ n ∧ n ≤ 999) (fresh : ∀ o ∈ y.mvs.orders, o.number ≠ n) (hq : q ≤ 95)
    (hb : y.usesBound k h) : (askFor k n h none 0 [.untilPeriod q]).Sound h y where
  number := hn
  period := by simp [askFor]
  standing := Nat.zero_le _
  ranges := by simp [askFor, Qualifier.inRanges, hq]
  single := by simp [askFor, Qualifier.isWhen]
  fresh := fresh
  travel _ := rfl
  again := .inl rfl
  start _ := rfl
  other := by simp [askFor]
  bound := hb

/-- A qualifier beyond its range (R39). -/
theorem inRanges_eq_false {q : Qualifier} : q.inRanges = false ↔ match q with
    | .whenTravel _ _ x => x < 0 ∨ 60500 < x
    | .untilTravel x => x < 0 ∨ 60500 < x
    | .untilStock v => v < 0 ∨ 1000000000 < v
    | .untilPeriod p => 95 < p := by
  cases q <;> simp [Qualifier.inRanges, inRange, imp_iff_not_or]

theorem two_of_a_sort {a b : Qualifier} (e : a.isWhen = b.isWhen) :
    ¬(([a, b].filter (·.isWhen)).length ≤ 1 ∧ ([a, b].filter fun q => !q.isWhen).length ≤ 1) := by
  cases c : a.isWhen <;> simp [← e, c]

end

/-- Settles O30, test by test. -/
theorem orderRefused : Obligations.OrderRefused := by
  intro y k n h p hc fs row bound
  have noWhen {a : OrderAsk} (e : a.whenHolder = none) : ∀ m, a.whenHolder = some m → y.yds.presentHolder m ≠ none :=
    fun m f => by simp [e] at f
  refine ⟨fun absent => ?_, fun g above x hp absent => ?_, fun hp lead => ⟨fun t float => ?_, fun s s1 => ?_, fun s s31 => ?_,
    fun staged n1 n2 range present bad => ?_, fun g above x hperiod hg => ?_, fun q hq => ?_⟩, fun hp hcoupled follows => ?_,
    fun hp lead => ⟨fun bad => ?_, fun n1 n2 fresh range hb => ⟨fun hperiod unset => ?_, fun q hperiod q95 unset => ?_,
      fun clock fills trip => ?_, fun clock normal full => ?_⟩⟩⟩
  · exact givesOrder hc (takeOrder_absent (presentHolder_none absent))
  · exact givesOrder hc (takeOrder_whenAbsent (presentHolder_some hp) rfl (presentHolder_eq_none absent))
  · exact gives_invalid hc (askFor_admitted hp lead (noWhen rfl)) fun sound => nomatch sound.travel float
  · refine gives_invalid (period := none) hc (askFor_admitted hp lead (noWhen rfl)) fun sound => ?_
    have again := sound.again
    simp [askFor] at again
    omega
  · refine gives_invalid hc (askFor_admitted hp lead (noWhen rfl)) fun sound => ?_
    exact absurd sound.standing (by simpa [askFor] using s31)
  · have ad := askFor_admitted (k := k) (n := n) (period := p) (standing := 0) (staged := staged) hp lead fun m e => by
      obtain ⟨above, x, mq⟩ := whenHolder_some e
      exact presentHolder_ne_none (present m above x mq)
    refine givesOrder hc (ad.fault (orderFault_staged ⟨n1, n2⟩ range (Nat.zero_le _) ?_))
    obtain ⟨g, above, x, mq, out⟩ | ⟨x, mq, out⟩ | ⟨v, mq, out⟩ | ⟨q, mq, out⟩ | ⟨a, b, rfl, e⟩ := bad
    · exact .inl ⟨_, mq, inRanges_eq_false.2 out⟩
    · exact .inl ⟨_, mq, inRanges_eq_false.2 out⟩
    · exact .inl ⟨_, mq, inRanges_eq_false.2 out⟩
    · exact .inl ⟨_, mq, inRanges_eq_false.2 out⟩
    · exact .inr (two_of_a_sort e)
  · refine gives_invalid hc (askFor_admitted hp lead fun m e => ?_) fun sound => ?_
    · cases e; simp [presentHolder_some hg]
    · exact nomatch sound.start (by simpa [askFor, Option.isSome_iff_ne_none] using hperiod)
  · subst hq
    exact gives_invalid (period := some q) hc (askFor_admitted hp lead (noWhen rfl)) fun sound => sound.other q rfl rfl
  · exact givesOrder hc (takeOrder_follower (presentHolder_some hp) (noWhen rfl) (Mvs.role_eq_follower.2 ⟨hcoupled, follows⟩))
  · refine gives_invalid hc (askFor_admitted hp lead (noWhen rfl)) fun sound => ?_
    obtain c | c | ⟨o, mo, e⟩ | ⟨v, mv, c⟩ | c := bad
    · exact absurd sound.number.1 (by simpa [askFor] using c)
    · exact absurd sound.number.2 (by simpa [askFor] using c)
    · exact sound.fresh o mo e
    · exact absurd (sound.period v mv) (by omega)
    · exact c sound.bound
  · have ad := askFor_admitted (k := k) (n := n) (period := p) (staged := []) (standing := 0) hp lead (noWhen rfl)
    refine givesOrder hc ((ad.passes (orderFault_eq_none.2 (askFor_sound ⟨n1, n2⟩ fresh range hb))).trans ?_)
    have some_ : p.isSome = true := Option.isSome_iff_ne_none.2 hperiod
    simp [askFor, some_, unset]
  · subst hperiod
    have ad := askFor_admitted (k := k) (n := n) (period := none) (staged := [.untilPeriod q]) (standing := 0) hp lead (noWhen rfl)
    refine givesOrder (period := none) hc
      ((ad.passes (orderFault_eq_none.2 (askFor_untilPeriod_sound ⟨n1, n2⟩ fresh q95 hb))).trans ?_)
    simp [askFor, unset, OrderAsk.finish, Qualifier.isWhen, EndCond.isPeriod]
  all_goals
    have ad := askFor_admitted (k := k) (n := n) (period := p) (staged := []) (standing := 0) hp lead (noWhen rfl)
    refine givesOrder hc ((ad.passes (orderFault_eq_none.2 (askFor_sound ⟨n1, n2⟩ fresh range hb))).trans ?_)
    have runs : ¬(((askFor k n h p 0 []).period.isSome || (askFor k n h p 0 []).finish.isPeriod) && y.gdc.clock.isNone) = true := by
      rcases clock with c | c <;> simp [askFor, OrderAsk.finish, EndCond.isPeriod, c]
    rw [if_neg runs]
  · rw [if_pos (by simp [askFor, fills, trip])]
    rfl
  · rw [if_neg (by simpa [askFor] using normal), if_pos full]
    rfl

end Sys2Proof.Machine
end

section
/-! SUPPORT. The deeds on one order of the list, said once: its activation, its running, its end (R34, R42, R44, R49, R50). -/

namespace Sys2Proof.Machine

/-! ### Valves written twice, and beside the order list -/

section
variable {m : Mvs} {v w : Valve} {r r' : ValveRec}

@[simp] theorem Mvs.setValve_setValve : (m.setValve v r).setValve v r' = m.setValve v r' := by
  rcases v with ⟨h, s⟩; cases s <;> simp [Mvs.setValve, Holders.set_set]

theorem Mvs.setValve_with_orders (l : List Order) :
    ({ m with orders := l } : Mvs).setValve v r = { m.setValve v r with orders := l } := by
  rcases v with ⟨h, s⟩; cases s <;> rfl

theorem Mvs.valve_with_orders (l : List Order) : ({ m with orders := l } : Mvs).valve v = m.valve v := rfl

theorem Mvs.dropOrder_listed {before after : List Order} {o : Order} (hl : m.orders = before ++ o :: after)
    (hn : ∀ x ∈ before ++ after, x.number ≠ o.number) : m.dropOrder o.number = { m with orders := before ++ after } := by
  have stands (l : List Order) (hl : ∀ x ∈ l, x.number ≠ o.number) : (l.filter fun x => !(x.number == o.number)) = l :=
    List.filter_eq_self.2 fun x hx => by simpa using hl x hx
  simp [Mvs.dropOrder, hl, stands before fun x hx => hn x (List.mem_append_left _ hx),
    stands after fun x hx => hn x (List.mem_append_right _ hx)]

/-- The holder whose orders work the holder of an order that no coupled follower bears (R57). -/
theorem Mvs.orderHolder_of_lead {h : Holder} (lead : m.isCoupled h = true → h.leads = true) : m.orderHolder h = h := by
  by_cases c : m.isCoupled h = true
  · exact Mvs.orderHolder_of_leads (lead c)
  · exact Mvs.orderHolder_of_alone (by simpa using c)

theorem Mvs.orderHolder_of_worked {h a : Holder} (lead : m.isCoupled a = true → a.leads = true) (hh : h ∈ m.worked a) :
    m.orderHolder h = a :=
  ((Mvs.mem_worked_iff (role_ne_follower lead)).1 hh).symm

theorem Mvs.nextEligible_eq_none {h : Holder}
    (hw : ∀ x ∈ m.orders, x.holder = h → x.state = .waiting → x.eligible = false) : m.nextEligible h = none := by
  refine List.find?_eq_none.2 fun x hx c => ?_
  simp only [Bool.and_eq_true, beq_iff_eq] at c
  obtain ⟨⟨w, e⟩, hh⟩ := c
  simp [hw x hx hh w] at e

end

section
variable {y y' : Yard} {before after : List Order} {o : Order} {h : Holder} {v : Valve} {n : Nat} {reason : EndReason}

/-! ### Work that ends with a round -/

/-- The work is one round where nothing that follows from it does anything. -/
theorem work_once {ds ds' : List Deed} (first : doAll ds y = (y', ds')) (still : ∀ d ∈ ds', deed d y' = (y', [])) :
    work ds y = y' := by
  rw [work_eq, first]
  exact workN_still still

theorem work_still {ds : List Deed} (still : ∀ d ∈ ds, deed d y = (y, [])) : work ds y = y := workN_still still

/-- A bound valve of some holders. -/
theorem mem_boundValves {d : Yds} {hs : List Holder} {sides : List Side} (hv : v ∈ d.boundValves hs sides) :
    v.holder ∈ hs ∧ d.bind.valve v ≠ none := by
  obtain ⟨mv, bound⟩ := List.mem_filter.1 hv
  obtain ⟨a, ha, ms⟩ := List.mem_flatMap.1 mv
  obtain ⟨side, -, rfl⟩ := List.mem_map.1 ms
  exact ⟨ha, Option.isSome_iff_ne_none.1 bound⟩

/-! ### Activation that finds no order (R42) -/

theorem tryActivate_none (none : y.mvs.nextEligible (y.mvs.orderHolder h) = none) : tryActivate h y = (y, []) := by
  unfold tryActivate
  dsimp only
  split
  · rw [none]
  · rfl

/-! ### Tests that do not apply -/

theorem runOrder_other (found : y.mvs.orderOf n = some o) (hs : o.state ≠ .opening) : runOrder n y = (y, []) := by
  simp [runOrder, found, hs]

theorem completeOrder_other (found : y.mvs.orderOf n = some o) (hs : o.state ≠ .closing) : completeOrder n y = (y, []) := by
  simp [completeOrder, found, hs]

theorem testShutHolder_unmarked (hp : y.mvs.shutPending.get h = false) : testShutHolder h y = y := by
  simp [testShutHolder, hp]

/-! ### The end of an order (R49, R50) -/

/-- A standing order kept WAITING with the count one less (R50). -/
def Order.renewed (o : Order) : Order :=
  { o with standing := o.standing - 1, lagOwn := false, lagOther := false, stockDir := .unset, state := .waiting,
           eligible := false, reason := none }

theorem finishOrder_listed (hl : y.mvs.orders = before ++ o :: after) (hn : ∀ x ∈ before ++ after, x.number ≠ o.number) :
    finishOrder o.number reason y =
      ((raiseEnded o reason y).withOrders (before ++ (if keptAtEnd y o reason then [o.renewed] else []) ++ after),
        [.activate o.holder]) := by
  have kept : (raiseEnded o reason y).updMvs (·.updOrder o.number Order.renewed) =
      (raiseEnded o reason y).withOrders (before ++ o.renewed :: after) := Yard.updOrder_listed (y := raiseEnded o reason y) hl hn Order.renewed
  have gone : (raiseEnded o reason y).updMvs (·.dropOrder o.number) = (raiseEnded o reason y).withOrders (before ++ after) :=
    congrArg (fun m => ({ raiseEnded o reason y with mvs := m } : Yard)) (Mvs.dropOrder_listed hl hn)
  unfold finishOrder
  rw [Mvs.orderOf_listed hl hn]
  refine Prod.ext ?_ rfl
  by_cases k : keptAtEnd y o reason = true
  · simp only [if_pos k, List.append_assoc]
    exact kept
  · simp only [if_neg k, List.append_nil]
    exact gone

/-- The last report of SHUT ends a CLOSING order (R49). -/
theorem completeOrder_listed (hl : y.mvs.orders = before ++ o :: after) (hn : ∀ x ∈ before ++ after, x.number ≠ o.number)
    (hs : o.state = .closing) (hr : o.reason = some reason) (shut : ∀ w ∈ allValves y o, (y.mvs.valve w).reported = .shut) :
    completeOrder o.number y = finishOrder o.number reason y := by
  have all : (allValves y o).all (reportsShut y) = true := List.all_eq_true.2 fun w hw => by simp [reportsShut, shut w hw]
  simp [completeOrder, Mvs.orderOf_listed hl hn, hs, hr, all]

/-! ### Reports (R36) -/

/-- The yard with a valve commanded a position that it reports, its timer IDLE. -/
def Yard.arrived (y : Yard) (v : Valve) (p : Commanded) (rep : Reported) : Yard := y.updMvs (·.setValve v ⟨p, rep, .idle⟩)

/-- A report of the position commanded, SHUT, CRACKED or OPEN: the valve's timer is IDLE, and the tests follow (R36, R44, R49,
R54). -/
theorem valveReport_there {p : Commanded} {rep rep' : Reported} {tm : Timer} (hv : y.mvs.valve v = ⟨p, rep', tm⟩)
    (hp : p.asReport = some rep) (ha : (y.arrived v p rep).mvs.activeOrder v.holder = some o) :
    valveReport v rep y = work [.testRunning o.number, .testComplete o.number, .testShut v.holder] (y.arrived v p rep) := by
  have reported : (setTimer v .idle (y.updMvs fun m => m.setValve v { m.valve v with reported := rep })) =
      y.arrived v p rep := by
    simp [setTimer, Yard.updMvs, hv, Yard.arrived]
  have there : ((y.updMvs fun m => m.setValve v { m.valve v with reported := rep }).mvs.valve v).there = true := by
    simp [Yard.updMvs, hv, ValveRec.there, hp]
  have still : ∀ z : Yard, (z.mvs.valve v).commanded = p → p = .cracked ∨ p = .opened → valveMovedItself v z = z := by
    intro z hz hp
    rcases hp with e | e <;> simp [valveMovedItself, hz, e]
  unfold valveReport
  dsimp only
  rw [if_pos there, reported]
  have commanded : ((y.arrived v p rep).mvs.valve v).commanded = p := by simp [Yard.arrived, Yard.updMvs]
  cases p <;> cases hp
  · simp only [ha]
  · simp only [still _ commanded (.inl rfl), ha]
  · simp only [still _ commanded (.inr rfl), ha]

end

end Sys2Proof.Machine
end

section
/-! O32: CANCEL, and the completion of a CLOSING order (R34, R49, R50, R53, R57). -/

namespace Sys2Proof.Machine

section
variable {y : Yard} {before after : List Order} {o : Order} {n : Nat}

/-- A working or closing order of a holder is the active order of every holder it works (R42, R57). -/
theorem Mvs.activeOrder_of_worked {m : Mvs} {h : Holder} (hl : m.orders = before ++ o :: after)
    (others : ∀ x ∈ before ++ after, x.holder = o.holder → x.state = .waiting)
    (lead : m.isCoupled o.holder = true → o.holder.leads = true) (ha : o.state.active = true) (hh : h ∈ m.worked o.holder) :
    m.activeOrder h = some o :=
  Mvs.activeOrder_listed hl others ha (Mvs.orderHolder_of_worked lead hh)

/-- The report of SHUT that leaves every bound valve of a CLOSING order SHUT ends the order (R49, R50). -/
theorem valveReport_completes {v : Valve} {reason : EndReason} {rep : Reported} {tm : Timer}
    (hl : y.mvs.orders = before ++ o :: after)
    (others : ∀ x ∈ before ++ after, x.number ≠ o.number ∧ x.holder ≠ o.holder)
    (lead : y.mvs.isCoupled o.holder = true → o.holder.leads = true) (hs : o.state = .closing) (hr : o.reason = some reason)
    (hh : v.holder ∈ y.mvs.worked o.holder) (hv : y.mvs.valve v = ⟨.shut, rep, tm⟩)
    (hp : y.mvs.shutPending.get v.holder = false)
    (shut : ∀ w : Valve, w.holder ∈ y.mvs.worked o.holder → w ≠ v → y.yds.bind.valve w ≠ none → (y.mvs.valve w).reported = .shut) :
    valveReport v .shut y = (raiseEnded o reason (y.arrived v .shut .shut)).withOrders
      (before ++ (if keptAtEnd y o reason then [o.renewed] else []) ++ after) := by
  let z := y.arrived v .shut .shut
  have coupled : z.mvs.coupled = y.mvs.coupled := Mvs.setValve_coupled _ _ _
  have zl : z.mvs.orders = before ++ o :: after := (Mvs.setValve_orders _ _ _).trans hl
  have numbers : ∀ x ∈ before ++ after, x.number ≠ o.number := fun x hx => (others x hx).1
  have active : z.mvs.activeOrder v.holder = some o :=
    Mvs.activeOrder_of_worked zl (fun x hx e => absurd e (others x hx).2)
      (fun c => lead (by rwa [Mvs.isCoupled, coupled] at c)) (by rw [hs]; rfl) (by rwa [Mvs.worked_congr coupled])
  have all : ∀ w ∈ allValves z o, (z.mvs.valve w).reported = .shut := by
    intro w hw
    by_cases e : w = v
    · rw [e]; simp [z, Yard.arrived, Yard.updMvs]
    · obtain ⟨worked, bound⟩ := mem_boundValves hw
      rw [Mvs.worked_congr coupled] at worked
      simpa [z, Yard.arrived, Yard.updMvs, Mvs.valve_setValve_ne _ _ e] using shut w worked e bound
  have kept : keptAtEnd z o reason = keptAtEnd y o reason := by simp [keptAtEnd, z, Yard.arrived, Yard.updMvs]
  rw [valveReport_there hv rfl active]
  have done : doAll [.testRunning o.number, .testComplete o.number, .testShut v.holder] z =
      ((raiseEnded o reason z).withOrders (before ++ (if keptAtEnd y o reason then [o.renewed] else []) ++ after),
        [.activate o.holder]) := by
    have unmarked : z.mvs.shutPending.get v.holder = false := by simpa [z, Yard.arrived, Yard.updMvs] using hp
    simp only [doAll, deed, runOrder_other (Mvs.orderOf_listed zl numbers) (by simp [hs]),
      completeOrder_listed zl numbers hs hr all, finishOrder_listed zl numbers, kept, List.nil_append, List.append_nil]
    exact Prod.ext (testShutHolder_unmarked (y := (raiseEnded o reason z).withOrders _) unmarked) rfl
  refine work_once done fun d hd => ?_
  obtain rfl := List.mem_singleton.1 hd
  refine tryActivate_none (Mvs.nextEligible_eq_none fun x hx e w => ?_)
  have whose : x.holder = o.holder :=
    e.trans ((congrFun (Mvs.orderHolder_congr (n := z.mvs) coupled) o.holder).trans (Mvs.orderHolder_of_lead lead))
  have place : x ∈ before ++ after ∨ x = o.renewed := by
    have hx : x ∈ before ++ (if keptAtEnd y o reason then [o.renewed] else []) ++ after := hx
    simp only [List.mem_append] at hx ⊢
    obtain (hx | hx) | hx := hx
    · exact .inl (.inl hx)
    · split at hx
      · exact .inr (List.mem_singleton.1 hx)
      · cases hx
    · exact .inl (.inr hx)
  obtain hx | rfl := place
  · exact absurd whose (others x hx).2
  · rfl

theorem cancelOrder_unknown (hn : ∀ x ∈ y.mvs.orders, x.number ≠ n) : cancelOrder n y = (y, noSuch 1) := by
  simp [cancelOrder, orderOf_eq_none.2 hn]

/-- A WAITING order goes without a notice (R53). -/
theorem cancelOrder_waiting (hl : y.mvs.orders = before ++ o :: after) (hn : ∀ x ∈ before ++ after, x.number ≠ o.number)
    (hs : o.state = .waiting) (he : ∀ x ∈ before ++ after, x.state = .waiting → x.eligible = false) :
    cancelOrder o.number y = (y.withOrders (before ++ after), .answer .none [.u8 1]) := by
  have gone : y.updMvs (·.dropOrder o.number) = y.withOrders (before ++ after) :=
    congrArg (fun m => ({ y with mvs := m } : Yard)) (Mvs.dropOrder_listed hl hn)
  have still : work [.activate o.holder] (y.withOrders (before ++ after)) = y.withOrders (before ++ after) :=
    work_still fun d hd => by
      obtain rfl := List.mem_singleton.1 hd
      exact tryActivate_none (Mvs.nextEligible_eq_none fun x hx _ w => he x hx w)
  simp only [cancelOrder, Mvs.orderOf_listed hl hn, hs, gone, still]

theorem cancelOrder_closing (hl : y.mvs.orders = before ++ o :: after) (hn : ∀ x ∈ before ++ after, x.number ≠ o.number)
    (hs : o.state = .closing) : cancelOrder o.number y = (y, .answer .alreadyClosing []) := by
  simp only [cancelOrder, Mvs.orderOf_listed hl hn, hs]

/-- A working order is closed (R53). -/
theorem cancelOrder_working {vs : List (Valve × Point)} (c : y.CanShut before after o vs) :
    cancelOrder o.number y = (y.toClosing before after o vs .cancelled, okAnswer) := by
  have found := Mvs.orderOf_listed c.listed c.numbers
  rcases c.working with e | e <;> simp only [cancelOrder, found, e, c.work_close]

end

/-- Settles O32, by the last report of a CLOSING order and the states of the order cancelled. -/
theorem orderCancelled : Obligations.OrderCancelled := by
  refine ⟨fun y o before after v reason rep tm hl others lead hs hr hh hv hp shut => ?_, fun y n hc => ⟨fun unknown => ?_, ?_⟩⟩
  · intro kept ended
    have done := valveReport_completes hl others lead hs hr hh hv hp shut
    have kept_iff : keptAtEnd y o reason = true ↔ kept := by
      simp only [keptAtEnd, kept, Bool.and_eq_true, Bool.or_eq_true, beq_iff_eq, decide_eq_true_eq, Bool.not_eq_true',
        ← Bool.not_eq_true, gt_iff_lt, and_assoc, or_assoc]
    refine ⟨fun k => ?_, fun k => ?_⟩
    · rw [done, if_pos (kept_iff.2 k)]; rfl
    · rw [done, if_neg fun c => k (kept_iff.1 c)]; rfl
  · have gives {y' : Yard} {d : Decision} (e : cancelOrder n y = (y', d)) :
        Gives 0x45#8 .cancel (formOf layNumber) [some (n : Int)] y y' d :=
      gives_of_operational hc (fun _ _ _ => rfl) (by simpa [natAt, intAt, fieldAt] using e)
    exact gives (cancelOrder_unknown unknown)
  · rintro o before after hl hn rfl
    have gives {y' : Yard} {d : Decision} (e : cancelOrder o.number y = (y', d)) :
        Gives 0x45#8 .cancel (formOf layNumber) [some (o.number : Int)] y y' d :=
      gives_of_operational hc (fun _ _ _ => rfl) (by simpa [natAt, intAt, fieldAt] using e)
    exact ⟨fun hs he => gives (cancelOrder_waiting hl hn hs he), fun hs => gives (cancelOrder_closing hl hn hs),
      fun vs c => gives (cancelOrder_working c)⟩

end Sys2Proof.Machine
end

section
/-! O33: COUPLE, UNCOUPLE and SHUT HOLDER (R34, R54 to R57). -/

namespace Sys2Proof.Machine

@[simp] theorem Three.set_get {α : Type} (t : Three α) (k : Nat) : t.set k (t.get k) = t := by
  match k with
  | 0 => rfl
  | 1 => rfl
  | 2 => rfl
  | _ + 3 => rfl

section
variable {y : Yard} {h u : Holder} {v : Valve} {vs : List Valve} {p : Commanded}

/-! ### COUPLE and UNCOUPLE -/

theorem Mvs.activeOrder_isSome {m : Mvs} : (m.activeOrder h).isSome = true ↔
    ∃ o ∈ m.orders, o.state ≠ .waiting ∧ o.holder = m.orderHolder h := by
  have active : ∀ s : OrderState, s.active = true ↔ s ≠ .waiting := by intro s; cases s <;> simp [OrderState.active]
  simp [Mvs.activeOrder, List.find?_isSome, active]

theorem Mvs.activeOrder_eq_none {m : Mvs} : m.activeOrder h = none ↔ ∀ o ∈ m.orders, o.holder = m.orderHolder h → o.state = .waiting := by
  rw [← Option.not_isSome_iff_eq_none, Mvs.activeOrder_isSome]
  simp only [not_exists, not_and, ne_eq]
  exact ⟨fun f o mo e => by_contra fun c => f o mo c e, fun f o mo c e => c (f o mo e)⟩

theorem leader_of {h : Holder} (hl : h.leads = true) : (holderOf h.number).filter (·.leads) = some h := by simp [hl]

theorem follower_none {h : Holder} (hl : h.leads = false) : (holderOf h.number).filter (·.leads) = none := by simp [hl]

theorem pair_invalid (hl : h.leads = false) : couplePair h.number y = (y, invalid 1) ∧ uncouplePair h.number y = (y, invalid 1) := by
  simp only [couplePair, uncouplePair, follower_none hl, and_self]

theorem couplePair_absent (hl : h.leads = true) (ha : y.yds.holders.get h = none ∨ y.yds.holders.get h.partner = none) :
    couplePair h.number y = (y, noSuch 1) := by
  have absent : (y.yds.holderPresent h && y.yds.holderPresent h.partner) = false := by
    rcases ha with e | e <;> simp [Yds.holderPresent, e]
  simp only [couplePair, leader_of hl, absent, Bool.not_false, if_true]

theorem whole_of (hp : y.yds.holders.get h ≠ none) (hq : y.yds.holders.get h.partner ≠ none) :
    y.yds.holderPresent h = true ∧ y.yds.holderPresent h.partner = true := by
  simp [Yds.holderPresent, Option.isSome_iff_ne_none, hp, hq]

/-- An active order of either holder (R55). -/
theorem couplePair_active (hl : h.leads = true) (hp : y.yds.holders.get h ≠ none) (hq : y.yds.holders.get h.partner ≠ none)
    (ha : ∃ o ∈ y.mvs.orders, o.state ≠ .waiting ∧ (o.holder = h ∨ (o.holder = h.partner ∧ y.mvs.isCoupled h = false))) :
    couplePair h.number y = (y, .refuse .active [.u8 1]) := by
  have busy : ((y.mvs.activeOrder h).isSome || (y.mvs.activeOrder h.partner).isSome) = true := by
    obtain ⟨o, mo, hs, e | ⟨e, hc⟩⟩ := ha
    · exact Bool.or_eq_true_iff.2 (.inl (Mvs.activeOrder_isSome.2 ⟨o, mo, hs, e.trans (Mvs.orderHolder_of_leads hl).symm⟩))
    · exact Bool.or_eq_true_iff.2 (.inr (Mvs.activeOrder_isSome.2 ⟨o, mo, hs,
        e.trans (Mvs.orderHolder_of_alone (by rw [Mvs.isCoupled_partner, hc])).symm⟩))
  have whole := whole_of hp hq
  simp only [couplePair, leader_of hl, whole.1, whole.2, Bool.and_self, Bool.not_true, Bool.false_eq_true, if_false, busy, if_true]

theorem uncouplePair_active (hl : h.leads = true) (ha : ∃ o ∈ y.mvs.orders, o.holder = h ∧ o.state ≠ .waiting) :
    uncouplePair h.number y = (y, .refuse .active [.u8 1]) := by
  obtain ⟨o, mo, e, hs⟩ := ha
  have busy := Mvs.activeOrder_isSome.2 ⟨o, mo, hs, e.trans (Mvs.orderHolder_of_leads hl).symm⟩
  simp only [uncouplePair, leader_of hl, busy, if_true]

/-- No order of a leader is active. -/
theorem leader_free (hl : h.leads = true) (hw : ∀ o ∈ y.mvs.orders, o.holder = h → o.state = .waiting) :
    y.mvs.activeOrder h = none :=
  Mvs.activeOrder_eq_none.2 fun o mo e => hw o mo (e.trans (Mvs.orderHolder_of_leads hl))

theorem uncouplePair_loose (hl : h.leads = true) (hw : ∀ o ∈ y.mvs.orders, o.holder = h → o.state = .waiting)
    (hc : y.mvs.isCoupled h = false) : uncouplePair h.number y = (y, okAnswer) := by
  simp only [uncouplePair, leader_of hl, leader_free hl hw, hc, Option.isSome_none, Bool.false_eq_true, if_false]

theorem Mvs.isCoupled_set {m : Mvs} {b : Bool} : ({ m with coupled := m.coupled.set h.pair b } : Mvs).isCoupled h = b := by
  simp [Mvs.isCoupled, Three.get_set]

/-- A whole pair set free, no order of either holder being eligible (R56). -/
theorem uncouplePair_coupled (hl : h.leads = true) (hw : ∀ o ∈ y.mvs.orders, o.holder = h → o.state = .waiting)
    (hc : y.mvs.isCoupled h = true) (he : ∀ o ∈ y.mvs.orders, o.holder = h ∨ o.holder = h.partner → o.eligible = false) :
    uncouplePair h.number y = (y.updMvs fun m => { m with coupled := m.coupled.set h.pair false }, okAnswer) := by
  simp only [uncouplePair, leader_of hl, leader_free hl hw, hc, Option.isSome_none, Bool.false_eq_true, if_false, if_true]
  refine Prod.ext (work_still fun d hd => ?_) rfl
  have alone : ∀ k, k = h ∨ k = h.partner →
      ({ y.mvs with coupled := y.mvs.coupled.set h.pair false } : Mvs).orderHolder k = k := by
    intro k e
    refine Mvs.orderHolder_of_alone ?_
    obtain rfl | rfl := e
    · exact Mvs.isCoupled_set
    · rw [Mvs.isCoupled_partner]; exact Mvs.isCoupled_set
  obtain ⟨k, hk, rfl⟩ : ∃ k, (k = h ∨ k = h.partner) ∧ d = .activate k := by simpa [or_and_right, exists_or] using hd
  refine tryActivate_none (Mvs.nextEligible_eq_none fun x hx e _ => he x hx ?_)
  rwa [e.trans (alone k hk)]

theorem couplePair_coupled (hl : h.leads = true) (hc : y.mvs.isCoupled h = true) (hp : y.yds.holders.get h ≠ none)
    (hq : y.yds.holders.get h.partner ≠ none) (hw : ∀ o ∈ y.mvs.orders, o.holder = h ∨ o.holder = h.partner → o.state = .waiting) :
    couplePair h.number y = (y, okAnswer) := by
  have whole := whole_of hp hq
  have other : y.mvs.activeOrder h.partner = none := by
    refine Mvs.activeOrder_eq_none.2 fun o mo e => hw o mo (.inl ?_)
    rw [e]
    exact Mvs.orderHolder_of_worked (fun _ => hl) (by simp [Mvs.worked, hc, hl])
  simp only [couplePair, leader_of hl, whole.1, whole.2, leader_free hl fun o mo e => hw o mo (.inl e), other, hc,
    Bool.and_self, Bool.not_true, Bool.false_eq_true, if_false, Option.isSome_none, Bool.or_self, if_true]

/-- What the orders that a test names leave in a list of different numbers. -/
theorem Mvs.filter_rest {m : Mvs} (numbers : m.orders.Pairwise fun a b => a.number ≠ b.number) (p : Order → Bool) :
    (m.orders.filter fun x => (m.orders.filter p).all fun o => !(x.number == o.number)) = m.orders.filter fun o => !p o := by
  refine List.filter_congr fun x mx => Bool.eq_iff_iff.2 ⟨fun f => ?_, fun stays => ?_⟩
  · by_contra c
    have named := List.all_eq_true.1 f x (List.mem_filter.2 ⟨mx, by simpa using c⟩)
    simp at named
  · refine List.all_eq_true.2 fun o mo => ?_
    obtain ⟨mo, ho⟩ := List.mem_filter.1 mo
    simp only [Bool.not_eq_true', beq_eq_false_iff_ne]
    intro same
    have found := Mvs.orderOf_of_mem numbers mx
    rw [same, Mvs.orderOf_of_mem numbers mo] at found
    cases found
    simp [ho] at stays

/-- A pair coupled: the follower's orders end, and no order of the leader is eligible (R55). -/
theorem couplePair_loose (hl : h.leads = true) (hc : y.mvs.isCoupled h = false) (hp : y.yds.holders.get h ≠ none)
    (hq : y.yds.holders.get h.partner ≠ none) (numbers : y.mvs.orders.Pairwise fun a b => a.number ≠ b.number)
    (hw : ∀ o ∈ y.mvs.orders, o.holder = h ∨ o.holder = h.partner → o.state = .waiting)
    (he : ∀ o ∈ y.mvs.orders, o.holder = h → o.eligible = false) : couplePair h.number y =
      ({ y with
        mvs := { y.mvs with
          coupled := y.mvs.coupled.set h.pair true
          orders := y.mvs.orders.filter fun o => decide (o.holder ≠ h.partner) }
        notices := (y.mvs.orders.filter fun o => decide (o.holder = h.partner)).foldl
          (fun q o => q.raise .orderEnded o.number ((8 + 256 * o.standing : Nat) : Int) (y.gdc.clock.map (·.day))
            (y.gdc.clock.map (·.period))) y.notices }, okAnswer) := by
  have other : y.mvs.activeOrder h.partner = none := Mvs.activeOrder_eq_none.2 fun o mo e => hw o mo (.inr
    (e.trans (Mvs.orderHolder_of_alone (by rw [Mvs.isCoupled_partner, hc]))))
  have mine : (y.mvs.orders.filter fun o => o.holder == h.partner && o.state == .waiting) =
      y.mvs.orders.filter fun o => decide (o.holder = h.partner) :=
    List.filter_congr fun o mo => by by_cases e : o.holder = h.partner <;> simp [e, hw o mo]
  have rest : (y.mvs.orders.filter fun x => (y.mvs.orders.filter fun o => decide (o.holder = h.partner)).all
      fun o => !(x.number == o.number)) = y.mvs.orders.filter fun o => decide (o.holder ≠ h.partner) := by
    simpa using Mvs.filter_rest numbers fun o => decide (o.holder = h.partner)
  rw [couplePair_eq numbers (holderOf_number h) hl (whole_of hp hq) ⟨leader_free hl fun o mo e => hw o mo (.inl e), other⟩ hc,
    mine]
  refine Prod.ext ?_ rfl
  have still (z : Yard) (hz : z.mvs.orders = y.mvs.orders.filter fun o => decide (o.holder ≠ h.partner)) :
      work [.activate h] z = z := work_still fun d hd => by
    obtain rfl := List.mem_singleton.1 hd
    refine tryActivate_none (Mvs.nextEligible_eq_none fun x hx e _ => ?_)
    rw [hz] at hx
    exact he x (List.mem_filter.1 hx).1 (e.trans (Mvs.orderHolder_of_leads hl))
  refine (still _ rest).trans ?_
  simp only [Yard.ended, Yard.updMvs, rest]
  rfl

theorem pair_idle (hl : h.leads = true) (ho : y.mvs.orders = []) :
    (y.yds.holders.get h ≠ none → y.yds.holders.get h.partner ≠ none →
      couplePair h.number y = ({ y with mvs := { y.mvs with coupled := y.mvs.coupled.set h.pair true } }, okAnswer)) ∧
    uncouplePair h.number y = ({ y with mvs := { y.mvs with coupled := y.mvs.coupled.set h.pair false } }, okAnswer) := by
  have same (b : Bool) (e : y.mvs.isCoupled h = b) :
      ({ y with mvs := { y.mvs with coupled := y.mvs.coupled.set h.pair b } } : Yard) = y := by
    rw [← e, Mvs.isCoupled, Three.set_get]
  have empty {P : Order → Prop} : ∀ o ∈ y.mvs.orders, P o := by simp [ho]
  cases hc : y.mvs.isCoupled h with
  | true =>
    refine ⟨fun hp hq => ?_, uncouplePair_coupled hl empty hc empty⟩
    rw [couplePair_coupled hl hc hp hq empty, same true hc]
  | false =>
    refine ⟨fun hp hq => ?_, by rw [uncouplePair_loose hl empty hc, same false hc]⟩
    rw [couplePair_loose hl hc hp hq (by simp [ho]) empty empty]
    simp [ho]

/-! ### Valves commanded together, whatever stands in the command list (R34, R128) -/

theorem doAll_commands (vs : List Valve) (y : Yard) : doAll (vs.map (.command · p)) y = commandAll p vs y := by
  induction vs generalizing y with
  | nil => rfl
  | cons v vs ih => simp only [List.map_cons, doAll, deed, ih, commandAll]

/-- The command list with the command for one valve, which no valve that reports the position or is not bound asks for. -/
def Yard.commandPut (y : Yard) (p : Commanded) (cs : List Command) (v : Valve) : List Command :=
  match y.yds.bind.valve v with
  | some pt => if p.asReport = some (y.mvs.valve v).reported then cs else (putInto cs pt p.cmdCode 0 (.valve v)).1
  | none => cs

/-- The yard with bound valves commanded in turn while the command list has room. -/
def Yard.commandedAll (y : Yard) (p : Commanded) (vs : List Valve) : Yard :=
  { y with
    mvs := vs.foldl (Mvs.commandTo p) y.mvs
    scs := { y.scs with commands := vs.foldl (y.commandPut p) y.scs.commands } }

theorem putInto_room {cs : List Command} (pt : Point) (code : CmdCode) (w : Owner) (room : cs.length < 32) :
    (putInto cs pt code 0 w).2 = true ∧ (putInto cs pt code 0 w).1.length ≤ cs.length + 1 := by
  obtain ⟨-, e⟩ | ⟨-, -, e⟩ | ⟨-, full, -⟩ := putInto_cases cs pt code 0 w
  · simp [e]
  · simp [e]
  · omega

theorem commandValve_room (hc : y.yds.desc = .committed) (hb : y.yds.bind.valve v ≠ none)
    (room : p.asReport ≠ some (y.mvs.valve v).reported → y.scs.commands.length < 32) :
    commandValve v p y = (y.commandedAll p [v], []) := by
  obtain ⟨pt, hb⟩ := Option.ne_none_iff_exists'.1 hb
  unfold commandValve
  simp only [hb, isCommitted_of hc, if_true, beq_iff_eq]
  by_cases e : p.asReport = some (y.mvs.valve v).reported
  · simp [e, Yard.commandedAll, Yard.commandPut, hb, Yard.updMvs, Mvs.commandTo]
  · have put := (putInto_room pt p.cmdCode (.valve v) (room e)).1
    simp [e, Yard.commandedAll, Yard.commandPut, hb, putCommand_eq, put, Yard.updMvs, Mvs.commandTo]

/-- The valves among some that do not report a position already. -/
def Yard.elsewhere (y : Yard) (p : Commanded) (vs : List Valve) : List Valve :=
  vs.filter fun v => decide (p.asReport ≠ some (y.mvs.valve v).reported)

theorem commandPut_length {cs : List Command} (room : cs.length + (y.elsewhere p [v]).length ≤ 32) :
    (y.commandPut p cs v).length ≤ cs.length + (y.elsewhere p [v]).length := by
  by_cases e : p.asReport = some (y.mvs.valve v).reported
  · cases b : y.yds.bind.valve v <;> simp [Yard.commandPut, b, e]
  · have one : (y.elsewhere p [v]).length = 1 := by simp [Yard.elsewhere, e]
    rw [one] at room ⊢
    cases b : y.yds.bind.valve v with
    | none => simp [Yard.commandPut, b]
    | some pt => simpa [Yard.commandPut, b, e] using (putInto_room pt p.cmdCode (.valve v) room).2

theorem elsewhere_commandedAll (ws : List Valve) : (y.commandedAll p ws).elsewhere p vs = y.elsewhere p vs :=
  List.filter_congr fun v _ => by
    have same : ((ws.foldl (Mvs.commandTo p) y.mvs).valve v).reported = (y.mvs.valve v).reported :=
      Mvs.commandTo_fold (fun m => (m.valve v).reported) (fun _ _ => Mvs.commandTo_reported) _ _
    simp only [Yard.commandedAll, same]

theorem elsewhere_cons : (y.elsewhere p (v :: vs)).length = (y.elsewhere p [v]).length + (y.elsewhere p vs).length := by
  rw [← List.length_append, Yard.elsewhere, ← List.singleton_append, List.filter_append]
  rfl

theorem commandedAll_cons : y.commandedAll p (v :: vs) = (y.commandedAll p [v]).commandedAll p vs := by
  have put : ∀ cs w, (y.commandedAll p [v]).commandPut p cs w = y.commandPut p cs w := by
    intro cs w; simp [Yard.commandPut, Yard.commandedAll]
  simp only [Yard.commandedAll, List.foldl_cons, List.foldl_nil]
  congr 2
  exact (List.foldl_ext _ _ _ fun cs w _ => put cs w).symm

/-- Bound valves are all commanded while the list has room, and none fails. -/
theorem commandAll_room (hc : y.yds.desc = .committed) (hb : ∀ v ∈ vs, y.yds.bind.valve v ≠ none)
    (room : y.elsewhere p vs = [] ∨ y.scs.commands.length + (y.elsewhere p vs).length ≤ 32) :
    commandAll p vs y = (y.commandedAll p vs, []) := by
  induction vs generalizing y with
  | nil => rfl
  | cons v vs ih =>
    rw [← List.length_eq_zero_iff, elsewhere_cons] at room
    have first : p.asReport ≠ some (y.mvs.valve v).reported → y.scs.commands.length < 32 := by
      intro e
      have one : (y.elsewhere p [v]).length = 1 := by simp [Yard.elsewhere, e]
      omega
    rw [commandedAll_cons (v := v) (vs := vs), commandAll, commandValve_room hc (hb v List.mem_cons_self) first]
    dsimp only
    rw [ih (y := y.commandedAll p [v]) hc (fun w hw => hb w (List.mem_cons_of_mem _ hw)) ?_]
    · rfl
    · rw [elsewhere_commandedAll, ← List.length_eq_zero_iff]
      refine room.imp (by omega) fun room => ?_
      have one := commandPut_length (y := y) (v := v) (p := p) (cs := y.scs.commands) (by omega)
      simp only [Yard.commandedAll, List.foldl_cons, List.foldl_nil]
      omega

/-! ### The test on reports of several holders (R54) -/

/-- Every bound valve of a holder reports SHUT. -/
def Yard.reportedShut (y : Yard) (h : Holder) : Prop := ∀ side, y.yds.bind.valve ⟨h, side⟩ ≠ none → (y.mvs.valve ⟨h, side⟩).reported = .shut

theorem reportedShut_iff : (y.yds.boundValves [h] [.inlet, .outlet]).all (reportsShut y) = true ↔ y.reportedShut h := by
  simp only [List.all_eq_true, Yard.reportedShut, Yds.boundValves, reportsShut]
  constructor
  · intro f side bound
    simpa using f ⟨h, side⟩ (List.mem_filter.2 ⟨by cases side <;> simp, by simpa [Option.isSome_iff_ne_none] using bound⟩)
  · intro f w hw
    obtain ⟨mw, bound⟩ := List.mem_filter.1 hw
    have e : w = ⟨h, w.side⟩ := by
      simp only [List.flatMap_cons, List.map_cons, List.map_nil, List.flatMap_nil, List.append_nil, List.mem_cons,
        List.not_mem_nil, or_false] at mw
      rcases mw with rfl | rfl <;> rfl
    rw [e] at bound ⊢
    simpa using f w.side (Option.isSome_iff_ne_none.1 bound)

/-- The yard with other shut pending marks and UNMANAGED flags. -/
def Yard.withMarks (y : Yard) (pending unmanaged : Holders Bool) : Yard :=
  { y with mvs := { y.mvs with shutPending := pending, unmanaged := unmanaged } }

/-- The tests of SHUT HOLDER in turn: each of the holders whose mark stands and whose bound valves all report SHUT has its mark
and its UNMANAGED flag cleared. -/
theorem testShut_fold (hs : List Holder) (y : Yard) : ∃ pending unmanaged : Holders Bool,
    doAll (hs.map .testShut) y = (y.withMarks pending unmanaged, []) ∧
    ∀ u, (pending.get u = true ↔ y.mvs.shutPending.get u = true ∧ ¬(u ∈ hs ∧ y.reportedShut u)) ∧
      (unmanaged.get u = true ↔ y.mvs.unmanaged.get u = true ∧ ¬(u ∈ hs ∧ y.mvs.shutPending.get u = true ∧ y.reportedShut u)) := by
  induction hs generalizing y with
  | nil => exact ⟨_, _, rfl, by simp⟩
  | cons h hs ih =>
    by_cases c : y.mvs.shutPending.get h = true ∧ y.reportedShut h
    · have one : testShutHolder h y = y.withMarks (y.mvs.shutPending.set h false) (y.mvs.unmanaged.set h false) := by
        simp [testShutHolder, reportedShut_iff.2 c.2, c.1, setUnmanaged, setShutPending, Yard.updMvs, Yard.withMarks]
      obtain ⟨pending, unmanaged, done, rest⟩ := ih (testShutHolder h y)
      refine ⟨pending, unmanaged, ?_, fun u => ?_⟩
      · rw [List.map_cons, doAll]
        simp only [deed, done]
        rw [one]
        rfl
      · rw [(rest u).1, (rest u).2, one]
        have stays : ∀ s t x, (y.withMarks s t).reportedShut x ↔ y.reportedShut x := fun _ _ _ => Iff.rfl
        rw [stays]
        by_cases e : u = h
        · subst e; simp [c, Yard.withMarks]
        · simp [Holders.get_set_ne _ _ e, e, Yard.withMarks]
    · have one : testShutHolder h y = y := by
        unfold testShutHolder
        rw [if_neg]
        rwa [Bool.and_eq_true, reportedShut_iff]
      obtain ⟨pending, unmanaged, done, rest⟩ := ih y
      refine ⟨pending, unmanaged, ?_, fun u => ?_⟩
      · rw [List.map_cons, doAll]
        simp only [deed, one, done]
        rfl
      · rw [(rest u).1, (rest u).2]
        by_cases e : u = h
        · subst e; simp only [List.mem_cons, true_or, true_and]; tauto
        · simp [e]

/-! ### SHUT HOLDER (R54, R57) -/

theorem commandTo_fold_with_pending (vs : List Valve) (m : Mvs) (t : Holders Bool) :
    vs.foldl (Mvs.commandTo p) { m with shutPending := t } = { vs.foldl (Mvs.commandTo p) m with shutPending := t } := by
  induction vs generalizing m with
  | nil => rfl
  | cons v vs ih =>
    have one : ({ m with shutPending := t } : Mvs).commandTo p v = { m.commandTo p v with shutPending := t } := by
      rcases v with ⟨k, s⟩; cases s <;> rfl
    rw [List.foldl_cons, one, ih]
    rfl

theorem markAll_get (hs : List Holder) (b : Bool) (t : Holders Bool) : (markAll hs b t).get u = if u ∈ hs then b else t.get u := by
  induction hs generalizing t with
  | nil => rfl
  | cons h hs ih =>
    rw [markAll, List.foldl_cons, ← markAll, ih]
    by_cases e : u = h
    · subst e; simp
    · simp [Holders.get_set_ne _ _ e, e]

/-- The valves that SHUT HOLDER commands (R54, log 61). -/
def Yard.bothValves (y : Yard) (h : Holder) : List Valve := y.yds.boundValves (y.mvs.worked h) [.inlet, .outlet]

/-- The marks set before the commands are put. -/
theorem commandedAll_marks (hs : List Holder) (s t : Holders Bool) :
    ((setShutPending hs true y).commandedAll p vs).withMarks s t = (y.commandedAll p vs).withMarks s t := by
  have fold := commandTo_fold_with_pending (p := p) vs y.mvs (markAll hs true y.mvs.shutPending)
  have marks := congrArg (fun m => Yard.withMarks { y.commandedAll p vs with mvs := m } s t) fold
  exact marks

/-- SHUT HOLDER while the command list has room: every bound valve of the holder, or of its pair, is commanded SHUT, and the mark
stands where one of a holder's valves does not report it (R54). -/
theorem shutHolder_done (hc : y.yds.desc = .committed) (hp : y.yds.holders.get h ≠ none) (lead : y.mvs.isCoupled h = true → h.leads = true)
    (free : ∀ o ∈ y.mvs.orders, o.holder = h → o.state = .waiting)
    (room : y.elsewhere .shut (y.bothValves h) = [] ∨
      y.scs.commands.length + (y.elsewhere .shut (y.bothValves h)).length ≤ 32) :
    ∃ pending unmanaged : Holders Bool,
      shutHolder h.number y = ((y.commandedAll .shut (y.bothValves h)).withMarks pending unmanaged, okAnswer) ∧
      ∀ u, (pending.get u = true ↔ (u ∈ y.mvs.worked h ∧ ¬y.reportedShut u) ∨ (u ∉ y.mvs.worked h ∧ y.mvs.shutPending.get u = true)) ∧
        (unmanaged.get u = true ↔ y.mvs.unmanaged.get u = true ∧ ¬(u ∈ y.mvs.worked h ∧ y.reportedShut u)) := by
  have idle : y.mvs.activeOrder h = none := Mvs.activeOrder_eq_none.2 fun o mo e =>
    free o mo (e.trans (Mvs.orderHolder_of_lead lead))
  let marked := setShutPending (y.mvs.worked h) true y
  let put := marked.commandedAll .shut (y.bothValves h)
  have commands : commandAll .shut (y.bothValves h) marked = (put, []) :=
    commandAll_room hc (fun v hv => (mem_boundValves hv).2) room
  obtain ⟨pending, unmanaged, done, each⟩ := testShut_fold (y.mvs.worked h) put
  have first : doAll ((y.bothValves h).map (.command · .shut) ++ (y.mvs.worked h).map .testShut) marked =
      ((y.commandedAll .shut (y.bothValves h)).withMarks pending unmanaged, []) := by
    rw [doAll_append, doAll_commands, commands]
    dsimp only
    rw [done, List.nil_append, commandedAll_marks]
  refine ⟨pending, unmanaged, ?_, fun u => ?_⟩
  · simp only [shutHolder, presentHolder_some hp, idle, Option.isSome_none, Bool.false_eq_true, if_false, beq_iff_eq,
      role_ne_follower lead]
    exact Prod.ext (work_once first (by simp)) rfl
  · have reports : ∀ v, (put.mvs.valve v).reported = (y.mvs.valve v).reported := fun v =>
      Mvs.commandTo_fold (fun m => (m.valve v).reported) (fun _ _ => Mvs.commandTo_reported) _ _
    have shut : put.reportedShut u ↔ y.reportedShut u := by
      unfold Yard.reportedShut
      simp only [reports]
      rfl
    have mark : put.mvs.shutPending.get u = if u ∈ y.mvs.worked h then true else y.mvs.shutPending.get u := by
      rw [← markAll_get]
      exact congrArg (·.get u) (Mvs.commandTo_fold Mvs.shutPending (fun m v => by simp [Mvs.commandTo]) _ _)
    have flag : put.mvs.unmanaged.get u = y.mvs.unmanaged.get u :=
      congrArg (·.get u) (Mvs.commandTo_fold Mvs.unmanaged (fun m v => by simp [Mvs.commandTo]) _ _)
    rw [(each u).1, (each u).2, shut, mark, flag]
    by_cases m : u ∈ y.mvs.worked h <;> simp [m]

/-- The commands that SHUT HOLDER puts, taken valve by valve whether bound or not. -/
theorem commandPut_bothValves : (y.bothValves h).foldl (y.commandPut .shut) y.scs.commands =
    ((y.mvs.worked h).flatMap fun u => ([⟨u, .inlet⟩, ⟨u, .outlet⟩] : List Valve)).foldl
      (fun cs v => match y.yds.bind.valve v with
        | some p => if (y.mvs.valve v).reported = .shut then cs else (putInto cs p .valveShut 0 (.valve v)).1
        | none => cs) y.scs.commands := by
  unfold Yard.bothValves Yds.boundValves
  rw [List.foldl_filter]
  refine List.foldl_ext _ _ _ fun cs v _ => ?_
  cases b : y.yds.bind.valve v with
  | none => rfl
  | some pt =>
    rw [if_pos (by rfl)]
    simp only [Yard.commandPut, b, Commanded.asReport, Option.some.injEq, eq_comm (a := Reported.shut)]
    rfl

theorem bothValves_length (h : Holder) : (y.bothValves h).length ≤ 4 := by
  refine (List.length_filter_le _ _).trans ?_
  unfold Mvs.worked
  split <;> simp

theorem mem_bothValves : v ∈ y.bothValves h ↔ v.holder ∈ y.mvs.worked h ∧ y.yds.bind.valve v ≠ none := by
  refine ⟨mem_boundValves, fun ⟨hh, bound⟩ => List.mem_filter.2 ⟨List.mem_flatMap.2 ⟨_, hh, ?_⟩, ?_⟩⟩
  · obtain ⟨k, side⟩ := v
    cases side <;> simp
  · simpa [Option.isSome_iff_ne_none] using bound

theorem commandTo_fold_valve (vs : List Valve) (m : Mvs) :
    (vs.foldl (Mvs.commandTo p) m).valve v = if v ∈ vs then ⟨p, (m.valve v).reported, .idle⟩ else m.valve v := by
  induction vs generalizing m with
  | nil => simp
  | cons w vs ih =>
    rw [List.foldl_cons, ih, Mvs.commandTo_reported]
    by_cases e : v = w
    · subst e; simp [Mvs.commandTo]
    · simp [e, Mvs.commandTo, Mvs.valve_setValve_ne]

/-- Commanding valves leaves the rest of MVS. -/
theorem commandTo_fold_frame (vs : List Valve) (m : Mvs) : vs.foldl (Mvs.commandTo p) m =
    { m with inlets := (vs.foldl (Mvs.commandTo p) m).inlets, outlets := (vs.foldl (Mvs.commandTo p) m).outlets } := by
  induction vs generalizing m with
  | nil => rfl
  | cons w vs ih =>
    have one : m.commandTo p w = { m with inlets := (m.commandTo p w).inlets, outlets := (m.commandTo p w).outlets } := by
      rcases w with ⟨k, s⟩; cases s <;> rfl
    rw [List.foldl_cons, ih]
    exact congrArg (fun n : Mvs => ({ n with inlets := _, outlets := _ } : Mvs)) one

theorem shutHolder_absent (hp : y.yds.holders.get h = none) : shutHolder h.number y = (y, noSuch 1) := by
  simp only [shutHolder, presentHolder_none hp]

theorem shutHolder_follower (hp : y.yds.holders.get h ≠ none) (hc : y.mvs.isCoupled h = true) (hl : h.leads = false) :
    shutHolder h.number y = (y, .refuse .coupled [.u8 1]) := by
  have role := Mvs.role_eq_follower.2 ⟨hc, hl⟩
  simp only [shutHolder, presentHolder_some hp, role, beq_self_eq_true, if_true]

theorem shutHolder_busy (hp : y.yds.holders.get h ≠ none) (lead : y.mvs.isCoupled h = false ∨ h.leads = true)
    (ha : ∃ o ∈ y.mvs.orders, o.holder = h ∧ o.state ≠ .waiting) : shutHolder h.number y = (y, .refuse .active [.u8 1]) := by
  have lead' : y.mvs.isCoupled h = true → h.leads = true := fun c => lead.resolve_left (by simp [c])
  obtain ⟨o, mo, e, hs⟩ := ha
  have busy := Mvs.activeOrder_isSome.2 ⟨o, mo, hs, e.trans (Mvs.orderHolder_of_lead lead').symm⟩
  simp only [shutHolder, presentHolder_some hp, busy, if_true, beq_iff_eq, role_ne_follower lead', if_false]

/-- SHUT HOLDER of a holder alone with both its valves bound (R54). -/
theorem shutHolder_alone {pi po : Point} {ci co : Commanded} {ri ro : Reported} {ti tq : Timer} (hc : y.yds.desc = .committed)
    (hp : y.yds.holders.get h ≠ none) (ha : y.mvs.isCoupled h = false)
    (free : ∀ o ∈ y.mvs.orders, o.holder = h → o.state = .waiting) (bi : y.yds.bind.inlet.get h = some pi)
    (bo : y.yds.bind.outlet.get h = some po) (vi : y.mvs.inlets.get h = ⟨ci, ri, ti⟩) (vo : y.mvs.outlets.get h = ⟨co, ro, tq⟩)
    (room : y.elsewhere .shut [⟨h, .inlet⟩, ⟨h, .outlet⟩] = [] ∨
      y.scs.commands.length + (y.elsewhere .shut [⟨h, .inlet⟩, ⟨h, .outlet⟩]).length ≤ 32) :
    shutHolder h.number y =
      ({ y with
        mvs := { y.mvs with
          shutPending := if ri = .shut ∧ ro = .shut then (y.mvs.shutPending.set h true).set h false else y.mvs.shutPending.set h true
          unmanaged := if ri = .shut ∧ ro = .shut then y.mvs.unmanaged.set h false else y.mvs.unmanaged
          inlets := y.mvs.inlets.set h ⟨.shut, ri, .idle⟩
          outlets := y.mvs.outlets.set h ⟨.shut, ro, .idle⟩ }
        scs := { y.scs with
          commands := y.commandPut .shut (y.commandPut .shut y.scs.commands ⟨h, .inlet⟩) ⟨h, .outlet⟩ } }, okAnswer) := by
  have own : y.mvs.worked h = [h] := by simp [Mvs.worked, ha]
  have both : y.bothValves h = [⟨h, .inlet⟩, ⟨h, .outlet⟩] := by
    simp [Yard.bothValves, own, Yds.boundValves, Bindings.valve, bi, bo]
  have reports : y.reportedShut h ↔ ri = .shut ∧ ro = .shut := by
    refine ⟨fun f => ?_, fun f side _ => ?_⟩
    · have i := f .inlet
      have o := f .outlet
      simp only [Bindings.valve, bi, bo, Mvs.valve, vi, vo, ne_eq, reduceCtorEq, not_false_eq_true, forall_const] at i o
      exact ⟨i, o⟩
    · cases side <;> simp [Mvs.valve, vi, vo, f]
  rw [← both] at room
  obtain ⟨pending, unmanaged, done, marks⟩ := shutHolder_done hc hp (by simp [ha]) free room
  rw [done, both]
  have pend : pending = if ri = .shut ∧ ro = .shut then (y.mvs.shutPending.set h true).set h false
      else y.mvs.shutPending.set h true := by
    refine Holders.ext_get fun u => Bool.eq_iff_iff.2 ((marks u).1.trans ?_)
    by_cases e : u = h
    · subst e; by_cases c : ri = .shut ∧ ro = .shut <;> simp [own, reports, c]
    · by_cases c : ri = .shut ∧ ro = .shut <;> simp [own, c, e, Holders.get_set_ne]
  have flag : unmanaged = if ri = .shut ∧ ro = .shut then y.mvs.unmanaged.set h false else y.mvs.unmanaged := by
    refine Holders.ext_get fun u => Bool.eq_iff_iff.2 ((marks u).2.trans ?_)
    by_cases e : u = h
    · subst e; by_cases c : ri = .shut ∧ ro = .shut <;> simp [own, reports, c]
    · by_cases c : ri = .shut ∧ ro = .shut <;> simp [own, c, e, Holders.get_set_ne]
  subst pend flag
  refine Prod.ext ?_ rfl
  simp only [Yard.withMarks, Yard.commandedAll, List.foldl_cons, List.foldl_nil, Mvs.commandTo, Mvs.valve, Mvs.setValve, vi, vo]

/-- A command put for a free point while the list has room is its last. -/
theorem putInto_append {cs : List Command} {pt : Point} {code : CmdCode} {w : Owner}
    (hf : ∀ c ∈ cs, ¬(c.outstation = pt.outstation ∧ c.channel = pt.channel)) (room : cs.length < 32) :
    (putInto cs pt code 0 w).1 = cs ++ [⟨pt.outstation, pt.channel, code, 0, w, 0, false, false⟩] := by
  have free : ∀ c ∈ cs, c.isFor pt = false := fun c hc => by simpa [Command.isFor] using hf c hc
  obtain ⟨⟨c, hc, own⟩, -⟩ | ⟨-, -, e⟩ | ⟨-, full, -⟩ := putInto_cases cs pt code 0 w
  · simp [free c hc] at own
  · rw [e]
  · omega

theorem commandPut_append {cs : List Command} {pt : Point} (hb : y.yds.bind.valve v = some pt)
    (hr : (y.mvs.valve v).reported ≠ .shut) (hf : ∀ c ∈ cs, ¬(c.outstation = pt.outstation ∧ c.channel = pt.channel))
    (room : cs.length < 32) : y.commandPut .shut cs v = cs ++ [valveCommand .valveShut (v, pt)] := by
  simp only [Yard.commandPut, hb, Commanded.asReport, Option.some.injEq, hr.symm, if_false]
  exact putInto_append hf room

theorem commandPut_there {cs : List Command} (hr : (y.mvs.valve v).reported = .shut) : y.commandPut .shut cs v = cs := by
  cases b : y.yds.bind.valve v <;> simp [Yard.commandPut, b, Commanded.asReport, hr]

/-- What holds of the valves and the marks once SHUT HOLDER is done (R54). -/
theorem shutHolder_gives {hs : List Holder} (hc : y.yds.desc = .committed) (hp : y.yds.holders.get h ≠ none)
    (lead : y.mvs.isCoupled h = true → h.leads = true) (hw : y.mvs.worked h = hs)
    (free : ∀ o ∈ y.mvs.orders, o.holder = h → o.state = .waiting) (room : y.scs.commands.length + 4 ≤ 32) :
    ∃ y' : Yard, shutHolder h.number y = (y', okAnswer) ∧
      y' = { y with
        mvs := { y.mvs with
          inlets := y'.mvs.inlets, outlets := y'.mvs.outlets
          shutPending := y'.mvs.shutPending, unmanaged := y'.mvs.unmanaged }
        scs := { y.scs with commands := y'.scs.commands } } ∧
      y'.scs.commands = (y.bothValves h).foldl (y.commandPut .shut) y.scs.commands ∧
      (∀ v : Valve, y.yds.bind.valve v = none ∨ v.holder ∉ hs → y'.mvs.valve v = y.mvs.valve v) ∧
      (∀ u, u ∉ hs → y'.mvs.shutPending.get u = y.mvs.shutPending.get u ∧ y'.mvs.unmanaged.get u = y.mvs.unmanaged.get u) ∧
      ∀ u ∈ hs,
        (∀ side, y.yds.bind.valve ⟨u, side⟩ ≠ none →
          y'.mvs.valve ⟨u, side⟩ = ⟨.shut, (y.mvs.valve ⟨u, side⟩).reported, .idle⟩) ∧
        (y'.mvs.shutPending.get u = true ↔
          ∃ side, y.yds.bind.valve ⟨u, side⟩ ≠ none ∧ (y.mvs.valve ⟨u, side⟩).reported ≠ .shut) ∧
        (y'.mvs.unmanaged.get u = true ↔ y.mvs.unmanaged.get u = true ∧ y'.mvs.shutPending.get u = true) := by
  subst hw
  have len : (y.elsewhere .shut (y.bothValves h)).length ≤ 4 := (List.length_filter_le _ _).trans (bothValves_length h)
  obtain ⟨pending, unmanaged, done, marks⟩ := shutHolder_done hc hp lead free (.inr (by omega))
  have valves (v : Valve) : ((y.commandedAll .shut (y.bothValves h)).withMarks pending unmanaged).mvs.valve v =
      if v ∈ y.bothValves h then ⟨.shut, (y.mvs.valve v).reported, .idle⟩ else y.mvs.valve v := commandTo_fold_valve _ _
  refine ⟨_, done, ?_, rfl, fun v out => ?_, fun u out => ⟨?_, ?_⟩, fun u own => ⟨fun side bound => ?_, ?_, ?_⟩⟩
  · have frame := commandTo_fold_frame (p := .shut) (y.bothValves h) y.mvs
    exact congrArg (fun m => Yard.withMarks { y.commandedAll .shut (y.bothValves h) with mvs := m } pending unmanaged) frame
  · rw [valves, if_neg fun c => ?_]
    obtain ⟨own, bound⟩ := mem_bothValves.1 c
    exact out.elim bound fun f => f own
  · exact Bool.eq_iff_iff.2 ((marks u).1.trans (by simp [out]))
  · exact Bool.eq_iff_iff.2 ((marks u).2.trans (by simp [out]))
  · rw [valves, if_pos (mem_bothValves.2 ⟨own, bound⟩)]
  · exact (marks u).1.trans (by simp [own, Yard.reportedShut])
  · refine (marks u).2.trans (and_congr_right fun _ => ?_)
    rw [show ((y.commandedAll .shut (y.bothValves h)).withMarks pending unmanaged).mvs.shutPending = pending from rfl, (marks u).1]
    simp [own]

end

/-- A COUPLE, UNCOUPLE or SHUT HOLDER request gives what its function gives. -/
theorem givesPair {y y' : Yard} {h : Holder} {d : Decision} (hc : y.yds.desc = .committed) :
    (couplePair h.number y = (y', d) → Gives 0x46#8 .couple (formOf layObject) [some (h.number : Int)] y y' d) ∧
    (uncouplePair h.number y = (y', d) → Gives 0x47#8 .uncouple (formOf layObject) [some (h.number : Int)] y y' d) ∧
    (shutHolder h.number y = (y', d) → Gives 0x48#8 .shutHolder (formOf layObject) [some (h.number : Int)] y y' d) := by
  refine ⟨fun e => ?_, fun e => ?_, fun e => ?_⟩ <;>
    exact gives_of_operational hc (fun _ _ _ => rfl) (by simpa [natAt, intAt, fieldAt] using e)

/-- Settles O33, by the state of the pair, and by what the bound valves of the holder report. -/
theorem pairsAndShutHolder : Obligations.PairsAndShutHolder := by
  refine ⟨fun y h hc => ?_, fun y h hc => ?_⟩
  · have couple {y' : Yard} {d : Decision} := (givesPair (h := h) (y' := y') (d := d) hc).1
    have uncouple {y' : Yard} {d : Decision} := (givesPair (h := h) (y' := y') (d := d) hc).2.1
    refine ⟨fun hl => ⟨couple (pair_invalid hl).1, uncouple (pair_invalid hl).2⟩, fun hl ha => couple (couplePair_absent hl ha),
      fun hl hp hq ha => couple (couplePair_active hl hp hq ha), fun hl ha => uncouple (uncouplePair_active hl ha),
      fun hl hw => ⟨fun h1 => uncouple (uncouplePair_loose hl hw h1), fun h1 he => uncouple (uncouplePair_coupled hl hw h1 he)⟩,
      fun hl h1 hp hq hw => couple (couplePair_coupled hl h1 hp hq hw),
      fun hl h1 hp hq _ numbers hw he => couple (couplePair_loose hl h1 hp hq numbers hw he),
      fun hl ho => ⟨fun hp hq => couple ((pair_idle hl ho).1 hp hq), uncouple (pair_idle hl ho).2⟩⟩
  · have gives {y' : Yard} {d : Decision} := (givesPair (h := h) (y' := y') (d := d) hc).2.2
    refine ⟨fun hp => gives (shutHolder_absent hp), fun hp h1 hl => gives (shutHolder_follower hp h1 hl),
      fun hp lead ha => gives (shutHolder_busy hp lead ha), fun pi po ci co ri ro ti tq hp h1 free bi bo vi vo => ?_,
      fun hs shape hp free room => ?_⟩
    · have vali : y.mvs.valve ⟨h, .inlet⟩ = ⟨ci, ri, ti⟩ := vi
      have valo : y.mvs.valve ⟨h, .outlet⟩ = ⟨co, ro, tq⟩ := vo
      have bindi : y.yds.bind.valve ⟨h, .inlet⟩ = some pi := bi
      have bindo : y.yds.bind.valve ⟨h, .outlet⟩ = some po := bo
      have alone := shutHolder_alone hc hp h1 free bi bo vi vo
      refine ⟨fun ei eo apart unused room => ?_, ?_, fun ei eo => ?_⟩
      · have two : y.elsewhere .shut [⟨h, .inlet⟩, ⟨h, .outlet⟩] = [⟨h, .inlet⟩, ⟨h, .outlet⟩] := by
          simp [Yard.elsewhere, vali, valo, Commanded.asReport, ei.symm, eo.symm]
        have puti : y.commandPut .shut y.scs.commands ⟨h, .inlet⟩ = _ :=
          commandPut_append bindi (by simpa [vali] using ei) (fun c mc => (unused c mc).1) (by omega)
        have puto : y.commandPut .shut _ ⟨h, .outlet⟩ = _ :=
          commandPut_append (cs := y.scs.commands ++ [valveCommand .valveShut (⟨h, .inlet⟩, pi)]) bindo (by simpa [valo] using eo)
            (fun c mc => (List.mem_append.1 mc).elim (fun m => (unused c m).2) fun m => by
              rw [List.mem_singleton.1 m]; exact apart) (by simp; omega)
        refine gives ((alone (.inr (by rw [two]; exact room))).trans ?_)
        rw [puti, puto, if_neg (fun c => ei c.1), if_neg (fun c => ei c.1), List.append_assoc]
        rfl
      · rintro side pt c r er which unused room
        rcases which with ⟨rfl, rfl, rfl, rfl, eo⟩ | ⟨rfl, rfl, rfl, rfl, ei⟩
        · have one : y.elsewhere .shut [⟨h, .inlet⟩, ⟨h, .outlet⟩] = [⟨h, .inlet⟩] := by
            simp [Yard.elsewhere, vali, valo, Commanded.asReport, er.symm, eo]
          refine gives ((alone (.inr (by rw [one]; exact room))).trans ?_)
          rw [commandPut_append bindi (by simpa [vali] using er) unused room, commandPut_there (by simp [valo, eo]),
            if_neg (fun c => er c.1), if_neg (fun c => er c.1)]
          rfl
        · have one : y.elsewhere .shut [⟨h, .inlet⟩, ⟨h, .outlet⟩] = [⟨h, .outlet⟩] := by
            simp [Yard.elsewhere, vali, valo, Commanded.asReport, er.symm, ei]
          refine gives ((alone (.inr (by rw [one]; exact room))).trans ?_)
          rw [commandPut_there (v := ⟨h, .inlet⟩) (by simp [vali, ei]), commandPut_append bindo (by simpa [valo] using er) unused room,
            if_neg (fun c => er c.2), if_neg (fun c => er c.2)]
          rfl
      · subst ei eo
        have none : y.elsewhere .shut [⟨h, .inlet⟩, ⟨h, .outlet⟩] = [] := by
          simp [Yard.elsewhere, vali, valo, Commanded.asReport]
        refine gives ((alone (.inl none)).trans ?_)
        rw [commandPut_there (v := ⟨h, .inlet⟩) (by simp [vali]), commandPut_there (by simp [valo])]
        rfl
    · have worked : y.mvs.worked h = hs := by
        rcases shape with ⟨h1, rfl⟩ | ⟨h1, hl, rfl⟩
        · simp [Mvs.worked, h1]
        · simp [Mvs.worked, h1, hl]
      have lead : y.mvs.isCoupled h = true → h.leads = true := fun c => by
        rcases shape with ⟨h1, -⟩ | ⟨-, hl, -⟩
        · simp [h1] at c
        · exact hl
      obtain ⟨y', done, frame, commands, rest⟩ := shutHolder_gives hc hp lead worked free room
      obtain rfl := worked
      exact ⟨y', gives done, frame, commands.trans commandPut_bothValves, rest⟩

end Sys2Proof.Machine
end

section
/-! O36: the valve, run-up and adoption timers at their limits (R37, R49 to R51, R90, R92, R94). -/

namespace Sys2Proof.Machine

section
variable {y : Yard} {h : Holder} {v : Valve} {before after : List Order} {o : Order} {vs : List (Valve × Point)}

/-! ### A failed valve (R37, R51) -/

@[simp] theorem setTimer_orders (t : Timer) : (setTimer v t y).mvs.orders = y.mvs.orders := by simp [setTimer]
@[simp] theorem setTimer_coupled (t : Timer) : (setTimer v t y).mvs.coupled = y.mvs.coupled := by simp [setTimer]

theorem setTimer_reported (t : Timer) (w : Valve) : ((setTimer v t y).mvs.valve w).reported = (y.mvs.valve w).reported := by
  by_cases e : w = v
  · subst e; simp [setTimer]
  · simp [setTimer, Mvs.valve_setValve_ne _ _ e]

theorem setTimer_activeOrder (t : Timer) : (setTimer v t y).mvs.activeOrder h = y.mvs.activeOrder h := by
  unfold Mvs.activeOrder
  rw [setTimer_orders, Mvs.orderHolder_congr (setTimer_coupled t)]

/-- What CanShut reads: the description, the orders, the coupling, the reports and the commands. -/
theorem Yard.CanShut.of_eq {z : Yard} (c : y.CanShut before after o vs) (hy : z.yds = y.yds) (hs : z.scs.commands = y.scs.commands)
    (ho : z.mvs.orders = y.mvs.orders) (hc : z.mvs.coupled = y.mvs.coupled)
    (hr : ∀ w, (z.mvs.valve w).reported = (y.mvs.valve w).reported) : z.CanShut before after o vs where
  committed := by rw [hy]; exact c.committed
  listed := ho.trans c.listed
  numbers := c.numbers
  lead := by
    have e : z.mvs.isCoupled = y.mvs.isCoupled := by unfold Mvs.isCoupled; rw [hc]
    rw [e]; exact c.lead
  working := c.working
  used := by rw [Mvs.worked_congr hc]; exact c.used
  bound := by rw [hy]; exact c.bound
  reports x hx := by rw [hr]; exact c.reports x hx
  points := c.points
  free := by rw [hs]; exact c.free
  room := by rw [hs]; exact c.room
  drawing := c.drawing

/-- VALVE STUCK names the commanded position as it stands (R37). -/
theorem raiseStuck_eq {p : Commanded} (hp : (y.mvs.valve v).commanded = p) : raiseStuck v y =
    raiseNotice .valveStuck v.holder.number ((sideCode v.side + 256 * p.code : Nat) : Int) y := by rw [raiseStuck, hp]

theorem work_failed_released (free : y.mvs.activeOrder v.holder = none ∨ y.yds.bind.valve v = none) :
    work [.failed v] y =
      raiseNotice .valveStuck v.holder.number ((sideCode v.side + 256 * (y.mvs.valve v).commanded.code : Nat) : Int)
        (setShutPending [v.holder] false (setUnmanaged [v.holder] true (setTimer v .idle y))) := by
  have none : orderOfValve (setTimer v .idle y) v = none := orderOfValve_none.2 (by rw [setTimer_activeOrder]; exact free)
  obtain ⟨-, e⟩ | ⟨o, found, -⟩ := valveFails_cases v y
  · rw [raiseStuck_eq (p := (y.mvs.valve v).commanded) (by rcases v with ⟨k, s⟩; cases s <;> simp [setTimer, setShutPending,
      setUnmanaged, Yard.updMvs, Mvs.valve, Mvs.setValve])] at e
    exact work_once (by simp only [doAll, deed, e, List.append_nil]; rfl) (by simp)
  · simp [none] at found

/-- A failed valve of a working order that can be shut closes it (R51). -/
theorem work_failed_working (c : y.CanShut before after o vs) (hh : v.holder ∈ y.mvs.worked o.holder)
    (hb : y.yds.bind.valve v ≠ none) (others : ∀ x ∈ before ++ after, x.holder = o.holder → x.state = .waiting) :
    work [.failed v] y = (setTimer v .idle y).toClosing before after o vs .valveStuck := by
  have active : orderOfValve (setTimer v .idle y) v = some o := by
    rw [orderOfValve_bound (y := setTimer v .idle y) hb, setTimer_activeOrder]
    exact Mvs.activeOrder_of_worked c.listed others c.lead c.active hh
  have c' : (setTimer v .idle y).CanShut before after o vs :=
    c.of_eq rfl rfl (setTimer_orders _) (setTimer_coupled _) (setTimer_reported _)
  have fails : valveFails v y = closeOrder o.number .valveStuck (setTimer v .idle y) := by
    obtain ⟨none, -⟩ | ⟨x, found, ⟨closing, -⟩ | ⟨-, e⟩⟩ := valveFails_cases v y
    · simp [none] at active
    · rw [active] at found
      obtain rfl := Option.some.inj found
      rcases c.working with w | w <;> simp [w] at closing
    · rw [active] at found
      obtain rfl := Option.some.inj found
      exact e
  rw [← c'.work_close, work_eq, work_eq]
  simp only [doAll, deed, fails]

/-- A failed valve of a CLOSING order abandons it (R51). -/
theorem work_failed_closing (hl : y.mvs.orders = before ++ o :: after) (hh : v.holder ∈ y.mvs.worked o.holder)
    (hb : y.yds.bind.valve v ≠ none) (closing : o.state = .closing)
    (others : ∀ x ∈ before ++ after, x.number ≠ o.number ∧ (x.holder = o.holder → x.state = .waiting ∧ x.eligible = false))
    (lead : y.mvs.isCoupled o.holder = true → o.holder.leads = true) :
    work [.failed v] y =
      raiseNotice .valveStuck v.holder.number ((sideCode v.side + 256 * (y.mvs.valve v).commanded.code : Nat) : Int)
        (setUnmanaged (y.mvs.worked o.holder) true (raiseEnded o .valveStuck
          ((setTimer v .idle y).withOrders (before ++ after)))) := by
  have active : orderOfValve (setTimer v .idle y) v = some o := by
    rw [orderOfValve_bound (y := setTimer v .idle y) hb, setTimer_activeOrder]
    exact Mvs.activeOrder_of_worked hl (fun x hx e => ((others x hx).2 e).1) lead (by rw [closing]; rfl) hh
  have dropped : (setTimer v .idle y).updMvs (·.dropOrder o.number) = (setTimer v .idle y).withOrders (before ++ after) :=
    congrArg (fun m => ({ setTimer v .idle y with mvs := m } : Yard))
      (Mvs.dropOrder_listed ((setTimer_orders _).trans hl) fun x hx => (others x hx).1)
  obtain ⟨none, -⟩ | ⟨x, found, ⟨-, e⟩ | ⟨open_, -⟩⟩ := valveFails_cases v y
  · simp [none] at active
  · rw [active] at found
    obtain rfl := Option.some.inj found
    rw [dropped, Mvs.worked_congr (setTimer_coupled _), raiseStuck_eq (p := (y.mvs.valve v).commanded) (by
      rcases v with ⟨k, s⟩
      cases s <;> simp [setTimer, setUnmanaged, Yard.withOrders, raiseEnded, raiseNotice, Yard.updMvs, Mvs.valve, Mvs.setValve])] at e
    refine work_once (by simp only [doAll, deed, e, List.append_nil]; rfl) fun d hd => ?_
    obtain rfl := List.mem_singleton.1 hd
    refine tryActivate_none (Mvs.nextEligible_eq_none fun x hx e _ => ((others x hx).2 ?_).2)
    rw [e]
    refine (congrFun (Mvs.orderHolder_congr (m := y.mvs) ?_) o.holder).trans ?_
    · exact setTimer_coupled _
    exact Mvs.orderHolder_of_lead lead
  · rw [active] at found
    obtain rfl := Option.some.inj found
    exact absurd closing open_

/-- The timer at its limit: the valve has failed at that moment (R37, log 3). -/
theorem valveTimerOver_running {start limit : Nat} (ht : (y.mvs.valve v).timer = .running start limit) :
    valveTimerOver v y = work [.failed v] (y.reach (start + 24000 * limit)) := by
  rw [valveTimerOver, ht]
  simp only [Timer.deadline]
  rfl

/-! ### The run-up timer (R90, R92) -/

/-- Entry to SHORT writes the feed state and raises one notice, of the shortfall where it is known (R89, log 2, log 56). -/
theorem enterShort_spec {d : District} : ∃ (n : Nat) (q : Notices),
    enterShort d y = { (y.updDistrict d fun r => { r with feed := .short }) with freeDraws := n, notices := q } ∧
    ∀ t a, (y.dgu.districts.get d).target = some t → y.dgu.available = some a → n = y.freeDraws ∧
      q = y.notices.raise .districtShort d.number (t + (y.yds.feedSet.get d).drop - a) (y.gdc.clock.map (·.day))
        (y.gdc.clock.map (·.period)) := by
  have kept : ((y.updDistrict d fun r => { r with feed := .short }).dgu.districts.get d).target =
      (y.dgu.districts.get d).target := by simp [Yard.updDistrict, Yard.updDgu]
  by_cases known : ∃ t a, (y.dgu.districts.get d).target = some t ∧ y.dgu.available = some a
  · obtain ⟨t, a, ht, ha⟩ := known
    have told : enterShort d y = raiseNotice .districtShort d.number (t + (y.yds.feedSet.get d).drop - a)
        (y.updDistrict d fun r => { r with feed := .short }) := by
      have there : (y.updDistrict d fun r => { r with feed := .short }).dgu.available = some a := ha
      simp only [enterShort, kept, ht, there]
      rfl
    refine ⟨_, _, told, fun t' a' ht' ha' => ?_⟩
    cases ht.symm.trans ht'
    cases ha.symm.trans ha'
    exact ⟨rfl, rfl⟩
  · have drawn : enterShort d y = raiseNotice .districtShort d.number (Config.unstatedShortfall y.freeDraws)
        { (y.updDistrict d fun r => { r with feed := .short }) with freeDraws := y.freeDraws + 1 } := by
      unfold enterShort
      dsimp only
      split
      · next t a ht ha => exact absurd ⟨t, a, kept ▸ ht, ha⟩ known
      · rfl
    exact ⟨_, _, drawn, fun t a ht ha => absurd ⟨t, a, ht, ha⟩ known⟩

/-- The command list with the STOP of a booster put, where it is bound (R90, log 42). -/
def Yard.stopPut (y : Yard) (d : District) : List Command :=
  match y.yds.bind.booster.get d with
  | some p => (putInto y.scs.commands p .boosterStop 0 (.booster d)).1
  | none => y.scs.commands

theorem putStop_eq {d : District} : putStop d y = { y with scs := { y.scs with commands := y.stopPut d } } := by
  unfold putStop Yard.stopPut
  cases y.yds.bind.booster.get d <;> rfl

/-- A booster failure: what it writes, the STOP put, and the notices (R90, log 42, log 56). -/
theorem boosterFails_spec {d : District} {c : BoosterCause} : ∃ (n : Nat) (q : Notices),
    boosterFails d c y = { y with
      dgu := { y.dgu with
        districts := y.dgu.districts.set d
          { y.dgu.districts.get d with boosterCmd := .stop, runUp := .idle, failed := true, feed := .short } }
      scs := { y.scs with commands := y.stopPut d }
      freeDraws := n
      notices := q } ∧
    ∀ t a, (y.dgu.districts.get d).target = some t → y.dgu.available = some a → n = y.freeDraws ∧
      q = (y.notices.raise .boosterFailed d.number (c.code : Int) (y.gdc.clock.map (·.day))
        (y.gdc.clock.map (·.period))).raise .districtShort d.number (t + (y.yds.feedSet.get d).drop - a)
          (y.gdc.clock.map (·.day)) (y.gdc.clock.map (·.period)) := by
  obtain ⟨n, q, short, known⟩ := enterShort_spec (d := d) (y := raiseBooster d c (putStop d (y.updDistrict d fun r =>
    { r with boosterCmd := .stop, runUp := .idle, failed := true })))
  rw [putStop_eq] at known
  refine ⟨n, q, ?_, fun t a ht ha => known t a (by simpa [raiseBooster, raiseNotice, Yard.updDistrict, Yard.updDgu] using ht) ha⟩
  refine short.trans ?_
  rw [putStop_eq]
  simp [raiseBooster, raiseNotice, Yard.updDistrict, Yard.updDgu, Districts.set_set]
  rfl

theorem runUpExpiry_boosting {d : District} {start limit : Nat} (running : (y.dgu.districts.get d).runUp = .running start limit)
    (feed : (y.dgu.districts.get d).feed = .boosting) :
    runUpExpiry d y = boosterFails d .runUp ((y.reach (start + 24000 * limit)).updDistrict d fun r => { r with runUp := .idle }) := by
  simp only [runUpExpiry, running, Timer.deadline, Yard.updDistrict, Yard.updDgu, Yard.reach, Districts.get_set, feed]
  rfl

theorem runUpExpiry_unboosting {d : District} {start limit : Nat} (running : (y.dgu.districts.get d).runUp = .running start limit)
    (feed : (y.dgu.districts.get d).feed = .unboosting) :
    runUpExpiry d y = stopFails d .stopFailed ((y.reach (start + 24000 * limit)).updDistrict d fun r => { r with runUp := .idle }) := by
  simp only [runUpExpiry, running, Timer.deadline, Yard.updDistrict, Yard.updDgu, Yard.reach, Districts.get_set, feed]
  rfl

end

/-- Settles O36, by what the valve belongs to and by the feed state of the district. -/
theorem timersExpire : Obligations.TimersExpire := by
  refine ⟨fun s h side start limit on running => ?_, fun s d start limit on => ⟨fun running feed => ?_, fun running feed => ?_,
    fun running => ?_⟩⟩
  · have event {z : Yard} (e : work [.failed ⟨h, side⟩] (s.yard.reach (start + 24000 * limit)) = z) :
        exec (.valveTimerExpiry h side) s = concluded { s with yard := z } :=
      congrArg concluded ((if_pos on).trans (by rw [valveTimerOver_running running, e]))
    intro y r
    refine ⟨fun free => event ?_, fun o before after vs c hh hb others => event ?_,
      fun o before after hl hh hb closing others lead => event ?_⟩
    · rw [work_failed_released (v := ⟨h, side⟩) (y := y.reach _) free]
      cases side <;> rfl
    · have c' : (y.reach (start + 24000 * limit)).CanShut before after o vs := c.of_eq rfl rfl rfl rfl fun _ => rfl
      exact work_failed_working c' hh hb others
    · rw [work_failed_closing (y := y.reach _) hl hh hb closing others lead]
      cases side <;> rfl
  · obtain ⟨n, q, fails, known⟩ := boosterFails_spec (d := d) (c := .runUp)
      (y := (s.yard.reach (start + 24000 * limit)).updDistrict d fun r => { r with runUp := .idle })
    have set : ∀ r', ((s.yard.dgu.districts.set d { s.yard.dgu.districts.get d with runUp := .idle }).set d r') =
      s.yard.dgu.districts.set d r' := fun _ => Districts.set_set _ _ _ _
    refine ⟨_, congrArg concluded ((if_pos on).trans (by rw [runUpExpiry_boosting running feed])), ?_⟩
    rw [fails]
    simp only [Yard.updDistrict, Yard.updDgu, Yard.reach, Districts.get_set, set] at known ⊢
    refine ⟨trivial, fun p hp => ?_, fun hp => ?_, fun t a ht ha => ?_, trivial⟩
    · simp [Yard.stopPut, hp]
    · simp [Yard.stopPut, hp]
    · exact known t a ht ha
  · refine congrArg concluded ((if_pos on).trans ?_)
    rw [runUpExpiry_unboosting running feed]
    simp [stopFails, raiseBooster, raiseNotice, Yard.updDistrict, Yard.updDgu, Yard.reach, Districts.set_set, BoosterCause.code]
  · refine congrArg concluded ((if_pos on).trans ?_)
    simp only [adoptionExpiry, running, Timer.deadline]
    rfl

end Sys2Proof.Machine
end

section
/-! O34: the yard trips (R59 to R62). -/

namespace Sys2Proof.Machine

section
variable {y z : Yard} {before after l : List Order} {o : Order} {vs : List (Valve × Point)} {h : Holder} {c : TripCause}

/-! ### What the trip leaves of the trip state -/

/-- The trip state and its cause, which no deed touches. -/
def Yard.trip (y : Yard) : Bool × Option TripCause := (y.mvs.tripped, y.mvs.tripCause)

@[simp] theorem Yard.updMvs_trip {f : Mvs → Mvs} (hf : ∀ m, (f m).tripped = m.tripped ∧ (f m).tripCause = m.tripCause) :
    (y.updMvs f).trip = y.trip := by
  simp [Yard.trip, Yard.updMvs, hf]

@[simp] theorem raiseNotice_trip (k : NoticeKind) (n : Nat) (v : Int) : (raiseNotice k n v y).trip = y.trip := rfl
@[simp] theorem raiseEnded_trip (r : EndReason) : (raiseEnded o r y).trip = y.trip := rfl
@[simp] theorem raiseStuck_trip (v : Valve) : (raiseStuck v y).trip = y.trip := rfl
@[simp] theorem setUnmanaged_trip (hs : List Holder) (b : Bool) : (setUnmanaged hs b y).trip = y.trip := rfl
@[simp] theorem setShutPending_trip (hs : List Holder) (b : Bool) : (setShutPending hs b y).trip = y.trip := rfl
@[simp] theorem setTimer_trip (v : Valve) (t : Timer) : (setTimer v t y).trip = y.trip := by simp [setTimer]
@[simp] theorem updOrder_trip (n : Nat) (f : Order → Order) : (y.updMvs (·.updOrder n f)).trip = y.trip := rfl
@[simp] theorem dropOrder_trip (n : Nat) : (y.updMvs (·.dropOrder n)).trip = y.trip := rfl

@[simp] theorem commandValve_trip (v : Valve) (p : Commanded) : (commandValve v p y).1.trip = y.trip := by
  rw [Yard.trip, commandValve_mvs]
  split <;> simp [Yard.trip, Mvs.commandTo]

@[simp] theorem commandAll_trip (p : Commanded) (vs : List Valve) : (commandAll p vs y).1.trip = y.trip :=
  commandAll_keeps (P := fun z => z.trip = y.trip) (fun _ _ hz => (commandValve_trip _ _).trans hz) vs rfl

@[simp] theorem closeOrder_trip (n : Nat) (r : EndReason) : (closeOrder n r y).1.trip = y.trip := by
  unfold closeOrder
  repeat' split
  all_goals simp

@[simp] theorem valveFails_trip (v : Valve) : (valveFails v y).1.trip = y.trip := by
  obtain ⟨_, e⟩ | ⟨o, _, ⟨_, e⟩ | ⟨_, e⟩⟩ := valveFails_cases v y <;> rw [e] <;> simp

@[simp] theorem runOrder_trip (n : Nat) : (runOrder n y).1.trip = y.trip := by
  unfold runOrder
  repeat' split
  all_goals simp

@[simp] theorem finishOrder_trip (n : Nat) (r : EndReason) : (finishOrder n r y).1.trip = y.trip := by
  unfold finishOrder
  repeat' split
  all_goals simp

@[simp] theorem completeOrder_trip (n : Nat) : (completeOrder n y).1.trip = y.trip := by
  unfold completeOrder
  repeat' split
  all_goals simp

@[simp] theorem tryActivate_trip : (tryActivate h y).1.trip = y.trip := by
  unfold tryActivate
  dsimp only
  repeat' split
  all_goals simp

@[simp] theorem testShutHolder_trip : (testShutHolder h y).trip = y.trip := by
  unfold testShutHolder
  split <;> simp

@[simp] theorem lagOne_trip (best : Int) : (lagOne best y h).trip = y.trip := by
  unfold lagOne
  dsimp only
  repeat' split
  all_goals simp

@[simp] theorem lagTest_trip : (lagTest y).trip = y.trip := by
  unfold lagTest
  split
  · exact foldl_keeps Yard.trip (fun _ _ => lagOne_trip _) _ _
  · rfl

@[simp] theorem deed_trip (d : Deed) : (deed d y).1.trip = y.trip := by
  cases d with
  | drop n r => simp only [deed]; split <;> simp
  | _ => simp [deed]

theorem tripYard_trip (c : TripCause) (y : Yard) : (tripYard c y).trip = (true, some c) := by
  unfold tripYard
  exact work_view Yard.trip (fun d z => deed_trip d) _ _

/-! ### The orders that wait end first (R62, log 20) -/

/-- The yard tripped for a cause, ORDER ENDED raised for some orders. -/
def Yard.trippedBy (y : Yard) (c : TripCause) (l : List Order) : Yard :=
  { y with
    mvs := { y.mvs with tripped := true, tripCause := some c }
    notices := l.foldl
      (fun q o => q.raise .orderEnded o.number ((7 + 256 * o.standing : Nat) : Int) (y.gdc.clock.map (·.day))
        (y.gdc.clock.map (·.period)))
      (y.notices.raise .trip 0 (c.code : Int) (y.gdc.clock.map (·.day)) (y.gdc.clock.map (·.period))) }

theorem tripYard_work (numbers : y.mvs.orders.Pairwise fun a b => a.number ≠ b.number) (c : TripCause) :
    tripYard c y = work (y.mvs.orders.flatMap tripActive)
      ((y.withOrders (y.mvs.orders.filter fun o => !(o.state == .waiting))).trippedBy c
        (y.mvs.orders.filter (·.state == .waiting))) := by
  rw [tripYard_eq numbers, work_eq, ← Mvs.filter_rest numbers]
  rfl

/-- The yard trips while every order waits (R62). -/
theorem tripYard_waiting (hw : ∀ o ∈ y.mvs.orders, o.state = .waiting)
    (numbers : y.mvs.orders.Pairwise fun a b => a.number ≠ b.number) (c : TripCause) :
    tripYard c y = (y.withOrders []).trippedBy c y.mvs.orders := by
  have rest : y.mvs.orders.filter (fun o => !(o.state == .waiting)) = [] :=
    List.filter_eq_nil_iff.2 fun o mo => by simp [hw o mo]
  have all : y.mvs.orders.filter (·.state == .waiting) = y.mvs.orders := List.filter_eq_self.2 fun o mo => by simp [hw o mo]
  have none : y.mvs.orders.flatMap tripActive = [] := List.flatMap_eq_nil_iff.2 fun o mo => by simp [tripActive, hw o mo]
  rw [tripYard_work numbers, rest, all, none, work_nil]

/-- One active order beside those that wait. -/
structure Mvs.OneActive (m : Mvs) (before after : List Order) (o : Order) : Prop where
  listed : m.orders = before ++ o :: after
  waits : ∀ x ∈ before ++ after, x.state = .waiting ∧ x.number ≠ o.number
  numbers : (before ++ after).Pairwise fun a b => a.number ≠ b.number
  active : o.state ≠ .waiting

theorem Mvs.OneActive.pairwise {m : Mvs} (a : m.OneActive before after o) : m.orders.Pairwise fun a b => a.number ≠ b.number := by
  have symm : Std.Symm fun x y : Order => x.number ≠ y.number := ⟨fun _ _ => Ne.symm⟩
  rw [a.listed, List.perm_middle.pairwise_iff fun {_ _} => symm.symm _ _]
  exact List.pairwise_cons.2 ⟨fun x hx => ((a.waits x hx).2).symm, a.numbers⟩

/-- The trip beside one active order: what is left to do is done on a list that holds it alone. -/
theorem tripYard_active (a : y.mvs.OneActive before after o) (c : TripCause) :
    tripYard c y = work (tripActive o) ((y.withOrders [o]).trippedBy c (before ++ after)) := by
  have waits (l : List Order) (hl : ∀ x ∈ l, x ∈ before ++ after) : ∀ x ∈ l, x.state = .waiting := fun x hx => (a.waits x (hl x hx)).1
  have wb := waits before fun x hx => List.mem_append_left _ hx
  have wa := waits after fun x hx => List.mem_append_right _ hx
  have drop (l : List Order) (hl : ∀ x ∈ l, x.state = .waiting) : l.filter (fun o => !(o.state == .waiting)) = [] ∧
      l.filter (·.state == .waiting) = l ∧ l.flatMap tripActive = [] :=
    ⟨List.filter_eq_nil_iff.2 fun x hx => by simp [hl x hx], List.filter_eq_self.2 fun x hx => by simp [hl x hx],
      List.flatMap_eq_nil_iff.2 fun x hx => by simp [tripActive, hl x hx]⟩
  have rest : y.mvs.orders.filter (fun o => !(o.state == .waiting)) = [o] := by
    simp [a.listed, (drop before wb).1, (drop after wa).1, a.active]
  have ended : y.mvs.orders.filter (·.state == .waiting) = before ++ after := by
    simp [a.listed, (drop before wb).2.1, (drop after wa).2.1, a.active]
  have acts : y.mvs.orders.flatMap tripActive = tripActive o := by
    simp [a.listed, (drop before wb).2.2, (drop after wa).2.2]
  rw [tripYard_work a.pairwise, rest, ended, acts]

/-- What commanding one valve SHUT leaves, commanding several leaves. -/
theorem shut_fold_hom {f : Mvs → Mvs} (hf : ∀ m v, (f m).commandTo .shut v = f (m.commandTo .shut v))
    (vs : List (Valve × Point)) (m : Mvs) :
    vs.foldl (fun m x => m.setValve x.1 { m.valve x.1 with commanded := .shut, timer := .idle }) (f m) =
      f (vs.foldl (fun m x => m.setValve x.1 { m.valve x.1 with commanded := .shut, timer := .idle }) m) :=
  List.foldl_hom f fun m x => hf m x.1

/-- A working FILL or FLOAT closes with TRIP (R62). -/
theorem tripYard_working (a : y.mvs.OneActive before after o) (f : o.kind.fills = true) (s : y.CanShut before after o vs) :
    tripYard c y = (y.toClosing [] [] o vs .trip).trippedBy c (before ++ after) := by
  have acts : tripActive o = [.close o.number .trip] := by
    rcases s.working with w | w <;> simp [tripActive, w, f]
  have alone : ((y.withOrders [o]).trippedBy c (before ++ after)).CanShut [] [] o vs :=
    ⟨s.committed, rfl, by simp, s.lead, s.working, s.used, s.bound, s.reports, s.points, s.free, s.room, by simp⟩
  rw [tripYard_active a, acts, alone.work_close]
  have fold := shut_fold_hom (f := fun m => { m with tripped := true, tripCause := some c, orders := [o] })
    (fun m v => by rcases v with ⟨k, s⟩; cases s <;> rfl) vs y.mvs
  unfold Yard.toClosing Yard.trippedBy Yard.withOrders
  dsimp only at fold ⊢
  rw [fold]

/-- A CLOSING one takes the reason TRIP (R62). -/
theorem tripYard_closing (a : y.mvs.OneActive before after o) (f : o.kind.fills = true) (s : o.state = .closing) :
    tripYard c y = (y.withOrders [{ o with reason := some .trip }]).trippedBy c (before ++ after) := by
  have acts : tripActive o = [.reReason o.number .trip] := by simp [tripActive, s, f]
  rw [tripYard_active a, acts]
  refine work_once (ds' := []) ?_ (by simp)
  simp [doAll, deed, Yard.updMvs, Mvs.updOrder, Yard.withOrders, Yard.trippedBy, s]

/-- A DRAW continues (R62). -/
theorem tripYard_draw (a : y.mvs.OneActive before after o) (f : o.kind = .draw) :
    tripYard c y = (y.withOrders [o]).trippedBy c (before ++ after) := by
  have acts : tripActive o = [] := by cases e : o.state <;> simp [tripActive, e, f, OrderKind.fills]
  rw [tripYard_active a, acts, work_nil]

/-! ### The reading over the top (R45, R61) -/

/-- Where no order waits, a reading makes none eligible and none activates. -/
theorem whenReading_active (hw : ∀ x ∈ y.mvs.orders, x.state ≠ .waiting) : whenReading h y = y := by
  have unmet : ∀ x ∈ y.mvs.orders, whenMet h (travelOf y h) x = false := fun x mx => by simp [whenMet, hw x mx]
  have none : y.mvs.orders.filter (whenMet h (travelOf y h)) = [] :=
    List.filter_eq_nil_iff.2 fun x hx => by simp [unmet x hx]
  have stands : (y.mvs.orders.map fun x => if whenMet h (travelOf y h) x then { x with eligible := true } else x) =
      y.mvs.orders :=
    (List.map_congr_left fun x hx => if_neg (by simp [unmet x hx])).trans (List.map_id _)
  unfold whenReading Yard.updMvs
  dsimp only
  rw [none, stands, List.map_nil, List.nil_append]
  exact work_still fun d hd => by
    obtain rfl := List.mem_singleton.1 hd
    exact tryActivate_none (Mvs.nextEligible_eq_none fun x hx _ c => absurd c (hw x hx))

/-- The yard once the tests of R45 on the active order of the holder read are made. -/
def Yard.tested (y : Yard) (h : Holder) (y' : Yard) : Prop :=
  (y' = y ∧ ∀ x, y.mvs.activeOrder h = some x → x.state = .closing) ∨
    ∃ x, y.mvs.activeOrder h = some x ∧ (x.state = .opening ∨ x.state = .running) ∧ y' = orderReading h x y

/-- A reading over the top, after the tests of R45, trips the yard (R61, log 22). -/
theorem mvsReading_overTop {w y' : Yard} {a : Sampled} {g : Geometry} (hc : y.yds.desc = .committed)
    (ht : (y.hsu.holders.get h).travel = some a) (hg : y.yds.geometry.get h = some g) (full : g.full ≤ a.value)
    (first : y.tested h y') (trips : tripYard (.overTop h) y' = w) (active : ∀ x ∈ w.mvs.orders, x.state ≠ .waiting) :
    mvsReading h y = w.updMvs fun m => { m with prevTravel := m.prevTravel.set h (some a.value) } := by
  have frame : y'.unmoved = y.unmoved := by
    obtain ⟨rfl, -⟩ | ⟨x, -, -, rfl⟩ := first
    · rfl
    · exact orderReading_unmoved y h x
  have yds : y'.yds = y.yds := (congrArg Yard.yds frame :)
  have travel (z : Yard) (e : z.unmoved = y.unmoved) : travelOf z h = some a.value := by
    simp only [travelOf, Yard.hsu_of_unmoved e, ht, Option.map_some]
  have top : overTop h y' = w := by
    rw [← trips]
    have committed : y'.isCommitted = true := isCommitted_of (yds ▸ hc)
    have geometry : y'.yds.geometry.get h = some g := yds ▸ hg
    simp only [overTop, committed, if_true, travel y' frame, geometry, if_pos full]
  have tail : mvsReading h y = (whenReading h (overTop h y')).updMvs fun m =>
      { m with prevTravel := m.prevTravel.set h (travelOf (whenReading h (overTop h y')) h) } := by
    unfold mvsReading
    dsimp only
    obtain ⟨rfl, closing⟩ | ⟨x, found, working, rfl⟩ := first
    · cases e : y'.mvs.activeOrder h with
      | none => rfl
      | some x => simp [closing x e]
    · rw [found]
      have : (x.state == .opening || x.state == .running) = true := by simpa using working
      simp only [this, if_true]
  rw [tail, top, whenReading_active active, travel w]
  rw [← trips]
  exact (tripYard_unmoved _ _).trans frame

/-- A FILL or FLOAT read at its top stop closes with TOP STOP (R45). -/
theorem orderReading_top {a : Sampled} {g : Geometry} (ht : (y.hsu.holders.get h).travel = some a)
    (hg : y.yds.geometry.get h = some g) (f : o.kind.fills = true) (top : g.topStop ≤ a.value) :
    orderReading h o y = work [.close o.number .topStop] y := by
  have travel : travelOf y h = some a.value := by simp [travelOf, ht]
  have draw : o.kind ≠ .draw := by rintro e; simp [e, OrderKind.fills] at f
  simp only [orderReading, travel, limitMet_top travel hg draw top]

/-- The active order that works a holder is the one that is active (R42). -/
theorem Mvs.OneActive.found {m : Mvs} (a : m.OneActive before after o) {x : Order} (found : m.activeOrder h = some x) :
    x = o ∧ h ∈ m.worked o.holder := by
  have mx := List.mem_of_find?_eq_some found
  have test := List.find?_some found
  simp only [Bool.and_eq_true, beq_iff_eq] at test
  have e : x = o := by
    by_contra ne
    rw [a.listed] at mx
    have other : x ∈ before ++ after := by simpa [ne] using mx
    simp [(a.waits x other).1, OrderState.active] at test
  subst e
  exact ⟨rfl, test.2 ▸ Mvs.mem_worked _ _⟩

/-- A reading of a holder that the working order does not work, or one that finds it CLOSING, makes no test of R45. -/
theorem Mvs.OneActive.untested (a : y.mvs.OneActive before after o) (c : h ∉ y.mvs.worked o.holder ∨ o.state = .closing) :
    y.tested h y :=
  .inl ⟨rfl, fun _ found => (a.found found).1 ▸ c.resolve_left fun out => out (a.found found).2⟩

/-- The watch that has tripped the yard stands SPENT, at the moment of its expiry (R59, log 3). -/
def Yard.watchSpent (y : Yard) (t : Time) : Yard := (y.reach t).updMvs fun m => { m with watch := .spent }

theorem Mvs.OneActive.watchSpent (a : y.mvs.OneActive before after o) (t : Time) :
    (y.watchSpent t).mvs.OneActive before after o := ⟨a.listed, a.waits, a.numbers, a.active⟩

theorem toClosing_watchSpent (r : EndReason) (t : Time) :
    (y.watchSpent t).toClosing before after o vs r = (y.toClosing before after o vs r).watchSpent t := by
  have fold := shut_fold_hom (f := fun m => { m with watch := .spent }) (fun m v => by rcases v with ⟨k, s⟩; cases s <;> rfl)
    vs y.mvs
  unfold Yard.toClosing Yard.watchSpent Yard.updMvs Yard.reach
  dsimp only at fold ⊢
  rw [fold]

/-- The expiry of the watch trips the yard with the cause INPUT (R59). -/
theorem watchExpiry_trips {s : State} {since : Nat} (on : s.powered = true) (hw : s.yard.mvs.watch = .running since)
    (trips : tripYard .input (s.yard.watchSpent (since + 4800)) = z) :
    exec .yardTripWatchExpiry s = concluded { s with yard := z } := by
  refine congrArg concluded ((if_pos on).trans ?_)
  rw [tripWatchOver, hw, ← trips]
  rfl

end

/-- Settles O34, by the state and the kind of the active order. -/
theorem yardTrips : Obligations.YardTrips := by
  refine ⟨fun y hc => ?_, fun y h a g hc ho ht hg full => ?_, fun y before after o hc hl waits numbers _ => ?_,
    fun y waits numbers _ => ⟨fun hc => ?_, ?_⟩⟩
  · have trip := tripYard_trip .request y
    exact ⟨_, gives_of_operational hc (fun _ _ _ => rfl) rfl, congrArg (·.1) trip, congrArg (·.2) trip⟩
  · rw [mvsReading_overTop hc ht hg full (.inl ⟨rfl, by simp [activeOrder_idle ho]⟩) (tripYard_idle ho _)]
    · rfl
    · simp [ho]
  · intro tripped left trips
    have both {z : Yard} (act : o.state ≠ .waiting) (all : ∀ c, tripYard c y = tripped c z)
        (watched : ∀ t, tripYard .input (y.watchSpent t) = (tripped .input z).watchSpent t)
        (reads : ∀ h a g, (y.hsu.holders.get h).travel = some a → y.yds.geometry.get h = some g → g.full ≤ a.value →
          h ∉ y.mvs.worked o.holder ∨ o.state = .closing ∨ (o.kind.fills = true ∧ g.topStop ≤ a.value) →
          ∃ y', y.tested h y' ∧ tripYard (.overTop h) y' = tripped (.overTop h) z)
        (orders : ∀ x ∈ z.mvs.orders, x.state ≠ .waiting) (now : z.now = y.now)
        (prev : z.mvs.prevTravel = y.mvs.prevTravel) : trips z := by
      refine ⟨gives_of_operational hc (fun _ _ _ => rfl) (congrArg (·, okAnswer) (all _)), fun s since e on hw => ?_,
        fun h a g ht hg full c => ?_⟩
      · subst e
        rw [watchExpiry_trips on hw (watched _), Yard.watchSpent, Yard.reach, show (tripped .input z).now = s.yard.now from now]
        rfl
      · obtain ⟨y', first, last⟩ := reads h a g ht hg full c
        rw [mvsReading_overTop hc ht hg full first last orders, ← prev]
        rfl
    refine ⟨fun vs f s => ?_, fun f closing => ?_, fun draw act => ?_⟩
    · have one : y.mvs.OneActive before after o :=
        ⟨hl, waits, numbers, by rcases s.working with w | w <;> simp [w]⟩
      have spent (t : Time) : (y.watchSpent t).CanShut before after o vs := s.of_eq rfl rfl rfl rfl fun _ => rfl
      refine both one.active (fun c => tripYard_working one f s) (fun t => ?_) (fun h a g ht hg full c => ?_) (by simp [Yard.toClosing])
        rfl (Yard.toClosing_prevTravel _)
      · rw [tripYard_working (one.watchSpent t) f (spent t), toClosing_watchSpent]
        rfl
      · by_cases own : h ∈ y.mvs.worked o.holder
        · have top : o.kind.fills = true ∧ g.topStop ≤ a.value := (c.resolve_left (not_not_intro own)).resolve_left fun c => by
            rcases s.working with w | w <;> simp [w] at c
          have found := Mvs.activeOrder_of_worked hl (fun x hx _ => (waits x hx).1) s.lead s.active own
          have closed := s.work_close .topStop
          refine ⟨_, .inr ⟨o, found, s.working, rfl⟩, ?_⟩
          rw [orderReading_top ht hg f top.2, closed]
          exact tripYard_closing (o := { o with state := .closing, reason := some .topStop }) ⟨rfl, waits, numbers, by simp⟩ f rfl
        · exact ⟨y, one.untested (.inl own), tripYard_working one f s⟩
    · have one : y.mvs.OneActive before after o := ⟨hl, waits, numbers, by simp [closing]⟩
      exact both one.active (fun c => tripYard_closing one f closing)
        (fun t => tripYard_closing (one.watchSpent t) f closing)
        (fun h a g _ _ _ _ => ⟨y, one.untested (.inr closing), tripYard_closing one f closing⟩) (by simp [left, closing]) rfl rfl
    · have one : y.mvs.OneActive before after o := ⟨hl, waits, numbers, act⟩
      exact both act (fun c => tripYard_draw one draw) (fun t => tripYard_draw (one.watchSpent t) draw)
        (fun h a g _ _ _ c => ⟨y, one.untested (c.imp_right fun c => c.resolve_right fun f => by simp [draw, OrderKind.fills] at f),
          tripYard_draw one draw⟩) (by simpa [left] using act) rfl rfl
  · refine gives_of_operational hc (fun _ _ _ => rfl) (congrArg (·, okAnswer) ?_)
    exact tripYard_waiting waits numbers _
  · rintro s since rfl on hw
    exact watchExpiry_trips on hw (tripYard_waiting (y := s.yard.watchSpent _) waits numbers _)

end Sys2Proof.Machine
end

section
/-! SUPPORT. Activation (R41 to R43, R57). -/

namespace Sys2Proof.Machine

section
variable {y : Yard} {before after : List Order} {o : Order} {h : Holder} {p : Commanded} {vs : List (Valve × Point)}
  {k : OrderKind} {hs : List Holder}

/-! ### The limits met among holders (R43) -/

/-- One of some holders has an accepted travel of which a test of its geometry holds. -/
def Yard.meets (y : Yard) (hs : List Holder) (test : Geometry → Int → Prop) : Prop :=
  ∃ x ∈ hs, ∃ a g, (y.hsu.holders.get x).travel = some a ∧ y.yds.geometry.get x = some g ∧ test g a.value

theorem any_atTop : (hs.any fun x => (travelOf y x).elim false (atTop y x)) = true ↔ y.meets hs fun g t => g.topStop ≤ t := by
  refine List.any_eq_true.trans (exists_congr fun x => and_congr_right fun _ => ?_)
  unfold atTop travelOf
  cases (y.hsu.holders.get x).travel <;> cases y.yds.geometry.get x <;> simp

theorem any_atLanding : (hs.any fun x => (travelOf y x).elim false (atLanding y x)) = true ↔ y.meets hs fun g t => t ≤ g.landing := by
  refine List.any_eq_true.trans (exists_congr fun x => and_congr_right fun _ => ?_)
  unfold atLanding travelOf
  cases (y.hsu.holders.get x).travel <;> cases y.yds.geometry.get x <;> simp

theorem limitMet_eq : limitMet y k hs =
    if k.fills && hs.any (fun x => (travelOf y x).elim false (atTop y x)) then some .topStop
    else if k.draws && hs.any (fun x => (travelOf y x).elim false (atLanding y x)) then some .landing
    else none := by
  unfold limitMet
  dsimp only
  congr!
  · next x => cases travelOf y x <;> rfl
  · next x => cases travelOf y x <;> rfl

theorem limitMet_meets_top (f : k.fills = true) (top : y.meets hs fun g t => g.topStop ≤ t) : limitMet y k hs = some .topStop := by
  rw [limitMet_eq, f, any_atTop.2 top]
  rfl

theorem limitMet_meets_landing (high : ¬(k.fills = true ∧ y.meets hs fun g t => g.topStop ≤ t)) (d : k.draws = true)
    (low : y.meets hs fun g t => t ≤ g.landing) : limitMet y k hs = some .landing := by
  rw [limitMet_eq, if_neg (by rwa [Bool.and_eq_true, any_atTop]), d, any_atLanding.2 low]
  rfl

theorem limitMet_meets_none (high : ¬(k.fills = true ∧ y.meets hs fun g t => g.topStop ≤ t))
    (low : ¬(k.draws = true ∧ y.meets hs fun g t => t ≤ g.landing)) : limitMet y k hs = none := by
  rw [limitMet_eq, if_neg (by rwa [Bool.and_eq_true, any_atTop]), if_neg (by rwa [Bool.and_eq_true, any_atLanding])]

/-! ### Valves that report SHUT commanded SHUT (R34) -/

/-- What commanding one valve leaves, commanding several leaves. -/
theorem Mvs.commandTo_fold_hom {f : Mvs → Mvs} (hf : ∀ m v, (f m).commandTo p v = f (m.commandTo p v)) (us : List Valve) (m : Mvs) :
    us.foldl (Mvs.commandTo p) (f m) = f (us.foldl (Mvs.commandTo p) m) :=
  List.foldl_hom f fun m x => hf m x

theorem commandAll_reporting {us : List Valve} (hc : y.yds.desc = .committed) (hb : ∀ v ∈ us, y.yds.bind.valve v ≠ none)
    (hr : ∀ v ∈ us, (y.mvs.valve v).reported = .shut) :
    commandAll .shut us y = ({ y with mvs := us.foldl (Mvs.commandTo .shut) y.mvs }, []) := by
  have none : y.elsewhere .shut us = [] := List.filter_eq_nil_iff.2 fun v hv => by simp [hr v hv, Commanded.asReport]
  have kept : us.foldl (y.commandPut .shut) y.scs.commands = y.scs.commands := by
    clear hb none
    induction us with
    | nil => rfl
    | cons v us ih =>
      rw [List.foldl_cons, commandPut_there (hr v List.mem_cons_self), ih fun w hw => hr w (List.mem_cons_of_mem _ hw)]
  rw [commandAll_room hc hb (.inl none), Yard.commandedAll, kept]

/-! ### An order that can activate (R42, R43) -/

/-- The same order made eligible. -/
def Order.ready (o : Order) : Order := { o with eligible := true }

theorem Yard.CanOpen.orderHolder (c : y.CanOpen before after o p vs) (hh : h ∈ y.mvs.worked o.holder) :
    y.mvs.orderHolder h = o.holder := Mvs.orderHolder_of_worked c.lead hh

/-- No order of its holder is active, and it is the one to activate. -/
theorem Yard.CanOpen.next (c : y.CanOpen before after o p vs) :
    (y.withOrders (before ++ o.ready :: after)).mvs.activeOrder o.holder = none ∧
      (y.withOrders (before ++ o.ready :: after)).mvs.nextEligible o.holder = some o.ready := by
  constructor
  · refine Mvs.activeOrder_eq_none.2 fun x mx e => ?_
    rw [show (y.withOrders (before ++ o.ready :: after)).mvs.orderHolder o.holder = o.holder from
      c.orderHolder (y.mvs.worked_self _)] at e
    have mx : x ∈ before ++ o.ready :: after := mx
    obtain mx | mx := List.mem_append.1 mx
    · exact (c.others x (List.mem_append_left _ mx) e).1
    · obtain rfl | mx := List.mem_cons.1 mx
      · exact c.waiting
      · exact (c.others x (List.mem_append_right _ mx) e).1
  · have none : before.find? (fun x => x.state == .waiting && x.eligible && x.holder == o.holder) = none :=
      List.find?_eq_none.2 fun x hx t => by
        simp only [Bool.and_eq_true, beq_iff_eq] at t
        simp [(c.others x (List.mem_append_left _ hx) t.2).2] at t
    simp [Mvs.nextEligible, Yard.withOrders, List.find?_append, none, Order.ready, c.waiting]

/-- It meets no limit, and its UNTIL PERIOD is not the current one. -/
theorem Yard.CanOpen.endless (c : y.CanOpen before after o p vs) (l : List Order) :
    endAtActivation (y.withOrders l) o.ready = none := by
  have limit : limitMet (y.withOrders l) o.kind (y.mvs.worked o.holder) = none := by
    refine limitMet_meets_none ?_ ?_
    · rintro ⟨f, x, hx, a, g, ha, hg, le⟩
      obtain ⟨t, g', ht, hg', high, -⟩ := c.stands x hx
      have et : a.value = t := by simpa [show (y.hsu.holders.get x).travel = some a from ha] using ht
      cases (show y.yds.geometry.get x = some g from hg).symm.trans hg'
      have := high f
      omega
    · rintro ⟨d, x, hx, a, g, ha, hg, le⟩
      obtain ⟨t, g', ht, hg', -, low⟩ := c.stands x hx
      have et : a.value = t := by simpa [show (y.hsu.holders.get x).travel = some a from ha] using ht
      cases (show y.yds.geometry.get x = some g from hg).symm.trans hg'
      have := low d
      omega
  have limit' : limitMet (y.withOrders l) o.ready.kind ((y.withOrders l).mvs.worked o.ready.holder) = none := limit
  simp only [endAtActivation, limit']
  cases hf : o.ready.finish with
  | untilPeriod q =>
    cases hk : (y.withOrders l).gdc.clock with
    | none => rfl
    | some t =>
      have : t.period ≠ q := fun e => c.period t hk (e ▸ hf)
      simp [this]
  | _ => rfl

/-- The bound valves of some sides of the holders worked, where all are bound. -/
theorem boundValves_all {d : Yds} {sides : List Side} (hb : ∀ h ∈ hs, ∀ s ∈ sides, d.bind.valve ⟨h, s⟩ ≠ none) :
    d.boundValves hs sides = hs.flatMap fun h => sides.map fun s => ⟨h, s⟩ := by
  refine List.filter_eq_self.2 fun v hv => ?_
  obtain ⟨h, hh, mv⟩ := List.mem_flatMap.1 hv
  obtain ⟨s, ms, rfl⟩ := List.mem_map.1 mv
  exact Option.isSome_iff_ne_none.2 (hb h hh s ms)

/-- The yard whose order is OPENING, the marks of the holders worked cleared, before its valves are commanded. -/
def Yard.readied (y : Yard) (before after : List Order) (o : Order) : Yard :=
  { y with mvs := { y.mvs with
    unmanaged := markAll (y.mvs.worked o.holder) false y.mvs.unmanaged
    shutPending := markAll (y.mvs.worked o.holder) false y.mvs.shutPending
    orders := before ++ { o with state := .opening, eligible := false } :: after } }

/-- The valves of an order that it does not use. -/
def Yard.idleValves (y : Yard) (o : Order) : List Valve :=
  (y.mvs.worked o.holder).flatMap fun h => o.kind.unused.map fun side => ⟨h, side⟩

theorem Yard.toOpening_eq : y.toOpening before after o p vs =
    { y with
      mvs := (vs.map (·.1)).foldl (Mvs.commandTo p)
        ((y.idleValves o).foldl (Mvs.commandTo .shut) (y.readied before after o).mvs)
      scs := { y.scs with commands := y.scs.commands ++ vs.map (valveCommand p.cmdCode) } } := by
  let f (m : Mvs) : Mvs := { m with
    unmanaged := markAll (y.mvs.worked o.holder) false y.mvs.unmanaged
    shutPending := markAll (y.mvs.worked o.holder) false y.mvs.shutPending
    orders := before ++ { o with state := .opening, eligible := false } :: after }
  have hf (q : Commanded) (m : Mvs) (v : Valve) : (f m).commandTo q v = f (m.commandTo q v) := by
    rcases v with ⟨k, s⟩; cases s <;> rfl
  have e : (y.readied before after o).mvs = f y.mvs := rfl
  rw [e, Mvs.commandTo_fold_hom (hf .shut), Mvs.commandTo_fold_hom (hf p)]
  rfl

theorem Yard.toOpening_coupled : (y.toOpening before after o p vs).mvs.coupled = y.mvs.coupled :=
  (Mvs.commandTo_fold Mvs.coupled (fun _ _ => Mvs.commandTo_coupled) _ _).trans
    (Mvs.commandTo_fold Mvs.coupled (fun _ _ => Mvs.commandTo_coupled) _ _)

theorem Yard.toOpening_prevTravel : (y.toOpening before after o p vs).mvs.prevTravel = y.mvs.prevTravel :=
  (Mvs.commandTo_fold Mvs.prevTravel (fun _ _ => Mvs.commandTo_prevTravel) _ _).trans
    (Mvs.commandTo_fold Mvs.prevTravel (fun _ _ => Mvs.commandTo_prevTravel) _ _)

/-- A used valve stands at the position, its report as it was. -/
theorem Yard.toOpening_valve {v : Valve} : (y.toOpening before after o p vs).mvs.valve v =
    if v ∈ vs.map (·.1) then ⟨p, (y.mvs.valve v).reported, .idle⟩
    else ((y.idleValves o).foldl (Mvs.commandTo .shut) y.mvs).valve v := by
  refine (commandTo_fold_valve (vs.map (·.1)) _).trans ?_
  rw [Mvs.commandTo_fold (fun m => (m.valve v).reported) (fun _ _ => Mvs.commandTo_reported)]
  rfl

theorem Yard.CanOpen.mem_used (c : y.CanOpen before after o p vs) {x : Valve × Point} (hx : x ∈ vs) :
    x.1.holder ∈ y.mvs.worked o.holder ∧ x.1.side ∈ o.kind.used := by
  have used : x.1 ∈ vs.map (·.1) := List.mem_map_of_mem hx
  rw [c.used] at used
  obtain ⟨k, hk, side, hs, e⟩ : ∃ k ∈ y.mvs.worked o.holder, ∃ side ∈ o.kind.used, ⟨k, side⟩ = x.1 := by simpa using used
  rw [← e]
  exact ⟨hk, hs⟩

theorem Yard.CanOpen.valves_ne_nil (c : y.CanOpen before after o p vs) : vs ≠ [] := by
  rintro rfl
  obtain ⟨a, ha⟩ := List.exists_mem_of_ne_nil _ (y.mvs.worked_ne_nil o.holder)
  have := List.flatMap_eq_nil_iff.1 c.used.symm a ha
  simp at this

theorem Yard.CanOpen.commanded (c : y.CanOpen before after o p vs) :
    commandAll .shut (y.yds.boundValves (y.mvs.worked o.holder) o.kind.unused) (y.readied before after o) =
      ({ y.readied before after o with
        mvs := (y.idleValves o).foldl (Mvs.commandTo .shut) (y.readied before after o).mvs }, []) ∧
    commandAll p (y.yds.boundValves (y.mvs.worked o.holder) o.kind.used)
      { y.readied before after o with
        mvs := (y.idleValves o).foldl (Mvs.commandTo .shut) (y.readied before after o).mvs } =
      (y.toOpening before after o p vs, []) := by
  have reports {v : Valve} (hv : v.holder ∈ y.mvs.worked o.holder) : (y.mvs.valve v).reported = .shut := c.reports _ hv v.side
  have idle : y.yds.boundValves (y.mvs.worked o.holder) o.kind.unused = y.idleValves o := boundValves_all c.unused
  have used : y.yds.boundValves (y.mvs.worked o.holder) o.kind.used = vs.map (·.1) := by
    unfold Yds.boundValves
    rw [← c.used]
    refine List.filter_eq_self.2 fun v hv => ?_
    obtain ⟨x, hx, rfl⟩ := List.mem_map.1 hv
    simp [c.bound x hx]
  refine ⟨?_, ?_⟩
  · rw [idle]
    refine commandAll_reporting c.committed (fun v hv => ?_) fun v hv => ?_
    · exact (mem_boundValves (idle ▸ hv)).2
    · exact reports (mem_boundValves (idle ▸ hv)).1
  · have can : ({ y.readied before after o with
        mvs := (y.idleValves o).foldl (Mvs.commandTo .shut) (y.readied before after o).mvs } : Yard).CanCommand vs :=
      ⟨c.committed, c.bound, c.points, c.free, c.room⟩
    have all : (vs.filter fun x => decide (p.asReport ≠
        some (((y.idleValves o).foldl (Mvs.commandTo .shut) (y.readied before after o).mvs).valve x.1).reported)) = vs := by
      refine List.filter_eq_self.2 fun x hx => ?_
      have kept := Mvs.commandTo_fold (p := .shut) (fun m => (m.valve x.1).reported) (fun _ _ => Mvs.commandTo_reported)
        (y.idleValves o) (y.readied before after o).mvs
      have shut : (((y.idleValves o).foldl (Mvs.commandTo .shut) (y.readied before after o).mvs).valve x.1).reported = .shut :=
        kept.trans (reports (c.mem_used hx).1)
      rw [shut]
      rcases c.position with ⟨rfl, -⟩ | ⟨rfl, -⟩ <;> simp [Commanded.asReport]
    rw [used, can.commandAll, Yard.toOpening_eq, Yard.commandedTo, all]
    rfl

/-- Its used valves do not report the position yet. -/
theorem Yard.CanOpen.notThere (c : y.CanOpen before after o p vs) :
    runOrder o.number (y.toOpening before after o p vs) = (y.toOpening before after o p vs, []) := by
  have orders : (y.toOpening before after o p vs).mvs.orders = before ++ { o with state := .opening, eligible := false } :: after := rfl
  have found : (y.toOpening before after o p vs).mvs.orderOf o.number = some { o with state := .opening, eligible := false } :=
    Mvs.orderOf_listed (o := { o with state := .opening, eligible := false }) orders c.numbers
  obtain ⟨x, hx⟩ : ∃ x, x ∈ vs := List.exists_mem_of_ne_nil _ c.valves_ne_nil
  have listed : x.1 ∈ usedValves (y.toOpening before after o p vs) { o with state := .opening, eligible := false } := by
    obtain ⟨worked, side⟩ := c.mem_used hx
    refine List.mem_filter.2 ⟨List.mem_flatMap.2 ⟨x.1.holder, ?_, List.mem_map.2 ⟨_, side, rfl⟩⟩, ?_⟩
    · rwa [Mvs.worked_congr Yard.toOpening_coupled]
    · exact Option.isSome_iff_ne_none.2 (by simp [Yard.toOpening, c.bound x hx])
  have away : ((y.toOpening before after o p vs).mvs.valve x.1).there = false := by
    rw [Yard.toOpening_valve, if_pos (List.mem_map_of_mem hx), c.reports _ (c.mem_used hx).1]
    rcases c.position with ⟨rfl, -⟩ | ⟨rfl, -⟩ <;> rfl
  unfold runOrder
  rw [found]
  dsimp only
  rw [List.all_eq_false.2 ⟨x.1, listed, by simp [away]⟩, Bool.and_false, if_neg Bool.false_ne_true]

/-- The order activates (R43). -/
theorem Yard.CanOpen.tryActivate (c : y.CanOpen before after o p vs) (hh : h ∈ y.mvs.worked o.holder) :
    tryActivate h (y.withOrders (before ++ o.ready :: after)) = (y.toOpening before after o p vs, [.testRunning o.number]) := by
  obtain ⟨idle, next⟩ := c.next
  have holder : (y.withOrders (before ++ o.ready :: after)).mvs.orderHolder h = o.holder := c.orderHolder hh
  have travels : ((y.withOrders (before ++ o.ready :: after)).mvs.worked o.holder).all (fun x =>
      (travelOf (y.withOrders (before ++ o.ready :: after)) x).isSome) = true := by
    refine List.all_eq_true.2 fun x hx => ?_
    obtain ⟨t, g, ht, -⟩ := c.stands x hx
    have ht : travelOf (y.withOrders (before ++ o.ready :: after)) x = some t := ht
    simp [ht]
  have committed : (y.withOrders (before ++ o.ready :: after)).isCommitted = true := isCommitted_of c.committed
  have started : (setShutPending ((y.withOrders (before ++ o.ready :: after)).mvs.worked o.holder) false
      (setUnmanaged ((y.withOrders (before ++ o.ready :: after)).mvs.worked o.holder) false
        (y.withOrders (before ++ o.ready :: after)))).updMvs (·.updOrder o.ready.number fun o =>
          { o with state := .opening, eligible := false }) = y.readied before after o :=
    Yard.updOrder_listed (o := o.ready) rfl c.numbers _
  have position : workingPosition (y.readied before after o) o.ready = p := workingPosition_eq c.position
  obtain ⟨shut, put⟩ := c.commanded
  unfold Machine.tryActivate
  simp only [holder, idle, travels, committed, next, c.endless, Option.isNone_none, Bool.and_self, if_true]
  rw [started, position]
  let idle := y.yds.boundValves (y.mvs.worked o.holder) o.kind.unused
  let used := y.yds.boundValves (y.mvs.worked o.holder) o.kind.used
  change ((commandAll p used (commandAll .shut idle (y.readied before after o)).1).1,
    (commandAll .shut idle (y.readied before after o)).2 ++
      (commandAll p used (commandAll .shut idle (y.readied before after o)).1).2 ++ [.testRunning o.number]) = _
  rw [shut, put]
  rfl

end

end Sys2Proof.Machine
end

section
/-! O31: what activates, and what makes an order RUNNING (R34, R36, R40 to R46, R50, R57, R58). -/

namespace Sys2Proof.Machine

section
variable {y : Yard} {before after : List Order} {o : Order} {h : Holder} {p : Commanded} {vs : List (Valve × Point)}
  {k : OrderKind} {n : Nat}

/-- Activation tried for the holder of an order that can open, and then for others, opens it (R42, R43). -/
theorem Yard.CanOpen.work_activate (c : y.CanOpen before after o p vs) {hs : List Holder}
    (quiet : hs = [] ∨ ∀ x ∈ before ++ after, x.state = .waiting → x.eligible = false) :
    work ((o.holder :: hs).map .activate) (y.withOrders (before ++ o.ready :: after)) = y.toOpening before after o p vs := by
  have first := c.tryActivate (y.mvs.worked_self _)
  have rest : doAll (hs.map .activate) (y.toOpening before after o p vs) = (y.toOpening before after o p vs, []) := by
    refine doAll_still fun d hd => ?_
    obtain ⟨g, hg, rfl⟩ := List.mem_map.1 hd
    refine tryActivate_none (Mvs.nextEligible_eq_none fun x mx _ w => ?_)
    have mx : x ∈ before ++ { o with state := .opening, eligible := false } :: after := mx
    rcases quiet with rfl | quiet
    · simp at hg
    obtain mx | mx := List.mem_append.1 mx
    · exact quiet x (List.mem_append_left _ mx) w
    · obtain rfl | mx := List.mem_cons.1 mx
      · rfl
      · exact quiet x (List.mem_append_right _ mx) w
  refine work_once (ds' := [.testRunning o.number]) ?_ fun d hd => ?_
  · simp only [List.map_cons, doAll, deed, first, rest, List.append_nil]
  · obtain rfl := List.mem_singleton.1 hd
    exact c.notThere

/-! ### Accepted and eligible (R40, R41) -/

/-- The order that a request asks for, while it waits. -/
def OrderAsk.order (a : OrderAsk) (h : Holder) (y : Yard) : Order :=
  ⟨a.number, h, a.kind, a.start, (limitTarget a.kind (y.yds.geometry.get h) a.finish).1, .unset, a.standing, false, false, false,
    .waiting, none⟩

theorem OrderAsk.Sound.opens {a : OrderAsk} (sound : a.Sound h y) (ad : a.Admitted h y)
    (clock : a.period.isSome = true ∨ a.finish.isPeriod = true → y.gdc.clock ≠ none)
    (trip : a.kind.fills = true → y.mvs.tripped = false) (room : y.mvs.orders.length < 16)
    (now : eligibleAtOnce a.start y.gdc.clock = true)
    (c : (y.withOrders (y.mvs.orders ++ [(a.order h y).ready])).CanOpen y.mvs.orders [] (a.order h y).ready p vs) : takeOrder a y =
      ((y.withOrders (y.mvs.orders ++ [(a.order h y).ready])).toOpening y.mvs.orders [] (a.order h y).ready p vs,
        settled (limitTarget a.kind (y.yds.geometry.get h) a.finish).2) := by
  rw [sound.taken ad clock trip room]
  have opened := c.work_activate (.inl rfl)
  simp only [acceptOrder, now, if_true]
  exact congrArg (·, _) opened

/-- The bound used valves of an order that can open. -/
theorem Yard.CanOpen.usesBound (c : y.CanOpen before after o p vs) : y.usesBound o.kind o.holder := by
  refine Yard.usesBound_iff.1 ?_
  rw [← c.used]
  refine List.all_eq_true.2 fun v hv => ?_
  obtain ⟨x, hx, rfl⟩ := List.mem_map.1 hv
  simp [c.bound x hx]

/-! ### One order made eligible (R41) -/

/-- A test that one order of a list passes. -/
theorem filter_one {t : Order → Bool} (mine : t o = true) (theirs : ∀ x ∈ before ++ after, t x = false) :
    (before ++ o :: after).filter t = [o] := by
  have none (l : List Order) (hl : ∀ x ∈ l, t x = false) : l.filter t = [] := List.filter_eq_nil_iff.2 fun x hx => by simp [hl x hx]
  simp [mine, none before fun x hx => theirs x (List.mem_append_left _ hx),
    none after fun x hx => theirs x (List.mem_append_right _ hx)]

theorem map_one {t : Order → Bool} {f : Order → Order} (mine : t o = true) (theirs : ∀ x ∈ before ++ after, t x = false) :
    ((before ++ o :: after).map fun x => if t x then f x else x) = before ++ f o :: after := by
  have stands (l : List Order) (hl : ∀ x ∈ l, t x = false) : (l.map fun x => if t x then f x else x) = l :=
    (List.map_congr_left fun x hx => if_neg (by simp [hl x hx])).trans (List.map_id l)
  simp [mine, stands before fun x hx => theirs x (List.mem_append_left _ hx),
    stands after fun x hx => theirs x (List.mem_append_right _ hx)]

theorem Yard.ready_one {t : Order → Bool} (hl : y.mvs.orders = before ++ o :: after) (mine : t o = true)
    (theirs : ∀ x ∈ before ++ after, t x = false) :
    (y.updMvs fun m => { m with orders := m.orders.map fun x => if t x then { x with eligible := true } else x }) =
      y.withOrders (before ++ o.ready :: after) := by
  have one := map_one (f := fun x => { x with eligible := true }) mine theirs
  simp only [Yard.updMvs, hl, one]
  rfl

/-- The start of a period that no order ends at and one waits for. -/
theorem mvsPeriodStart_one {q : Nat} (hl : y.mvs.orders = before ++ o :: after) (hs : o.state = .waiting) (ha : o.start = .atPeriod q)
    (others : ∀ x ∈ before ++ after, ¬(x.state = .waiting ∧ x.start = .atPeriod q) ∧
      ¬((x.state = .opening ∨ x.state = .running) ∧ x.finish = .untilPeriod q)) :
    mvsPeriodStart q y = work [.activate o.holder] (y.withOrders (before ++ o.ready :: after)) := by
  have ends : y.mvs.orders.filter (fun o => (o.state == .opening || o.state == .running) && o.finish == .untilPeriod q) = [] := by
    refine List.filter_eq_nil_iff.2 fun x mx t => ?_
    simp only [Bool.and_eq_true, Bool.or_eq_true, beq_iff_eq] at t
    rw [hl] at mx
    obtain mx | mx := List.mem_append.1 mx
    · exact (others x (List.mem_append_left _ mx)).2 t
    · obtain rfl | mx := List.mem_cons.1 mx
      · simp [hs] at t
      · exact (others x (List.mem_append_right _ mx)).2 t
  have mine : (o.state == .waiting && o.start == .atPeriod q) = true := by simp [hs, ha]
  have theirs : ∀ x ∈ before ++ after, (x.state == .waiting && x.start == .atPeriod q) = false := fun x mx => by
    simpa using (others x mx).1
  unfold mvsPeriodStart
  dsimp only
  rw [ends, List.map_nil, work_nil, Yard.ready_one hl mine theirs, hl, filter_one mine theirs]
  rfl

/-- A holder worked without an accepted travel, its order stays eligible (R43). -/
theorem work_activate_travelless (lead : y.mvs.isCoupled h = true → h.leads = true)
    (lost : ∃ x ∈ y.mvs.worked h, (y.hsu.holders.get x).travel = none) : work [.activate h] y = y := by
  have e : ((y.mvs.worked (y.mvs.orderHolder h)).all fun x => (travelOf y x).isSome) = false := by
    obtain ⟨x, hx, none⟩ := lost
    rw [Mvs.orderHolder_of_lead lead]
    exact List.all_eq_false.2 ⟨x, hx, by simp [travelOf, none]⟩
  refine work_still fun d hd => ?_
  obtain rfl := List.mem_singleton.1 hd
  simp [deed, tryActivate, e]

/-! ### Eligible at a reading (R41) -/

/-- A reading that meets the WHEN of one order, while all orders wait. -/
theorem Yard.CanOpen.mvsReading {g : Holder} {x : Int} {a : Sampled} (c : y.CanOpen before after o p vs) (he : o.eligible = false)
    (ht : (y.hsu.holders.get g).travel = some a) (below : ∀ geo, y.yds.geometry.get g = some geo → a.value < geo.full)
    (met : (o.start = .whenAbove g x ∧ x < a.value) ∨ (o.start = .whenBelow g x ∧ a.value < x))
    (others : ∀ z ∈ before ++ after, z.state = .waiting ∧ z.eligible = false ∧
      ∀ w, z.start ≠ .whenAbove g w ∧ z.start ≠ .whenBelow g w) :
    mvsReading g y = (y.toOpening before after o p vs).updMvs fun m =>
      { m with prevTravel := y.mvs.prevTravel.set g (some a.value) } := by
  have travel : travelOf y g = some a.value := by simp [travelOf, ht]
  have waits : ∀ z ∈ y.mvs.orders, z.state = .waiting := by
    intro z mz
    rw [c.listed] at mz
    obtain mz | mz := List.mem_append.1 mz
    · exact (others z (List.mem_append_left _ mz)).1
    · obtain rfl | mz := List.mem_cons.1 mz
      · exact c.waiting
      · exact (others z (List.mem_append_right _ mz)).1
  have idle : y.mvs.activeOrder g = none := Mvs.activeOrder_eq_none.2 fun z mz _ => waits z mz
  have top : overTop g y = y := overTop_below fun t geo et hg => by
    cases travel.symm.trans et
    exact below geo hg
  have mine : whenMet g (some a.value) o = true := by
    rcases met with ⟨e, lt⟩ | ⟨e, lt⟩ <;> simp [whenMet, c.waiting, he, e, lt]
  have theirs : ∀ z ∈ before ++ after, whenMet g (some a.value) z = false := fun z mz => whenMet_other (others z mz).2.2 _
  have opened : whenReading g y = y.toOpening before after o p vs := by
    unfold whenReading
    dsimp only
    rw [travel, Yard.ready_one c.listed mine theirs, c.listed, filter_one mine theirs]
    exact c.work_activate (hs := [g]) (.inr fun z mz _ => (others z mz).2.1)
  unfold Machine.mvsReading
  simp only [idle, top, opened]
  rw [show travelOf (y.toOpening before after o p vs) g = some a.value from travel, Yard.updMvs, Yard.toOpening_prevTravel]
  rfl

/-! ### An end met at activation (R43, R46, R50) -/

/-- An eligible order that meets an end as it activates ends at once. -/
theorem OrderAsk.Sound.ends {a : OrderAsk} {reason : EndReason} (sound : a.Sound h y) (ad : a.Admitted h y)
    (hc : y.yds.desc = .committed) (lead : y.mvs.isCoupled h = true → h.leads = true)
    (clock : a.period.isSome = true ∨ a.finish.isPeriod = true → y.gdc.clock ≠ none)
    (trip : a.kind.fills = true → y.mvs.tripped = false) (room : y.mvs.orders.length < 16)
    (now : eligibleAtOnce a.start y.gdc.clock = true) (once : a.standing = 0)
    (fresh : ∀ o ∈ y.mvs.orders, o.holder ≠ h) (travels : ∀ x ∈ y.mvs.worked h, (y.hsu.holders.get x).travel ≠ none)
    (ends : endAtActivation (y.withOrders (y.mvs.orders ++ [(a.order h y).ready])) (a.order h y).ready = some reason) : takeOrder a y =
      (raiseNotice .orderEnded a.number (reason.code : Int) y, settled (limitTarget a.kind (y.yds.geometry.get h) a.finish).2) := by
  let z := y.withOrders (y.mvs.orders ++ [(a.order h y).ready])
  have holder : z.mvs.orderHolder h = h := Mvs.orderHolder_of_lead lead
  have idle : z.mvs.activeOrder h = none := by
    refine Mvs.activeOrder_eq_none.2 fun x mx e => ?_
    rw [holder] at e
    obtain mx | mx := List.mem_append.1 mx
    · exact absurd e (fresh x mx)
    · obtain rfl := List.mem_singleton.1 mx
      rfl
  have next : z.mvs.nextEligible h = some (a.order h y).ready := by
    have none : y.mvs.orders.find? (fun x => x.state == .waiting && x.eligible && x.holder == h) = none :=
      List.find?_eq_none.2 fun x mx t => by simp [fresh x mx] at t
    simp [Mvs.nextEligible, z, Yard.withOrders, List.find?_append, none, Order.ready, OrderAsk.order]
  have known : (z.mvs.worked h).all (fun x => (travelOf z x).isSome) = true :=
    List.all_eq_true.2 fun x hx => by
      rw [show travelOf z x = travelOf y x from rfl]
      simpa [travelOf, Option.isSome_iff_ne_none] using travels x hx
  have numbers : ∀ x ∈ y.mvs.orders ++ [], x.number ≠ (a.order h y).ready.number := by
    simpa [Order.ready, OrderAsk.order] using sound.fresh
  have tried : tryActivate h z = finishOrder a.number reason z := by
    have committed : z.isCommitted = true := isCommitted_of hc
    unfold tryActivate
    simp only [holder, idle, known, committed, next, Option.isNone_none, Bool.and_self, if_true]
    rw [ends]
    rfl
  have dropped : keptAtEnd z (a.order h y).ready reason = false := by simp [keptAtEnd, Order.ready, OrderAsk.order, once]
  have finished := finishOrder_listed (y := z) (o := (a.order h y).ready) (reason := reason) rfl numbers
  rw [dropped] at finished
  rw [sound.taken ad clock trip room]
  simp only [acceptOrder, now, if_true]
  refine congrArg (·, _) (work_once (ds' := [.activate h]) (y := z) ?_ fun d hd => ?_)
  · have left : (raiseEnded (a.order h y).ready reason z).withOrders (y.mvs.orders ++ [] ++ []) =
        raiseNotice .orderEnded a.number (reason.code : Int) y := by
      have datum : reason.code + 256 * (a.order h y).ready.standing = reason.code := by
        simp [Order.ready, OrderAsk.order, once]
      rw [raiseEnded, datum, List.append_nil, List.append_nil]
      rfl
    simp only [doAll, deed, tried, List.append_nil]
    refine Prod.ext ((congrArg (·.1) finished).trans left) (congrArg (·.2) finished)
  · obtain rfl := List.mem_singleton.1 hd
    refine tryActivate_none (Mvs.nextEligible_eq_none fun x mx e _ => absurd e ?_)
    rw [show (raiseNotice .orderEnded a.number (reason.code : Int) y).mvs.orderHolder h = h from Mvs.orderHolder_of_lead lead]
    exact fresh x mx

/-! ### RUNNING (R44, R58) -/

/-- A RUNNING order that draws, no other order of its holder standing, and none that draws beside it. -/
structure Yard.OnlyDraws (y : Yard) (before after : List Order) (o : Order) : Prop where
  listed : y.mvs.orders = before ++ o :: after
  others : ∀ x ∈ before ++ after, x.number ≠ o.number ∧ x.holder ≠ o.holder ∧ x.state ≠ .running
  lead : y.mvs.isCoupled o.holder = true → o.holder.leads = true
  running : o.state = .running
  draws : o.kind.draws = true

theorem Yard.OnlyDraws.drawnBy (d : y.OnlyDraws before after o) (hh : h ∈ y.mvs.worked o.holder) : drawnBy y h = some o := by
  have active : y.mvs.activeOrder h = some o :=
    Mvs.activeOrder_of_worked d.listed (fun x hx e => absurd e (d.others x hx).2.1) d.lead (by rw [d.running]; rfl) hh
  simp [Machine.drawnBy, active, d.running, d.draws]

theorem Yard.OnlyDraws.undrawn (d : y.OnlyDraws before after o) (hh : h ∉ y.mvs.worked o.holder) : Machine.drawnBy y h = none := by
  unfold Machine.drawnBy
  cases found : y.mvs.activeOrder h with
  | none => rfl
  | some x =>
    have test := List.find?_some found
    simp only [Bool.and_eq_true, beq_iff_eq] at test
    have ne : x ≠ o := by
      rintro rfl
      exact hh (test.2 ▸ Mvs.mem_worked _ _)
    have mx := List.mem_of_find?_eq_some found
    rw [d.listed] at mx
    have other : x ∈ before ++ after := by simpa [ne] using mx
    simp [(d.others x other).2.2]

theorem Yard.OnlyDraws.drawingSet (d : y.OnlyDraws before after o) :
    drawingSet y = Holder.list.filter fun h => decide (h ∈ y.mvs.worked o.holder) := by
  refine List.filter_congr fun h _ => ?_
  by_cases hh : h ∈ y.mvs.worked o.holder
  · simp [d.drawnBy hh, hh]
  · simp [d.undrawn hh, hh]

/-- Whether a holder falls short of a contribution by more than its threshold, its lag mark not set (R58). -/
def Yard.fallsShort (y : Yard) (best : Int) (x : Holder) (mark : Bool) : Bool :=
  !mark && decide ((y.yds.limits.get x).lagThreshold < best - contribution y x)

/-- LAGGING HOLDER raised for a holder that falls short. -/
def Yard.lagTold (y : Yard) (best : Int) (x : Holder) (b : Bool) (q : Notices) : Notices :=
  if b then q.raise .laggingHolder x.number (best - contribution y x) (y.gdc.clock.map (·.day)) (y.gdc.clock.map (·.period)) else q

/-- The order with the lag mark of one of its holders set where it falls short. -/
def Order.lagSet (o : Order) (x : Holder) (b : Bool) : Order := if b then o.setLag x else o

theorem Yard.OnlyDraws.lagOne (d : y.OnlyDraws before after o) (best : Int) (hh : h ∈ y.mvs.worked o.holder) :
    lagOne best y h = { y with
      mvs := { y.mvs with orders := before ++ o.lagSet h (y.fallsShort best h (o.lagMark h)) :: after }
      notices := y.lagTold best h (y.fallsShort best h (o.lagMark h)) y.notices } := by
  have test : (decide (best - contribution y h > (y.yds.limits.get h).lagThreshold) && !o.lagMark h) =
      y.fallsShort best h (o.lagMark h) := Bool.and_comm _ _
  unfold Machine.lagOne
  rw [d.drawnBy hh]
  dsimp only
  rw [test]
  cases y.fallsShort best h (o.lagMark h)
  · exact (Yard.withOrders_self d.listed).symm
  · exact Yard.updOrder_listed (y := raiseNotice _ _ _ y) d.listed (fun x hx => (d.others x hx).1) _

/-- The lag test over one pair, the leader first (R58, log 60). -/
theorem Yard.OnlyDraws.lagTest_pair (d : y.OnlyDraws before after o) (hc : y.mvs.isCoupled o.holder = true) :
    let best := max (contribution y o.holder) (contribution y o.holder.partner)
    let own := y.fallsShort best o.holder o.lagOwn
    let other := y.fallsShort best o.holder.partner o.lagOther
    lagTest y = { y with
      mvs := { y.mvs with
        orders := before ++ { o with lagOwn := o.lagOwn || own, lagOther := o.lagOther || other } :: after }
      notices := y.lagTold best o.holder.partner other (y.lagTold best o.holder own y.notices) } := by
  intro best own other
  have leads := d.lead hc
  have worked : y.mvs.worked o.holder = [o.holder, o.holder.partner] := by simp [Mvs.worked, hc, leads]
  have set : Machine.drawingSet y = [o.holder, o.holder.partner] := by
    rw [d.drawingSet, worked]
    revert leads
    cases o.holder <;> decide
  have apart : o.holder.partner ≠ o.holder := by cases o.holder <;> decide
  let o₁ := o.lagSet o.holder own
  let y₁ : Yard := { y with
    mvs := { y.mvs with orders := before ++ o₁ :: after }
    notices := y.lagTold best o.holder own y.notices }
  have same : o₁ = { o with lagOwn := o.lagOwn || own } := by
    cases e : own <;> simp [o₁, Order.lagSet, e, Order.setLag]
  have first : Machine.lagOne best y o.holder = y₁ := by
    have mark : o.lagMark o.holder = o.lagOwn := by simp [Order.lagMark]
    rw [d.lagOne best (by simp [worked]), mark]
  have d₁ : y₁.OnlyDraws before after o₁ := by
    rw [same]
    exact ⟨by simp only [y₁, same], d.others, d.lead, d.running, d.draws⟩
  have second := d₁.lagOne best (h := o.holder.partner) (by rw [same]; exact worked ▸ List.mem_cons_of_mem _ (List.mem_singleton_self _))
  have mark : o₁.lagMark o.holder.partner = o.lagOther := by rw [same]; simp [Order.lagMark, apart.symm]
  have last : o₁.lagSet o.holder.partner other = { o with lagOwn := o.lagOwn || own, lagOther := o.lagOther || other } := by
    rw [same]
    cases other <;> simp [Order.lagSet, Order.setLag, apart.symm]
  unfold lagTest
  rw [set]
  dsimp only [List.foldl_cons, List.foldl_nil]
  rw [first, second, mark, ← last]
  rfl

/-- A holder alone never lags (R58). -/
theorem Yard.OnlyDraws.lagTest_alone (d : y.OnlyDraws before after o) (hc : y.mvs.isCoupled o.holder = false) : lagTest y = y := by
  refine lagTest_single ?_
  rw [d.drawingSet, Mvs.worked, hc]
  cases o.holder <;> decide

/-- Work that is done in two rounds. -/
theorem work_twice {y₁ y₂ : Yard} {ds ds₁ : List Deed} (first : doAll ds y = (y₁, ds₁)) (second : doAll ds₁ y₁ = (y₂, [])) :
    work ds y = y₂ := by
  rw [work_eq, first, workN_succ 1998, second, workN_nil]

/-- Whether a holder of a pair lags once its order runs (R58). -/
def Yard.lagsOnce (y : Yard) (o : Order) (best : Int) (x : Holder) (mark : Bool) : Bool :=
  o.kind.draws && y.mvs.isCoupled o.holder && y.fallsShort best x mark

/-- The report that leaves every bound used valve of an OPENING order at its position makes it RUNNING (R44, R58). -/
theorem valveReport_runs {v : Valve} {rep rep' : Reported} {tm : Timer} (hl : y.mvs.orders = before ++ o :: after)
    (others : ∀ x ∈ before ++ after, x.number ≠ o.number ∧ x.holder ≠ o.holder)
    (lead : y.mvs.isCoupled o.holder = true → o.holder.leads = true) (hs : o.state = .opening)
    (hh : v.holder ∈ y.mvs.worked o.holder) (alone : o.kind.draws = true → ∀ x ∈ before ++ after, x.state ≠ .running)
    (hp : p.asReport = some rep) (hv : y.mvs.valve v = ⟨p, rep', tm⟩) (pend : y.mvs.shutPending.get v.holder = false)
    (there : ∀ w : Valve, w.holder ∈ y.mvs.worked o.holder → w.side ∈ o.kind.used → w ≠ v → y.yds.bind.valve w ≠ none →
      (y.mvs.valve w).commanded.asReport = some (y.mvs.valve w).reported) :
    let best := max (contribution y o.holder) (contribution y o.holder.partner)
    let own := y.lagsOnce o best o.holder o.lagOwn
    let other := y.lagsOnce o best o.holder.partner o.lagOther
    valveReport v rep y = { y.arrived v p rep with
      mvs := { (y.arrived v p rep).mvs with
        orders := before ++ { o with
          state := .running, lagOwn := o.lagOwn || own, lagOther := o.lagOther || other } :: after }
      notices := y.lagTold best o.holder.partner other (y.lagTold best o.holder own y.notices) } := by
  intro best own other
  let z := y.arrived v p rep
  have coupled : z.mvs.coupled = y.mvs.coupled := Mvs.setValve_coupled _ _ _
  have lead' : z.mvs.isCoupled o.holder = true → o.holder.leads = true := fun c => lead (by rwa [Mvs.isCoupled, coupled] at c)
  have zl : z.mvs.orders = before ++ o :: after := (Mvs.setValve_orders _ _ _).trans hl
  have numbers : ∀ x ∈ before ++ after, x.number ≠ o.number := fun x hx => (others x hx).1
  have active : z.mvs.activeOrder v.holder = some o :=
    Mvs.activeOrder_of_worked zl (fun x hx e => absurd e (others x hx).2) lead' (by rw [hs]; rfl)
      (by rwa [Mvs.worked_congr coupled])
  have all : (usedValves z o).all (fun w => (z.mvs.valve w).there) = true := by
    refine List.all_eq_true.2 fun w hw => ?_
    by_cases e : w = v
    · subst e; simp [z, Yard.arrived, Yard.updMvs, ValveRec.there, hp]
    · obtain ⟨worked, bound⟩ := mem_boundValves hw
      rw [Mvs.worked_congr coupled] at worked
      have used : w.side ∈ o.kind.used := by
        obtain ⟨k, -, mk⟩ := List.mem_flatMap.1 (List.mem_filter.1 hw).1
        obtain ⟨side, ms, rfl⟩ := List.mem_map.1 mk
        exact ms
      have := there w worked used e bound
      simpa [z, Yard.arrived, Yard.updMvs, Mvs.valve_setValve_ne _ _ e, ValveRec.there] using this
  let r := z.withOrders (before ++ { o with state := .running } :: after)
  have pairs : r.mvs.isCoupled o.holder = y.mvs.isCoupled o.holder := congrArg (fun t : Three Bool => t.get o.holder.pair) coupled
  have runs : runOrder o.number z = (r, if o.kind.draws then [.lag] else []) := by
    have test : (o.state == .opening && (usedValves z o).all (fun w => (z.mvs.valve w).there)) = true := by simp [hs, all]
    unfold runOrder
    rw [Mvs.orderOf_listed zl numbers]
    dsimp only
    rw [test, if_pos rfl, Yard.updOrder_listed zl numbers]
  have found : r.mvs.orderOf o.number = some { o with state := .running } :=
    Mvs.orderOf_listed (o := { o with state := .running }) rfl numbers
  have unmarked : r.mvs.shutPending.get v.holder = false := by simpa [r, z, Yard.withOrders, Yard.arrived, Yard.updMvs] using pend
  have first : doAll [.testRunning o.number, .testComplete o.number, .testShut v.holder] z =
      (r, if o.kind.draws then [.lag] else []) := by
    simp only [doAll, deed, runs, completeOrder_other found (by simp), testShutHolder_unmarked unmarked, List.append_nil]
  rw [valveReport_there hv hp active]
  cases draws : o.kind.draws with
  | false =>
    have none : own = false ∧ other = false := by simp [own, other, Yard.lagsOnce, draws]
    rw [draws] at first
    rw [work_once first (by simp), none.1, none.2, Bool.or_false, Bool.or_false]
    rfl
  | true =>
    have only : r.OnlyDraws before after { o with state := .running } :=
      ⟨rfl, fun x hx => ⟨(others x hx).1, (others x hx).2, alone draws x hx⟩, lead', rfl, draws⟩
    rw [draws] at first
    have second : doAll [.lag] r = (lagTest r, []) := rfl
    rw [work_twice first second]
    cases c : y.mvs.isCoupled o.holder with
    | false =>
      have none : own = false ∧ other = false := by simp [own, other, Yard.lagsOnce, c]
      rw [only.lagTest_alone (pairs.trans c), none.1, none.2,
        Bool.or_false, Bool.or_false]
      rfl
    | true =>
      have both : own = y.fallsShort best o.holder o.lagOwn ∧ other = y.fallsShort best o.holder.partner o.lagOther := by
        simp [own, other, Yard.lagsOnce, draws, c]
      rw [only.lagTest_pair (pairs.trans c), both.1, both.2]
      rfl

end

end Sys2Proof.Machine
end

section
/-! O31: orders that activate on acceptance (R34, R40 to R43, R46, R50, R57). -/

namespace Sys2Proof.Machine

section
variable {y : Yard} {before after : List Order} {o : Order} {h : Holder} {p : Commanded} {vs : List (Valve × Point)}
  {k : OrderKind} {n : Nat}

/-- An order without a condition, or for the current period, is eligible at once (R41). -/
theorem opens_at_once {period : Option Nat} {standing : Nat} (hc : y.yds.desc = .committed) (hp : y.yds.holders.get h ≠ none)
    (hn : 1 ≤ n ∧ n ≤ 999) (room : y.mvs.orders.length < 16) (trip : k.fills = true → y.mvs.tripped = false)
    (hs : standing ≤ 31) (once : period = none → standing = 0)
    (current : ∀ q ∈ period, q ≤ 95 ∧ y.gdc.clock.map (·.period) = some q)
    (c : (y.withOrders (y.mvs.orders ++ [((askFor k n h period standing []).order h y).ready])).CanOpen y.mvs.orders []
      ((askFor k n h period standing []).order h y).ready p vs) :
    GivesOrder (orderRow k).1 (orderRow k).2
      [some (n : Int), some (h.number : Int), period.map fun q => (q : Int), some (standing : Int)] [] y
      ((y.withOrders (y.mvs.orders ++ [((askFor k n h period standing []).order h y).ready])).toOpening y.mvs.orders []
        ((askFor k n h period standing []).order h y).ready p vs) (.answer .none []) := by
  have ad : (askFor k n h period standing []).Admitted h y := askFor_admitted hp c.lead fun m hm => nomatch hm
  have sound : (askFor k n h period standing []).Sound h y :=
    { number := hn, period := fun q hq => (current q hq).1, standing := hs, ranges := by simp [askFor],
      single := by simp [askFor], fresh := fun x hx => c.numbers x (List.mem_append_left _ hx), travel := fun _ => rfl,
      again := by
        cases e : period with
        | none => exact .inl (once e)
        | some q => exact .inr rfl
      start := fun _ => rfl, other := fun q _ e => (nomatch e), bound := c.usesBound }
  have clock : (askFor k n h period standing []).period.isSome = true ∨
      (askFor k n h period standing []).finish.isPeriod = true → y.gdc.clock ≠ none := by
    rintro (some_ | until_) unset
    · obtain ⟨q, e⟩ := Option.isSome_iff_exists.1 some_
      have := (current q e).2
      simp [unset] at this
    · exact nomatch until_
  have now : eligibleAtOnce (askFor k n h period standing []).start y.gdc.clock = true := by
    cases period with
    | none => rfl
    | some q =>
      obtain ⟨t, ht, e⟩ := Option.map_eq_some_iff.1 (current q rfl).2
      simp [askFor, OrderAsk.start, eligibleAtOnce, ht, e]
  exact givesOrder hc (sound.opens ad clock trip room now c)

/-- What an order ends with at activation, where a limit is met or its UNTIL PERIOD is the current one (R43, R46). -/
theorem endAtActivation_limit {r : EndReason} (e : limitMet y o.kind (y.mvs.worked o.holder) = some r) :
    endAtActivation y o = some r := by
  simp only [endAtActivation, e]

theorem endAtActivation_period {t : ClockTime} (e : limitMet y o.kind (y.mvs.worked o.holder) = none)
    (hc : y.gdc.clock = some t) (hf : o.finish = .untilPeriod t.period) : endAtActivation y o = some .endMet := by
  simp only [endAtActivation, e, hc, hf, if_true]

/-- A FILL with or without UNTIL TRAVEL passes test 3 of R40. -/
theorem askFor_untilTravel_sound {target : Option Int} (hn : 1 ≤ n ∧ n ≤ 999) (fresh : ∀ o ∈ y.mvs.orders, o.number ≠ n)
    (ranges : ∀ x ∈ target, 0 ≤ x ∧ x ≤ 60500) (hb : y.usesBound .fill h) :
    (askFor .fill n h none 0 (target.toList.map .untilTravel)).Sound h y where
  number := hn
  period := by simp [askFor]
  standing := Nat.zero_le _
  ranges := by cases target <;> simp_all [askFor, Qualifier.inRanges, inRange_iff]
  single := by cases target <;> simp [askFor, Qualifier.isWhen]
  fresh := fresh
  travel := nofun
  again := .inl rfl
  start := by simp [askFor]
  other := by simp [askFor]
  bound := hb

/-- A FILL of a holder that stands alone, both its valves bound and reporting SHUT, can open (R43). -/
theorem canOpen_fill {t : Int} {src : Source} {g : Geometry} {pi po : Point} {ci co : Commanded} {ti tq : Timer}
    (hc : y.yds.desc = .committed) (alone : y.mvs.isCoupled h = false) (fresh : ∀ x ∈ y.mvs.orders, x.number ≠ o.number ∧ x.holder ≠ h)
    (ho : o.holder = h) (hk : o.kind = .fill) (hs : o.state = .waiting) (hf : ∀ q, o.finish ≠ .untilPeriod q)
    (ht : (y.hsu.holders.get h).travel = some ⟨t, src⟩) (hg : y.yds.geometry.get h = some g) (under : t < g.topStop)
    (bi : y.yds.bind.inlet.get h = some pi) (bo : y.yds.bind.outlet.get h = some po) (vi : y.mvs.inlets.get h = ⟨ci, .shut, ti⟩)
    (vo : y.mvs.outlets.get h = ⟨co, .shut, tq⟩)
    (unused : ∀ c ∈ y.scs.commands, ¬(c.outstation = pi.outstation ∧ c.channel = pi.channel)) (free : y.scs.commands.length < 32)
    (position : (p = .cracked ∧ ∃ b ∈ g.bands, b.1 ≤ t ∧ t ≤ b.2) ∨ (p = .opened ∧ ¬∃ b ∈ g.bands, b.1 ≤ t ∧ t ≤ b.2)) :
    (y.withOrders (y.mvs.orders ++ [o])).CanOpen y.mvs.orders [] o p [(⟨h, .inlet⟩, pi)] := by
  have own : (y.withOrders (y.mvs.orders ++ [o])).mvs.worked o.holder = [h] := by
    rw [ho, show (y.withOrders (y.mvs.orders ++ [o])).mvs.worked h = y.mvs.worked h from rfl, Mvs.worked, alone]
    rfl
  have band : (y.withOrders (y.mvs.orders ++ [o])).InBand h ↔ ∃ b ∈ g.bands, b.1 ≤ t ∧ t ≤ b.2 := by
    simp [Yard.InBand, Yard.withOrders, ht, hg]
  constructor
  case committed => exact hc
  case listed => rfl
  case numbers => simpa using fun x mx => (fresh x mx).1
  case others => simpa [ho] using fun x mx e => absurd e (fresh x mx).2
  case lead =>
    rw [ho]
    exact fun c => absurd (alone.symm.trans c) (by decide)
  case waiting => exact hs
  case stands =>
    rw [own]
    intro u hu
    obtain rfl := List.mem_singleton.1 hu
    exact ⟨t, g, by simp [Yard.withOrders, ht], hg, fun _ => under, by simp [hk, OrderKind.draws]⟩
  case position =>
    rw [own]
    simpa [band] using position
  case period => exact fun c _ => hf c.period
  case used =>
    rw [own, hk]
    rfl
  case bound => simpa [Yard.withOrders, Bindings.valve] using bi
  case unused =>
    rw [own, hk]
    simp [OrderKind.unused, Yard.withOrders, Bindings.valve, bo]
  case reports =>
    rw [own]
    intro u hu side
    obtain rfl := List.mem_singleton.1 hu
    cases side <;> simp [Yard.withOrders, Mvs.valve, vi, vo]
  case points => simp
  case free => simpa [Yard.withOrders] using unused
  case room => exact free

/-- What it leaves once it is OPENING (R43). -/
theorem toOpening_fill {pi : Point} {ci co : Commanded} {ti tq : Timer} (alone : y.mvs.isCoupled h = false) (ho : o.holder = h)
    (hk : o.kind = .fill) (vi : y.mvs.inlets.get h = ⟨ci, .shut, ti⟩) (vo : y.mvs.outlets.get h = ⟨co, .shut, tq⟩) :
    (y.withOrders (y.mvs.orders ++ [o])).toOpening y.mvs.orders [] o p [(⟨h, .inlet⟩, pi)] =
      { y with
        mvs := { y.mvs with
          unmanaged := y.mvs.unmanaged.set h false
          shutPending := y.mvs.shutPending.set h false
          inlets := y.mvs.inlets.set h ⟨p, .shut, .idle⟩
          outlets := y.mvs.outlets.set h ⟨.shut, .shut, .idle⟩
          orders := y.mvs.orders ++ [{ o with state := .opening, eligible := false }] }
        scs := { y.scs with commands := y.scs.commands ++
          [⟨pi.outstation, pi.channel, p.cmdCode, 0, .valve ⟨h, .inlet⟩, 0, false, false⟩] } } := by
  have own : (y.withOrders (y.mvs.orders ++ [o])).mvs.worked o.holder = [h] := by
    rw [ho, show (y.withOrders (y.mvs.orders ++ [o])).mvs.worked h = y.mvs.worked h from rfl, Mvs.worked, alone]
    rfl
  simp only [Yard.toOpening, own, hk, OrderKind.unused, markAll, List.flatMap_cons, List.flatMap_nil, List.map_cons, List.map_nil,
    List.append_nil, List.foldl_cons, List.foldl_nil]
  simp [Mvs.commandTo, Mvs.setValve, Mvs.valve, Yard.withOrders, vi, vo, valveCommand]

end

/-- Settles O31, by the way in which an order becomes eligible, and by the report that makes one RUNNING. -/
theorem fillOpensInlet : Obligations.FillOpensInlet := by
  refine ⟨fun y k n h period standing p vs c hp n1 n2 room trip hs once current => ?_,
    fun y before after o q hl hs ha others => ⟨fun p vs c => ?_, fun lead lost => ?_⟩,
    fun y before after o p vs g x a c he ht below met others => ?_, ?_, ?_, ?_⟩
  · cases period with
    | none => exact opens_at_once c.committed hp ⟨n1, n2⟩ room trip hs once current c
    | some q => exact opens_at_once (period := some q) c.committed hp ⟨n1, n2⟩ room trip hs once current c
  · rw [mvsPeriodStart_one hl hs ha others]
    exact c.work_activate (hs := []) (.inl rfl)
  · rw [mvsPeriodStart_one hl hs ha others]
    exact work_activate_travelless (y := y.withOrders _) lead lost
  · exact c.mvsReading he ht below met others
  · intro y k n h hc hp lead n1 n2 fresh room trip works at_ top low ends
    have bound : y.usesBound k h := by
      refine Yard.usesBound_iff.1 (List.all_eq_true.2 fun v hv => ?_)
      obtain ⟨x, hx, mv⟩ := List.mem_flatMap.1 hv
      obtain ⟨side, ms, rfl⟩ := List.mem_map.1 mv
      exact Option.isSome_iff_ne_none.2 ((works x hx).2 side ms)
    have ad {staged : List Qualifier} (hw : (askFor k n h none 0 staged).whenHolder = none) :
        (askFor k n h none 0 staged).Admitted h y := askFor_admitted hp lead fun m hm => by simp [hw] at hm
    have sound : (askFor k n h none 0 []).Sound h y := askFor_sound ⟨n1, n2⟩ (fun o mo => (fresh o mo).1) (by simp) bound
    have limit {r : EndReason} (e : limitMet y k (y.mvs.worked h) = some r) : ends [] r :=
      givesOrder (period := none) hc (sound.ends (ad rfl) hc lead (by simp [askFor]; exact fun e => nomatch e) trip room rfl rfl
        (fun o mo => (fresh o mo).2) (fun x hx => (works x hx).1) (endAtActivation_limit e))
    refine ⟨fun c => limit (limitMet_meets_top c.1 c.2), fun c d => limit (limitMet_meets_landing c d.1 d.2),
      fun c hi lo hclock hq => ?_⟩
    have until_ := askFor_untilPeriod_sound (k := k) ⟨n1, n2⟩ (fun o mo => (fresh o mo).1) hq bound
    exact givesOrder (period := none) hc (until_.ends (ad rfl) hc lead (fun _ => by simp [hclock]) trip room rfl rfl
        (fun o mo => (fresh o mo).2) (fun x hx => (works x hx).1) (endAtActivation_period (limitMet_meets_none hi lo) hclock rfl))
  · intro y o before after v p rep rep' tm hl others lead hs hh side alone shape hv pend there best lags own other told
    have report : p.asReport = some rep := by rcases shape with ⟨rfl, rfl⟩ | ⟨rfl, rfl⟩ <;> rfl
    have same (x : Holder) (mark : Bool) : lags x mark = y.lagsOnce o best x mark := Bool.and_assoc _ _ _
    rw [valveReport_runs hl others lead hs hh alone report hv pend there]
    simp only [own, other, same]
    rfl
  · intro y n h t src g pi po ti tq ci co target hc hp alone n1 n2 fresh room trip ht hg under bi bo vi vo unused free ranges cracked
    have fill : ∃ (p : Commanded) (code : CmdCode), (cracked → p = .cracked ∧ code = .valveCrack) ∧
        (¬cracked → p = .opened ∧ code = .valveOpen) ∧ code = p.cmdCode ∧ ((p = .cracked ∧ cracked) ∨ (p = .opened ∧ ¬cracked)) := by
      by_cases c : cracked
      · exact ⟨.cracked, .valveCrack, fun _ => ⟨rfl, rfl⟩, fun n => absurd c n, rfl, .inl ⟨rfl, c⟩⟩
      · exact ⟨.opened, .valveOpen, fun n => absurd n c, fun _ => ⟨rfl, rfl⟩, rfl, .inr ⟨rfl, c⟩⟩
    obtain ⟨p, code, hcr, hop, rfl, position⟩ := fill
    refine ⟨p, _, hcr, hop, ?_⟩
    let a := askFor .fill n h none 0 (target.toList.map .untilTravel)
    have ad : a.Admitted h y := askFor_admitted hp (by simp [alone]) fun m hm => by cases target <;> simp [askFor, OrderAsk.whenHolder] at hm
    have bound : y.usesBound .fill h := by
      simp [Yard.usesBound, Mvs.worked, alone, OrderKind.fills, OrderKind.draws, bi]
    have sound : a.Sound h y :=
      askFor_untilTravel_sound ⟨n1, n2⟩ (fun o mo => (fresh o mo).1) ranges bound
    have finish : a.finish = target.elim .absent .untilTravel := by cases target <;> rfl
    have limited : limitTarget .fill (y.yds.geometry.get h) a.finish =
        (target.elim .absent fun x => .untilTravel (min x g.topStop), decide (∃ x ∈ target, g.topStop < x)) := by
      rw [hg, finish]
      cases target with
      | none => simp [limitTarget]
      | some x => simpa using limitTarget_fill g x
    have endless (q : Nat) : (a.order h y).ready.finish ≠ .untilPeriod q := by
      change (limitTarget .fill (y.yds.geometry.get h) a.finish).1 ≠ _
      rw [limited]
      cases target <;> simp
    have can := canOpen_fill (o := (a.order h y).ready) (p := p) hc alone fresh rfl rfl rfl endless ht hg under bi bo vi vo unused free
      position
    have undated : a.period.isSome = true ∨ a.finish.isPeriod = true → y.gdc.clock ≠ none := by
      rw [finish]
      cases target <;> simp [a, askFor, EndCond.isPeriod]
    have now : eligibleAtOnce a.start y.gdc.clock = true := by cases target <;> rfl
    have given := givesOrder (period := none) hc (sound.opens ad undated (fun _ => trip) room now can)
    rw [toOpening_fill (o := (a.order h y).ready) alone rfl rfl vi vo, show a.kind = .fill from rfl, limited, settled_decide] at given
    have order : ({ (a.order h y).ready with state := .opening, eligible := false } : Order) =
        ⟨n, h, .fill, .absent, target.elim .absent fun x => .untilTravel (min x g.topStop), .unset, 0, false, false, false, .opening,
          none⟩ := by
      have e := congrArg (·.1) limited
      cases target <;> simp_all [a, OrderAsk.order, Order.ready, askFor, OrderAsk.start, Qualifier.isWhen]
    rw [order] at given
    cases target <;> exact given

end Sys2Proof.Machine
end

section
/-! O15: the roster described (R37, R85, R95, R117). -/

namespace Sys2Proof.Machine

section
variable {y z : Yard} {a : Nat} {e : Entry}

/-! ### OUTSTATION of a present outstation (R117) -/

/-- An entry takes its place by address. -/
theorem insertEntry_eq {l : List Entry} (asc : l.Pairwise fun x z => x.address < z.address) :
    insertEntry e l = l.filter (fun x => decide (x.address < e.address)) ++ e :: l.filter (fun x => decide (e.address < x.address)) := by
  induction l with
  | nil => rfl
  | cons x xs ih =>
    obtain ⟨first, rest⟩ := List.pairwise_cons.1 asc
    have above (h : e.address ≤ x.address) : xs.filter (fun z => decide (z.address < e.address)) = [] ∧
        xs.filter (fun z => decide (e.address < z.address)) = xs :=
      ⟨List.filter_eq_nil_iff.2 fun z mz => by have := first z mz; simp; omega,
        List.filter_eq_self.2 fun z mz => by have := first z mz; simp; omega⟩
    rw [insertEntry]
    by_cases lt : e.address < x.address
    · simp [lt, Nat.not_lt.2 lt.le, above lt.le]
    · by_cases eq : e.address = x.address
      · have under : ¬x.address < e.address := by omega
        simp only [if_neg lt, if_pos eq, List.filter_cons, decide_eq_false under, decide_eq_false lt, Bool.false_eq_true, if_false,
          above eq.le, List.nil_append]
      · have gt : x.address < e.address := by omega
        simp [lt, eq, gt, ih rest]

theorem isCommitted_opened (ho : y.yds.desc = .opened) : y.isCommitted = false := by simp [Yard.isCommitted, ho]

theorem inAddress (h1 : 1 ≤ a) (h30 : a ≤ 30) : (decide (a < 1) || decide (30 < a)) = false := by
  simp only [Bool.or_eq_false_iff, decide_eq_false_iff_not]
  omega

theorem describeOutstation_enters {k : OutstationKind} {sleeper : Bool} (ho : y.yds.desc = .opened) (h1 : 1 ≤ a) (h30 : a ≤ 30)
    (room : (y.scs.entryAt a).isNone = true → y.scs.roster.length < 24) :
    describeOutstation a true (some k) sleeper y =
      ({ y with scs := { y.scs with roster := insertEntry ⟨a, k, sleeper, y.scs.pointsAt a, .fresh⟩ y.scs.roster } }, okAnswer) := by
  have fits : ((y.scs.entryAt a).isNone && decide (24 ≤ y.scs.roster.length)) = false := by
    cases e : (y.scs.entryAt a).isNone
    · rfl
    · simpa using room e
  simp only [describeOutstation, isCommitted_opened ho, inAddress h1 h30, fits, if_true, Bool.false_eq_true, if_false]
  rfl

theorem describeOutstation_full {k : OutstationKind} {sleeper : Bool} (ho : y.yds.desc = .opened) (h1 : 1 ≤ a) (h30 : a ≤ 30)
    (new : y.scs.entryAt a = none) (full : 24 ≤ y.scs.roster.length) :
    describeOutstation a true (some k) sleeper y = (y, refuse .listFull) := by
  simp only [describeOutstation, isCommitted_opened ho, inAddress h1 h30, new, full, decide_true, Option.isNone_none,
    Bool.and_self, if_true, Bool.false_eq_true, if_false]

theorem entryAt_eq_none : y.scs.entryAt a = none ↔ ∀ e ∈ y.scs.roster, e.address ≠ a := by simp [Scs.entryAt]

theorem entryAt_of_mem (asc : y.scs.roster.Pairwise fun x z => x.address < z.address) (me : e ∈ y.scs.roster) (he : e.address = a) :
    y.scs.entryAt a = some e := by
  cases found : y.scs.entryAt a with
  | none => exact absurd he (entryAt_eq_none.1 found e me)
  | some x =>
    have mx : x ∈ y.scs.roster := List.mem_of_find?_eq_some found
    by_contra ne
    have symm : Std.Symm fun x z : Entry => x.address ≠ z.address := ⟨fun _ _ => Ne.symm⟩
    have apart : y.scs.roster.Pairwise fun x z => x.address ≠ z.address := asc.imp fun h => h.ne
    exact apart.forall mx me (fun c => ne (by rw [c])) ((Scs.entryAt_address found).trans he.symm)

/-! ### POINT (R117) -/

theorem describePoint_sets {ch : Nat} {present : Bool} {kind : Option PointKind} (ho : y.yds.desc = .opened) (hc : ch ≤ 3)
    (there : ∃ e ∈ y.scs.roster, e.address = a) (hk : present = true → kind ≠ none) :
    describePoint a ch present kind y =
      ({ y with scs := { y.scs with roster := y.scs.roster.map fun e =>
        if e.address = a then { e with points := e.points.set ch (if present then kind else none) } else e } }, okAnswer) := by
  have found : (y.scs.entryAt a).isNone = false := by
    cases e : y.scs.entryAt a with
    | none =>
      obtain ⟨x, mx, hx⟩ := there
      exact absurd hx (entryAt_eq_none.1 e x mx)
    | some _ => rfl
  have kinded : (present && kind.isNone) = false := by
    cases present
    · rfl
    · simpa [Option.isSome_iff_ne_none] using hk rfl
  simp only [describePoint, isCommitted_opened ho, found, kinded, if_neg (Nat.not_lt.2 hc), Bool.false_eq_true, if_false,
    Yard.updScs, Scs.updEntry, beq_iff_eq]

theorem describePoint_unknown {ch : Nat} {present : Bool} {kind : Option PointKind} (ho : y.yds.desc = .opened)
    (gone : ∀ e ∈ y.scs.roster, e.address ≠ a) : describePoint a ch present kind y = (y, noSuch 1) := by
  simp [describePoint, isCommitted_opened ho, entryAt_eq_none.2 gone]

/-! ### OUTSTATION of an outstation that is not present (R37, R85, R95, R117) -/

/-- What the owner of a command makes of its return as undelivered while OPEN. -/
def returned (day period : Option Nat) (m : Yard) (c : Command) : Yard :=
  match c.owner with
  | .governor d =>
    { m with dgu := { m.dgu with
      districts := m.dgu.districts.set d { m.dgu.districts.get d with govPending := false, govOutcome := .undelivered } } }
  | .valve v =>
    { m with
      mvs := { m.mvs.setValve v { m.mvs.valve v with timer := .idle } with
        unmanaged := m.mvs.unmanaged.set v.holder true
        shutPending := m.mvs.shutPending.set v.holder false }
      notices := m.notices.raise .valveStuck v.holder.number
        ((sideCode v.side + 256 * (m.mvs.valve v).commanded.code : Nat) : Int) day period }
  | .booster _ => m

/-- Whether a command's return finds no active order of its valve. -/
def Yard.released (y : Yard) (c : Command) : Prop :=
  ∀ v, c.owner = .valve v → y.mvs.activeOrder v.holder = none ∨ y.yds.bind.valve v = none

theorem returnCommand_open {c : Command} (ho : y.yds.desc = .opened) (free : y.released c) :
    returnCommand c (.undelivered 0) y = returned (y.gdc.clock.map (·.day)) (y.gdc.clock.map (·.period)) y c := by
  cases w : c.owner with
  | governor d =>
    simp only [returnCommand, returned, w, governorOutcome, Yard.isCommitted, Yard.updDistrict, Yard.updDgu, ho]
    rfl
  | booster d => simp [returnCommand, returned, w, boosterOutcome, Yard.isCommitted, ho]
  | valve v =>
    have fails : returnCommand c (.undelivered 0) y = work [.failed v] y := by simp only [returnCommand, w, valveOutcome]
    rw [fails, work_failed_released (free v w)]
    simp only [returned, w]
    rcases v with ⟨k, s⟩
    cases s <;> rfl

/-- What decides whether a valve belongs to an active order, a return leaves. -/
theorem returned_frame (day period : Option Nat) (m : Yard) (c : Command) :
    (returned day period m c).yds = m.yds ∧ (returned day period m c).gdc = m.gdc ∧
      (returned day period m c).mvs.orders = m.mvs.orders ∧ (returned day period m c).mvs.coupled = m.mvs.coupled := by
  unfold returned
  cases c.owner <;> simp

theorem returned_scs (day period : Option Nat) (u : Scs) (m : Yard) (c : Command) :
    returned day period { m with scs := u } c = { returned day period m c with scs := u } := by
  unfold returned
  cases c.owner <;> rfl

theorem returnAll_open {cs : List Command} (ho : y.yds.desc = .opened) (free : ∀ c ∈ cs, y.released c) :
    returnAll 0 cs y = cs.foldl (returned (y.gdc.clock.map (·.day)) (y.gdc.clock.map (·.period))) y := by
  induction cs generalizing y with
  | nil => rfl
  | cons c cs ih =>
    obtain ⟨yds, gdc, orders, coupled⟩ := returned_frame (y.gdc.clock.map (·.day)) (y.gdc.clock.map (·.period)) y c
    have first := returnCommand_open ho (free c List.mem_cons_self)
    have rest := ih (y := returnCommand c (.undelivered 0) y) (by rw [first, yds, ho]) fun d hd v w => by
      rw [first, Mvs.activeOrder, Mvs.orderHolder_congr coupled, orders, yds]
      exact free d (List.mem_cons_of_mem _ hd) v w
    rw [first, gdc] at rest
    simpa only [returnAll, List.foldl_cons, first] using rest

/-- The yard without an outstation, its points, its commands and its loads (R117). -/
def Yard.without (y : Yard) (a : Nat) : Scs :=
  { y.scs with
    roster := y.scs.roster.filter (fun e => decide (e.address ≠ a))
    commands := y.scs.commands.filter fun c => decide (c.outstation ≠ a)
    loads := y.scs.loads.filter (fun l => decide (l.address ≠ a))
    rotating :=
      if y.scs.rotating = some a then nextAbove (y.scs.roster.filter (fun e => decide (e.address ≠ a))) a else y.scs.rotating }

theorem removeEntry_open (ho : y.yds.desc = .opened)
    (free : ∀ c ∈ y.scs.commands, c.outstation = a → y.released c) : removeEntry a y =
      { (y.scs.commands.filter fun c => decide (c.outstation = a)).foldl
          (returned (y.gdc.clock.map (·.day)) (y.gdc.clock.map (·.period))) y with scs := y.without a } := by
  have parts : (y.updScs fun u =>
      let roster := u.roster.filter fun e => !(e.address == a)
      { u with
        roster := roster
        commands := u.commands.filter fun c => !(c.outstation == a)
        loads := u.loads.filter fun l => !(l.address == a)
        rotating := if u.rotating == some a then nextAbove roster a else u.rotating }) = { y with scs := y.without a } := by
    simp [Yard.updScs, Yard.without, beq_eq_decide]
  have mine : y.scs.commands.filter (·.outstation == a) = y.scs.commands.filter fun c => decide (c.outstation = a) := rfl
  unfold removeEntry
  rw [parts, mine, returnAll_open (y := { y with scs := y.without a }) ho fun c mc => ?_]
  · exact List.foldl_hom (fun m : Yard => { m with scs := y.without a }) fun m c => returned_scs _ _ _ m c
  · obtain ⟨mc, at_⟩ := List.mem_filter.1 mc
    exact free c mc (by simpa using at_)

theorem describeOutstation_leaves {k : Option OutstationKind} {sleeper : Bool} (ho : y.yds.desc = .opened) (h1 : 1 ≤ a) (h30 : a ≤ 30) :
    describeOutstation a false k sleeper y = (removeEntry a y, okAnswer) := by
  simp only [describeOutstation, isCommitted_opened ho, inAddress h1 h30, Bool.false_eq_true, if_false]

end

/-- Settles O15, by the entry that stands at the address, and by the owners of the commands that it takes with it. -/
theorem rosterDescribed : Obligations.RosterDescribed := by
  intro y a ho h1 h30
  refine ⟨fun k sleeper asc => ?_, fun ch k hc there => ⟨?_, fun x => ?_⟩, fun gone ch x z => ?_, fun x z => ?_⟩
  · intro fs
    have gives {y' : Yard} {d : Decision} (e : describeOutstation a true (some k) sleeper y = (y', d)) :
        Gives 0x14#8 .outstation (formOf layOutstation) fs y y' d := by
      refine gives_of_plain (fun _ _ _ => rfl) (Eq.trans ?_ e)
      cases k <;> cases sleeper <;> simp [fs, natAt, intAt, fieldAt, flagAt, outstationKindOf, OutstationKind.code]
    refine ⟨fun room new => gives ?_, fun e me he => gives ?_, fun full new => gives ?_⟩
    · rw [describeOutstation_enters ho h1 h30 fun _ => room, insertEntry_eq asc, Scs.pointsAt, entryAt_eq_none.2 new]
      rfl
    · have found := entryAt_of_mem asc me he
      rw [describeOutstation_enters ho h1 h30 (by simp [found]), insertEntry_eq asc, Scs.pointsAt, found]
      rfl
    · exact describeOutstation_full ho h1 h30 (entryAt_eq_none.2 new) full
  · refine gives_of_plain (fun _ _ _ => rfl) (Eq.trans ?_ (describePoint_sets (present := true) (kind := some k) ho hc there (by simp)))
    cases k <;> simp [natAt, intAt, fieldAt, flagAt, pointKindOf, pointKindCode]
  · refine gives_of_plain (fun _ _ _ => rfl) (Eq.trans ?_ (describePoint_sets (present := false) (kind := none) ho hc there (by simp)))
    simp [natAt, intAt, fieldAt, flagAt, describePoint]
  · exact gives_of_plain (fun _ _ _ => rfl) (describePoint_unknown ho gone)
  · intro told left free
    have same : told = returned (y.gdc.clock.map (·.day)) (y.gdc.clock.map (·.period)) :=
      funext fun m => funext fun c => by
        rcases c with ⟨_, _, _, _, owner, _, _, _⟩
        cases owner <;> rfl
    have gone := removeEntry_open (a := a) ho free
    refine gives_of_plain (fun _ _ _ => rfl) ?_
    have leaves := describeOutstation_leaves (k := (fieldAt [some (a : Int), some 0, x, z] 2).bind fun k => outstationKindOf k.toNat)
      (sleeper := flagAt [some (a : Int), some 0, x, z] 3) ho h1 h30
    rw [gone, ← same] at leaves
    exact leaves

end Sys2Proof.Machine
end

section
/-! SUPPORT. A reply taken whole, and how the scan goes on after it (R98, R111, R125 to R127). -/

namespace Sys2Proof.Machine

section
variable {y z w : Yard} {a : Nat} {e : Entry}

/-! ### How the scan goes on -/

/-- A roster entry but for its failed wait, which falls at the start of a POLL phase (R119). -/
def Entry.lasting (e : Entry) : Entry := { e with dyn := { e.dyn with failedWait := 0 } }

/-- A command but for the marks of its sending (R126, R128). -/
def Command.told (c : Command) : Command := { c with sends := 0, inFlight := false, taken := false }

/-- A load but for the marks of its sending (R130). -/
def Load.asked (l : Load) : Load := { l with sends := 0, inFlight := false, taken := false }

/-- What going on with the scan leaves: all but the line and the sequencer, and there the roster but for the failed waits, and the
commands and loads but for the marks of their sending. -/
structure Yard.GoesOn (y z : Yard) : Prop where
  frame : z = { y with
    ylc := z.ylc
    scs := z.scs }
  roster : z.scs.roster.map Entry.lasting = y.scs.roster.map Entry.lasting
  commands : z.scs.commands.map Command.told = y.scs.commands.map Command.told
  loads : z.scs.loads.map Load.asked = y.scs.loads.map Load.asked

theorem Yard.GoesOn.refl (y : Yard) : y.GoesOn y := ⟨rfl, rfl, rfl, rfl⟩

theorem Yard.GoesOn.trans (h : y.GoesOn z) (k : z.GoesOn w) : y.GoesOn w where
  frame := by rw [k.frame, h.frame]
  roster := k.roster.trans h.roster
  commands := k.commands.trans h.commands
  loads := k.loads.trans h.loads

theorem Yard.GoesOn.of_ylc (h : z = { y with ylc := z.ylc }) : y.GoesOn z := by
  rw [h]
  exact ⟨rfl, rfl, rfl, rfl⟩

theorem Yard.GoesOn.handed {x : Exchange} (h : y.GoesOn z) : y.GoesOn (handExchange x z) := h.trans (.of_ylc (handExchange_frame x z))

theorem Yard.GoesOn.settled (h : y.GoesOn z) : y.GoesOn (settle z) := h.trans (.of_ylc (settle_frame z))

theorem Yard.GoesOn.askPoll (y : Yard) : y.GoesOn (askPoll y) := by
  refine Yard.GoesOn.handed ⟨rfl, ?_, rfl, rfl⟩
  simp only [Yard.updScs, List.map_map, List.map_inj_left, Function.comp_apply]
  intro e _
  unfold Entry.waitFalls
  split <;> rfl

theorem Yard.GoesOn.startCycle (y : Yard) : y.GoesOn (startCycle y) := by
  unfold Machine.startCycle
  dsimp only
  have begun : y.GoesOn (y.updScs fun u =>
    { u with cycle := (u.cycle + 1) % 65536, interval := y.yds.scan, cycleStart := y.now, wakeDue := wakeIsDue y }) :=
    ⟨rfl, rfl, rfl, rfl⟩
  split
  · exact .handed (begun.trans ⟨rfl, rfl, rfl, rfl⟩)
  · exact begun.trans (.askPoll _)

theorem Yard.GoesOn.endOrder (y : Yard) : y.GoesOn (endOrder y) := by
  unfold Machine.endOrder
  split
  · exact .handed ⟨rfl, rfl, rfl, rfl⟩
  · exact .startCycle y

theorem nextCommand_told (u : Scs) (cs : List Command) : (nextCommand u cs).1.map Command.told = cs.map Command.told := by
  induction cs with
  | nil => rfl
  | cons c cs ih =>
    unfold nextCommand
    dsimp only
    split
    · simp [ih]
    · split
      · rfl
      · simp [ih]; rfl

theorem nextLoad_asked (u : Scs) (ls : List Load) : (nextLoad u ls).1.map Load.asked = ls.map Load.asked := by
  induction ls with
  | nil => rfl
  | cons l ls ih =>
    unfold nextLoad
    dsimp only
    split
    · simp [ih]
    · split
      · rfl
      · simp [ih]; rfl

theorem Yard.GoesOn.orderOn (y : Yard) : y.GoesOn (orderOn y) := by
  have next : y.GoesOn (y.updScs fun u => { u with commands := (nextCommand y.scs y.scs.commands).1 }) :=
    ⟨rfl, rfl, nextCommand_told _ _, rfl⟩
  unfold Machine.orderOn
  dsimp only
  split
  · exact next.handed
  · exact next.trans (.endOrder _)

theorem Yard.GoesOn.loadOn (y : Yard) : y.GoesOn (loadOn y) := by
  have next : y.GoesOn (y.updScs fun u => { u with loads := (nextLoad y.scs y.scs.loads).1 }) :=
    ⟨rfl, rfl, rfl, nextLoad_asked _ _⟩
  unfold Machine.loadOn
  split
  · exact .startCycle y
  · split
    · exact (Yard.GoesOn.refl y).handed
    · split
      · exact .handed ⟨rfl, rfl, rfl, rfl⟩
      · dsimp only
        split
        · exact next.handed
        · exact next.trans ⟨rfl, rfl, rfl, rfl⟩

theorem entryAt_lasting {u u' : Scs} (hr : u'.roster.map Entry.lasting = u.roster.map Entry.lasting) (a : Nat) :
    (u'.entryAt a).map Entry.lasting = (u.entryAt a).map Entry.lasting := by
  have found : ∀ v : Scs, (v.entryAt a).map Entry.lasting = (v.roster.map Entry.lasting).find? (·.address == a) := fun v => by
    rw [List.find?_map]
    rfl
  rw [found, found, hr]

/-- The entry at an address after the scan has gone on. -/
theorem Yard.GoesOn.entryAt (h : y.GoesOn z) (he : y.scs.entryAt a = some e) :
    ∃ e', z.scs.entryAt a = some e' ∧ e'.lasting = e.lasting := by
  have k := entryAt_lasting h.roster a
  rw [he] at k
  simpa using k

/-! ### A reply that is taken (R98, R111) -/

/-- The yard at the moment a reply is in: the line has been busy then, and goes to GUARD (R98). -/
def Yard.answered (y : Yard) (now : Time) : Yard :=
  { y with
    now := now
    ylc := { y.ylc with busy := now, line := .guard, flight := none, timer := none } }

theorem replyComplete_taken {t moment n : Nat} {mended : Bool} {f : Flight} {g : Frame} {bytes : List Byte} {r : Reply}
    (receiving : y.ylc.line = .receiving) (timer : y.ylc.timer = some t) (flight : y.ylc.flight = some f)
    (header : f.header = some (n, mended)) (frame : f.exchange = .frame g) (intime : max y.now moment ≤ t)
    (length : bytes.length = n) (parsed : parseReply (y.scs.pointsAt g.address) g bytes = some r) :
    replyComplete moment (bytes ++ crcBytes bytes) y =
      settle (scsOutcome (.frame g) (.good mended r) (y.answered (max y.now moment))) := by
  have out : replyOutcome (y.scs.pointsAt g.address) g mended n (bytes ++ crcBytes bytes) = .good mended r := by
    simp [replyOutcome, ← length, parsed]
  have bound : y.ylc.flight.bind (·.header) = some (n, mended) := by rw [flight]; exact header
  have of : y.ylc.frame = some g := by simp [Ylc.frame, flight, frame]
  unfold replyComplete
  simp only [receiving, timer, bound, of, busyAt, Yard.reach, Yard.updYlc]
  rw [if_pos (by simpa [length] using intime), out]
  simp only [endExchange, flight, frame]
  rfl

end

end Sys2Proof.Machine
end

section
/-! O40: how the payload of a reply is taken. The IDENT of a PROBE and the ACK of a LOAD (R121, R130). -/

namespace Sys2Proof.Machine

section
variable {y z : Yard} {a n ch : Nat} {e : Entry} {l : Load} {c : AckCode} {mended : Bool}

/-! ### What the payloads of IDENT and ACK say (R107, R121) -/

theorem outstationKindOf_code (k : OutstationKind) : outstationKindOf k.code = some k := by cases k <;> rfl

theorem fittedKindOf_fittedCode (k : Option PointKind) : fittedKindOf (fittedCode k) = some k := by
  rcases k with _ | k
  · rfl
  · cases k <;> rfl

theorem parseIdent_codes {bytes : List Byte} {kind : OutstationKind} {p : Four (Option PointKind)}
    (h : bytes.map (·.toNat) = [OutstationKind.code kind, fittedCode p.a0, fittedCode p.a1, fittedCode p.a2, fittedCode p.a3]) :
    parseIdent bytes = some (.ident ⟨kind, p⟩) := by
  rcases bytes with _ | ⟨b0, _ | ⟨b1, _ | ⟨b2, _ | ⟨b3, _ | ⟨b4, _ | ⟨b5, bs⟩⟩⟩⟩⟩⟩ <;> try simp at h
  simp only [parseIdent, h, outstationKindOf_code, fittedKindOf_fittedCode]

theorem ackCodeOf_le (h : n ≤ 5) : ∃ c, ackCodeOf n = some c := by
  interval_cases n <;> exact ⟨_, rfl⟩

/-- What an ACK makes of a load (R130). -/
theorem loadTaken_ack (hc : ackCodeOf n = some c) (h : n ≤ 5) : loadTaken (.good mended (.ack c ch)) =
    if n ≤ 1 then some .done else if n = 4 then some .localHand else if n = 5 then some .refused else none := by
  interval_cases n <;> cases hc <;> rfl

/-! ### The entry that an outcome is counted in (R115, R121) -/

theorem entryAt_updEntryDyn (f : EntryDyn → EntryDyn) (he : y.scs.entryAt a = some e) :
    (updEntryDyn a f y).scs.entryAt a = some { e with dyn := f e.dyn } :=
  Scs.entryAt_updEntry (fun e : Entry => { e with dyn := f e.dyn }) (fun _ => rfl) he

theorem entryAt_countOutcome (o : ExOutcome) (he : y.scs.entryAt a = some e) :
    (countOutcome a o y).scs.entryAt a = some { e with dyn := { e.dyn with counters := e.dyn.counters.count o } } :=
  entryAt_updEntryDyn _ he

/-- The IDENT of a PROBE is recorded and compared with the entry (R121). -/
theorem probeOutcome_ident {f : Fitted} (he : y.scs.entryAt a = some e) :
    ∃ (z : Yard) (e' : Entry), settle (probeOutcome a (.good mended (.ident f)) y) = z ∧
      z = { y with
        ylc := z.ylc
        scs := z.scs } ∧
      z.scs.entryAt a = some e' ∧ e'.dyn.fitted = some f ∧
      e'.dyn.identity = (if f.kind = e.kind ∧ f.points = e.points then .matched else .mismatched) ∧
      e'.dyn.counters = e.dyn.counters := by
  have told := entryAt_updEntryDyn (fun d => { d with
    fitted := some f
    identity := if identMatches e f then .matched else .mismatched }) he
  have goes := (Yard.GoesOn.loadOn (updEntryDyn a (fun d => { d with
    fitted := some f
    identity := if identMatches e f then .matched else .mismatched }) y)).settled
  obtain ⟨e', found, same⟩ := goes.entryAt told
  have dyn := congrArg Entry.dyn same
  simp only [Entry.lasting, EntryDyn.mk.injEq] at dyn
  obtain ⟨-, -, -, -, -, identity, fitted, counters, -, -⟩ := dyn
  refine ⟨_, e', ?_, goes.frame, found, fitted, ?_, counters⟩
  · simp only [probeOutcome, he]
  · rw [identity]
    simp [identMatches]

/-! ### The outcome of a LOAD (R130) -/

/-- The outcome of the one load of the list. -/
theorem loadOutcome_one {o : ExOutcome} (hl : y.scs.loads = [l]) (sent : l.inFlight = true) : loadOutcome a o y =
    loadOn (match loadTaken o with
      | some r => endLoad a r y
      | none => if 3 ≤ l.sends then endLoad a .failed y
        else { y with scs := { y.scs with loads := [{ l with inFlight := false }] } }) := by
  simp only [loadOutcome, hl, List.find?_cons, sent]
  cases loadTaken o with
  | some r => rfl
  | none =>
    dsimp only
    split
    · rfl
    · simp [Yard.updScs, hl]

/-- A load that ends with an outcome has left the list, and its entry tells the outcome, as the scan goes on. -/
theorem endLoad_ends {r : LoadOutcome} (hl : y.scs.loads = [l]) (sent : l.inFlight = true) (he : y.scs.entryAt a = some e) :
    ∃ e', (settle (loadOn (endLoad a r y))).scs.entryAt a = some e' ∧
      (settle (loadOn (endLoad a r y))).scs.loads = [] ∧ e'.dyn.load = r := by
  have goes := (Yard.GoesOn.loadOn (endLoad a r y)).settled
  obtain ⟨e', found, same⟩ := goes.entryAt (entryAt_updEntryDyn (y := y.updScs fun u =>
    { u with loads := u.loads.filter fun l => !l.inFlight }) (fun d => { d with load := r }) he)
  have none : (endLoad a r y).scs.loads = [] := by
    simp [endLoad, updEntryDyn, Yard.updScs, Scs.updEntry, hl, sent]
  refine ⟨e', found, ?_, congrArg (fun e : Entry => e.dyn.load) same⟩
  have empty := goes.loads
  rw [none] at empty
  exact List.map_eq_nil_iff.1 empty

/-- A load that has failed a send and stays in the list, as the scan goes on. -/
theorem load_stays (he : y.scs.entryAt a = some e) :
    let z := { y with scs := { y.scs with loads := [{ l with inFlight := false }] } }
    ∃ e', (settle (loadOn z)).scs.entryAt a = some e' ∧ e'.dyn.load = e.dyn.load ∧
      ∃ l', (settle (loadOn z)).scs.loads = [l'] ∧ l'.address = l.address ∧ l'.param = l.param ∧ l'.value = l.value := by
  intro z
  have goes := (Yard.GoesOn.loadOn z).settled
  obtain ⟨e', found, same⟩ := goes.entryAt (e := e) he
  have one := goes.loads
  rw [List.map_singleton, List.map_eq_singleton_iff] at one
  obtain ⟨l', hl', asked⟩ := one
  have kept := congrArg (fun x : Entry => x.dyn.load) same
  simp only [Load.asked, Load.mk.injEq] at asked
  obtain ⟨address, param, value, -⟩ := asked
  exact ⟨e', found, kept, l', hl', address, param, value⟩

/-- What the ACK of a LOAD makes of the one load of the list and of its entry (R130). -/
theorem loadOutcome_ack (hl : y.scs.loads = [l]) (sent : l.inFlight = true) (he : y.scs.entryAt a = some e)
    (hc : ackCodeOf n = some c) (h : n ≤ 5) :
    let failed := (n = 2 ∨ n = 3) ∧ l.sends < 3
    ∃ (z : Yard) (e' : Entry), settle (loadOutcome a (.good mended (.ack c ch)) y) = z ∧ z.scs.entryAt a = some e' ∧
      (failed → e'.dyn.load = e.dyn.load ∧
        ∃ l', z.scs.loads = [l'] ∧ l'.address = l.address ∧ l'.param = l.param ∧ l'.value = l.value) ∧
      (¬failed → z.scs.loads = [] ∧ e'.dyn.load =
        (if n ≤ 1 then .done else if n = 4 then .localHand else if n = 5 then .refused else .failed)) := by
  intro failed
  rw [loadOutcome_one hl sent, loadTaken_ack hc h]
  by_cases still : failed
  · have no : (if n ≤ 1 then some LoadOutcome.done else if n = 4 then some .localHand else if n = 5 then some .refused else none) =
        none := by
      rw [if_neg (by omega), if_neg (by omega), if_neg (by omega)]
    obtain ⟨e', found, kept, stays⟩ := load_stays (l := l) he
    exact ⟨_, e', by rw [no, if_neg (by omega)], found, fun _ => ⟨kept, stays⟩, absurd still⟩
  · have ends : (match (if n ≤ 1 then some LoadOutcome.done else if n = 4 then some .localHand else if n = 5 then some .refused
          else none) with
        | some r => endLoad a r y
        | none => if 3 ≤ l.sends then endLoad a .failed y
          else { y with scs := { y.scs with loads := [{ l with inFlight := false }] } }) =
        endLoad a (if n ≤ 1 then .done else if n = 4 then .localHand else if n = 5 then .refused else .failed) y := by
      by_cases fails : n = 2 ∨ n = 3
      · have third : 3 ≤ l.sends := by by_contra; exact still ⟨fails, by omega⟩
        rcases fails with rfl | rfl <;> simp [third]
      · obtain h1 | rfl | rfl : n ≤ 1 ∨ n = 4 ∨ n = 5 := by omega
        · simp only [if_pos h1]
        · rfl
        · rfl
    obtain ⟨e', found, none, told⟩ := endLoad_ends (r := if n ≤ 1 then .done else if n = 4 then .localHand
      else if n = 5 then .refused else .failed) hl sent he
    exact ⟨_, e', by rw [ends], found, fun f => absurd f still, fun _ => ⟨none, told⟩⟩

/-! ### The clauses of O40 -/

/-- A good reply in time as an event of the core. -/
theorem exec_reply {s : State} {t moment n : Nat} {f : Flight} {g : Frame} {bytes : List Byte} {r : Reply}
    (on : s.powered = true) (receiving : s.yard.ylc.line = .receiving) (timer : s.yard.ylc.timer = some t)
    (flight : s.yard.ylc.flight = some f) (header : f.header = some (n, mended)) (frame : f.exchange = .frame g)
    (intime : max s.yard.now moment ≤ t) (length : bytes.length = n)
    (parsed : parseReply (s.yard.scs.pointsAt g.address) g bytes = some r)
    (taken : settle (scsOutcome (.frame g) (.good mended r) (s.yard.answered (max s.yard.now moment))) = z) :
    exec (.replyComplete moment (bytes ++ crcBytes bytes)) s = concluded { s with yard := z } :=
  congrArg concluded ((if_pos on).trans (by
    rw [replyComplete_taken receiving timer flight header frame intime length parsed, taken]))

end

section
variable {s : State} {moment t a : Nat} {mended : Bool} {f : Flight} {e : Entry}

theorem reply_ident {kind : OutstationKind} {points : Four (Option PointKind)} {bytes : List Byte} (on : s.powered = true)
    (receiving : s.yard.ylc.line = .receiving) (timer : s.yard.ylc.timer = some t) (flight : s.yard.ylc.flight = some f)
    (header : f.header = some (5, mended)) (frame : f.exchange = .frame (.probe a)) (intime : max s.yard.now moment ≤ t)
    (codes : bytes.map (·.toNat) = [OutstationKind.code kind, fittedCode points.a0, fittedCode points.a1, fittedCode points.a2,
      fittedCode points.a3]) (he : s.yard.scs.entryAt a = some e) :
    ∃ (y' : Yard) (e' : Entry), exec (.replyComplete moment (bytes ++ crcBytes bytes)) s = concluded { s with yard := y' } ∧
      y' = { s.yard with now := max s.yard.now moment, ylc := y'.ylc, scs := y'.scs } ∧ y'.scs.entryAt a = some e' ∧
      e'.dyn.fitted = some ⟨kind, points⟩ ∧
      e'.dyn.identity = (if kind = e.kind ∧ points = e.points then .matched else .mismatched) ∧
      e'.dyn.counters = (if mended then { e.dyn.counters with
          corrected := if e.dyn.counters.corrected < 65535 then e.dyn.counters.corrected + 1 else e.dyn.counters.corrected }
        else e.dyn.counters) := by
  have length : bytes.length = 5 := by simpa using congrArg List.length codes
  have counted := entryAt_countOutcome (y := s.yard.answered (max s.yard.now moment)) (.good mended (.ident ⟨kind, points⟩)) he
  obtain ⟨z, e', taken, same, found, fitted, identity, counters⟩ :=
    probeOutcome_ident (mended := mended) (f := ⟨kind, points⟩) counted
  refine ⟨z, e', exec_reply on receiving timer flight header frame intime length (parseIdent_codes codes) taken, same, found,
    fitted, identity, counters.trans ?_⟩
  cases mended <;> rfl

theorem reply_load {param : Nat} {value : Int} {l : Load} {code : Byte} (on : s.powered = true)
    (receiving : s.yard.ylc.line = .receiving) (timer : s.yard.ylc.timer = some t) (flight : s.yard.ylc.flight = some f)
    (header : f.header = some (2, mended)) (frame : f.exchange = .frame (.load a param value))
    (intime : max s.yard.now moment ≤ t) (hcode : code.toNat ≤ 5) (hl : s.yard.scs.loads = [l]) (sent : l.inFlight = true)
    (own : l.address = a) (he : s.yard.scs.entryAt a = some e) :
    let bytes := [code, 0#8]
    let failed := (code.toNat = 2 ∨ code.toNat = 3) ∧ l.sends < 3
    ∃ (y' : Yard) (e' : Entry), exec (.replyComplete moment (bytes ++ crcBytes bytes)) s = concluded { s with yard := y' } ∧
      y'.scs.entryAt a = some e' ∧
      (failed → e'.dyn.load = e.dyn.load ∧
        ∃ l', y'.scs.loads = [l'] ∧ l'.address = a ∧ l'.param = l.param ∧ l'.value = l.value) ∧
      (¬failed → y'.scs.loads = [] ∧
        e'.dyn.load = (if code.toNat ≤ 1 then .done else if code.toNat = 4 then .localHand
          else if code.toNat = 5 then .refused else .failed)) := by
  intro bytes failed
  obtain ⟨c, hc⟩ := ackCodeOf_le hcode
  have parsed : parseReply (s.yard.scs.pointsAt a) (.load a param value) bytes = some (.ack c 0) := by
    simp [parseReply, parseAck, bytes, hc]
  have counted := entryAt_countOutcome (y := s.yard.answered (max s.yard.now moment)) (.good mended (.ack c 0)) he
  have loads : (countOutcome a (.good mended (.ack c 0)) (s.yard.answered (max s.yard.now moment))).scs.loads = [l] := hl
  obtain ⟨z, e', taken, found, stays, ends⟩ := loadOutcome_ack (mended := mended) (ch := 0) loads sent counted hc hcode
  rw [own] at stays
  exact ⟨z, e', exec_reply on receiving timer flight header frame intime rfl parsed taken, found, stays, ends⟩

end

end Sys2Proof.Machine
end

section
/-! O40: the ACK of an ORDER and its owner (R35 to R38, R51, R52, R85, R90, R92, R129). -/

namespace Sys2Proof.Machine

section
variable {y z w : Yard} {n ch : Nat} {c : Command} {k : AckCode} {mended : Bool} {v : Valve} {d : District}

/-! ### What an ACK makes of a command (R129) -/

theorem orderTaken_ack (hk : ackCodeOf n = some k) (h : n ≤ 5) : orderTaken (.good mended (.ack k ch)) =
    if n ≤ 1 then some .delivered else if n = 4 then some .localHand else if n = 5 then some .refused else none := by
  interval_cases n <;> cases hk <;> rfl

/-- The outcome that an ACK returns a command with after some sends, none for a failed send before the third (R129). -/
def ackReturns (n sends : Nat) : Option CmdOutcome :=
  if n ≤ 1 then some .delivered
  else if n = 4 then some .localHand
  else if n = 5 then some .refused
  else if 3 ≤ sends then some (.undelivered 0)
  else none

theorem ackReturns_ok {sends : Nat} (h : n = 0 ∨ n = 1) : ackReturns n sends = some .delivered := if_pos (by omega)
theorem ackReturns_local {sends : Nat} (h : n = 4) : ackReturns n sends = some .localHand := by subst h; rfl
theorem ackReturns_refused {sends : Nat} (h : n = 5) : ackReturns n sends = some .refused := by subst h; rfl

theorem ackReturns_third {sends : Nat} (h : n = 2 ∨ n = 3) (third : ¬((n = 2 ∨ n = 3) ∧ sends < 3)) :
    ackReturns n sends = some (.undelivered 0) := by
  have : 3 ≤ sends := by by_contra; exact third ⟨h, by omega⟩
  rcases h with rfl | rfl <;> simp [ackReturns, this]

/-- A send that has not failed, or that is the third, is returned (R129). -/
theorem ackReturns_some {sends : Nat} (h : n ≤ 5) (last : ¬((n = 2 ∨ n = 3) ∧ sends < 3)) : ∃ r, ackReturns n sends = some r := by
  obtain h01 | h4 | h5 | h23 : (n = 0 ∨ n = 1) ∨ n = 4 ∨ n = 5 ∨ n = 2 ∨ n = 3 := by omega
  · exact ⟨_, ackReturns_ok h01⟩
  · exact ⟨_, ackReturns_local h4⟩
  · exact ⟨_, ackReturns_refused h5⟩
  · exact ⟨_, ackReturns_third h23 last⟩

theorem ackReturns_failed {sends : Nat} (h : (n = 2 ∨ n = 3) ∧ sends < 3) : ackReturns n sends = none := by
  obtain ⟨rfl | rfl, h⟩ := h <;> simp [ackReturns, Nat.not_le.2 h]

/-- The outcome of the one command of the list, by its ACK. -/
theorem orderOutcome_one (hl : y.scs.commands = [c]) (sent : c.inFlight = true) (hk : ackCodeOf n = some k) (h : n ≤ 5) :
    orderOutcome ⟨c.outstation, c.channel⟩ (.good mended (.ack k ch)) y =
      orderOn (match ackReturns n c.sends with
        | some r => returnCommand c r { y with scs := { y.scs with commands := [] } }
        | none => { y with scs := { y.scs with commands := [{ c with inFlight := false }] } }) := by
  have mine : c.isFor ⟨c.outstation, c.channel⟩ = true := by simp [Command.isFor]
  have dropped : dropCommand ⟨c.outstation, c.channel⟩ y = { y with scs := { y.scs with commands := [] } } := by
    simp [dropCommand, Yard.updScs, hl, mine]
  have stays : (y.updScs fun u =>
      { u with commands := u.commands.map fun b => if b.isFor ⟨c.outstation, c.channel⟩ then { b with inFlight := false } else b }) =
      { y with scs := { y.scs with commands := [{ c with inFlight := false }] } } := by
    simp [Yard.updScs, hl, mine]
  simp only [orderOutcome, hl, List.find?_cons, mine, sent, Bool.and_self, orderTaken_ack hk h, dropped, stays]
  by_cases third : 3 ≤ c.sends <;> interval_cases n <;> simp [ackReturns, third]

/-- The ACK of the one command of the list: it is returned to its owner with the list empty, or stays for a further send; then
the ORDER phase goes on (R126, R129). -/
theorem exec_acked {s : State} {t moment : Nat} {f : Flight} {code b : Byte} (on : s.powered = true)
    (receiving : s.yard.ylc.line = .receiving) (timer : s.yard.ylc.timer = some t) (flight : s.yard.ylc.flight = some f)
    (header : f.header = some (2, mended)) (frame : f.exchange = .frame (.order c.outstation c.channel c.code c.value))
    (intime : max s.yard.now moment ≤ t) (hcode : code.toNat ≤ 5) (hb : b.toNat = c.channel)
    (hl : s.yard.scs.commands = [c]) (sent : c.inFlight = true) :
    ∃ (y' : Yard) (l : Ylc) (u : Scs), u.commands = [] ∧
      exec (.replyComplete moment ([code, b] ++ crcBytes [code, b])) s = concluded { s with yard := y' } ∧
      (∀ r, ackReturns code.toNat c.sends = some r → (returnCommand c r { s.yard with
        now := max s.yard.now moment
        ylc := l
        scs := u }).GoesOn y') ∧
      (ackReturns code.toNat c.sends = none → ({ s.yard with
        now := max s.yard.now moment
        ylc := l
        scs := { u with commands := [{ c with inFlight := false }] } } : Yard).GoesOn y') := by
  obtain ⟨k, hk⟩ := ackCodeOf_le hcode
  have parsed : parseReply (s.yard.scs.pointsAt c.outstation) (.order c.outstation c.channel c.code c.value) [code, b] =
      some (.ack k c.channel) := by
    simp [parseReply, parseAck, hb, hk]
  have counted : (countOutcome c.outstation (.good mended (.ack k c.channel)) (s.yard.answered (max s.yard.now moment))).scs.commands =
      [c] := hl
  have one := orderOutcome_one (ch := c.channel) (mended := mended) counted sent hk hcode
  refine ⟨_, (s.yard.answered (max s.yard.now moment)).ylc,
    { (countOutcome c.outstation (.good mended (.ack k c.channel)) (s.yard.answered (max s.yard.now moment))).scs with commands := [] },
    rfl, exec_reply on receiving timer flight header frame intime rfl parsed (congrArg settle one), fun r hr => ?_, fun hr => ?_⟩
  · rw [hr]
    exact (Yard.GoesOn.orderOn _).settled
  · rw [hr]
    exact (Yard.GoesOn.orderOn _).settled

/-! ### What going on with the scan leaves of each block -/

theorem Yard.GoesOn.blocks (h : y.GoesOn z) : z.mvs = y.mvs ∧ z.dgu = y.dgu ∧ z.notices = y.notices := by
  rw [h.frame]
  exact ⟨rfl, rfl, rfl⟩

theorem Yard.GoesOn.noCommands (h : y.GoesOn z) (hc : y.scs.commands = []) : z.scs.commands = [] := by
  have k := h.commands
  rw [hc] at k
  exact List.map_eq_nil_iff.1 k

/-- What no owner of a command touches: the description, the quantities, the accounts, the stocks and the clock. -/
def Yard.aside (y : Yard) : Yds × Qpr × Soa × Hsu × Gdc := (y.yds, y.qpr, y.soa, y.hsu, y.gdc)

theorem aside_of_unmoved (h : z.unmoved = y.unmoved) : z.aside = y.aside := by
  have e : ∀ x : Yard, x.aside = (x.unmoved.yds, x.unmoved.qpr, x.unmoved.soa, x.unmoved.hsu, x.unmoved.gdc) := fun _ => rfl
  rw [e, e, h]

theorem Yard.GoesOn.aside (h : y.GoesOn z) : z.aside = y.aside := by
  rw [h.frame]
  rfl

@[simp] theorem boosterFails_aside (x : BoosterCause) : (boosterFails d x y).aside = y.aside := by
  obtain ⟨n, q, e, -⟩ := boosterFails_spec (y := y) (d := d) (c := x)
  rw [e]
  rfl

@[simp] theorem updDistrict_aside (f : DistrictDyn → DistrictDyn) : (y.updDistrict d f).aside = y.aside := rfl
@[simp] theorem stopFails_aside (x : BoosterCause) : (stopFails d x y).aside = y.aside := rfl

@[simp] theorem boosterOutcome_aside (x : CmdCode) (r : CmdOutcome) : (boosterOutcome d x r y).aside = y.aside := by
  unfold boosterOutcome
  dsimp only
  repeat' split
  all_goals simp

@[simp] theorem governorOutcome_aside (x : Int) (r : CmdOutcome) : (governorOutcome d x r y).aside = y.aside := by
  unfold governorOutcome
  exact (apply_ite Yard.aside _ _ _).trans (ite_self y.aside)

@[simp] theorem returnCommand_aside (r : CmdOutcome) : (returnCommand c r y).aside = y.aside := by
  unfold returnCommand
  split
  · exact aside_of_unmoved (valveOutcome_unmoved _ _ _)
  · simp
  · simp

/-! ### A governor's command (R85) -/

theorem governorOutcome_told (hc : y.yds.desc = .committed) (x : Int) (r : CmdOutcome) : governorOutcome d x r y = { y with
    dgu := { y.dgu with districts := y.dgu.districts.set d { y.dgu.districts.get d with
      govPending := false
      govOutcome := r.recorded
      delivered := if r = .delivered then some x else (y.dgu.districts.get d).delivered } }
    notices := if r = .delivered then y.notices else y.notices.raise .commandUndelivered d.number (x + 16777216 * (r.govCause : Int))
      (y.gdc.clock.map (·.day)) (y.gdc.clock.map (·.period)) } := by
  unfold governorOutcome
  cases r <;> simp [Yard.isCommitted, hc, raiseNotice, Yard.updDistrict, Yard.updDgu, undeliveredDatum]

/-! ### A valve's command, delivered or of no active order (R35, R36, R52) -/

theorem valveOutcome_delivered : valveOutcome v .delivered y = { y with
    mvs := y.mvs.setValve v { y.mvs.valve v with
      timer := if (y.mvs.valve v).commanded.asReport = some (y.mvs.valve v).reported then .idle
        else .running y.now y.yds.valveLimit } } := by
  simp only [valveOutcome, ValveRec.there, beq_iff_eq]
  split <;> rfl

/-- The valve at local hand, its holder UNMANAGED and LOCAL CONTROL raised (R35, R38). -/
def Yard.atLocal (y : Yard) (v : Valve) : Yard :=
  { y with
    mvs := { y.mvs.setValve v { y.mvs.valve v with commanded := .none, timer := .idle } with
      unmanaged := y.mvs.unmanaged.set v.holder true
      shutPending := y.mvs.shutPending.set v.holder false }
    notices := y.notices.raise .localControl v.holder.number (sideCode v.side : Int) (y.gdc.clock.map (·.day))
      (y.gdc.clock.map (·.period)) }

theorem atLocal_eq : setShutPending [v.holder] false (raiseLocal v (setUnmanaged [v.holder] true
    (y.updMvs fun m => m.setValve v { m.valve v with commanded := .none, timer := .idle }))) = y.atLocal v := by
  obtain ⟨h, side⟩ := v
  cases side <;> rfl

theorem atLocal_coupled : (y.atLocal v).mvs.coupled = y.mvs.coupled := by simp [Yard.atLocal]
theorem atLocal_orders : (y.atLocal v).mvs.orders = y.mvs.orders := by simp [Yard.atLocal]

theorem atLocal_activeOrder {h : Holder} : (y.atLocal v).mvs.activeOrder h = y.mvs.activeOrder h := by
  unfold Mvs.activeOrder
  rw [atLocal_orders, Mvs.orderHolder_congr atLocal_coupled]

/-- The other valves of an order that are not commanded SHUT. -/
def Yard.yetToShut (y : Yard) (v : Valve) (o : Order) : List Valve :=
  (allValves (y.atLocal v) o).filter fun w => w != v && ((y.atLocal v).mvs.valve w).commanded != .shut

theorem valveLocal_found {o : Order} (found : orderOfValve (y.atLocal v) v = some o) : valveLocal v y =
    let c := commandAll .shut (y.yetToShut v o) (setUnmanaged ((y.atLocal v).mvs.worked o.holder) true (y.atLocal v))
    work (c.2 ++ lagIfRunning o ++ [.activate o.holder]) (raiseEnded o .localHand (c.1.updMvs (·.dropOrder o.number))) := by
  unfold valveLocal
  dsimp only
  rw [atLocal_eq, found]
  rfl

theorem valveLocal_released (free : y.mvs.activeOrder v.holder = none ∨ y.yds.bind.valve v = none) :
    valveLocal v y = y.atLocal v := by
  have none : orderOfValve (y.atLocal v) v = none := orderOfValve_none.2 (by rw [atLocal_activeOrder]; exact free)
  unfold valveLocal
  dsimp only
  rw [atLocal_eq, none]

end

/-! ### A valve at local hand of an active order (R38, R52) -/

section
variable {y : Yard} {v : Valve} {before after : List Order} {o : Order}

/-- An active order of a valve that goes to local hand can be abandoned: the other orders of its holder wait and are not
eligible, and no order that may follow it in the drawing set is RUNNING (R52, R57, R58). -/
structure Yard.CanAbandon (y : Yard) (before after : List Order) (o : Order) (v : Valve) : Prop where
  committed : y.yds.desc = .committed
  listed : y.mvs.orders = before ++ o :: after
  numbers : ∀ x ∈ before ++ after, x.number ≠ o.number
  others : ∀ x ∈ before ++ after, x.holder = o.holder → x.state = .waiting ∧ x.eligible = false
  lead : y.mvs.isCoupled o.holder = true → o.holder.leads = true
  worked : v.holder ∈ y.mvs.worked o.holder
  bound : y.yds.bind.valve v ≠ none
  active : o.state.active = true
  drawing : o.state = .running → o.kind ≠ .fill → ∀ x ∈ before ++ after, x.state ≠ .running
  room : y.scs.commands = []

/-- The yard with the order abandoned for a valve at local hand, its other valves commanded SHUT (R52). -/
def Yard.abandoned (y : Yard) (v : Valve) (before after : List Order) (o : Order) : Yard :=
  raiseEnded o .localHand (((setUnmanaged ((y.atLocal v).mvs.worked o.holder) true (y.atLocal v)).commandedAll .shut
    (y.yetToShut v o)).withOrders (before ++ after))

theorem abandoned_view {α : Type} (g : Mvs → α) (hg : ∀ m v, g (m.commandTo .shut v) = g m)
    (ho : ∀ (m : Mvs) l, g { m with orders := l } = g m) : g (y.abandoned v before after o).mvs =
      g (setUnmanaged ((y.atLocal v).mvs.worked o.holder) true (y.atLocal v)).mvs :=
  (ho _ _).trans (Mvs.commandTo_fold g hg _ _)

theorem Yard.CanAbandon.valveLocal (c : y.CanAbandon before after o v) : valveLocal v y = y.abandoned v before after o := by
  have found : orderOfValve (y.atLocal v) v = some o := by
    rw [orderOfValve_bound (y := y.atLocal v) c.bound, atLocal_activeOrder]
    exact Mvs.activeOrder_of_worked c.listed (fun x hx e => (c.others x hx e).1) c.lead c.active c.worked
  have few : (y.yetToShut v o).length ≤ 4 :=
    (List.length_filter_le _ _).trans (bothValves_length (y := y.atLocal v) o.holder)
  have shut : commandAll .shut (y.yetToShut v o) (setUnmanaged ((y.atLocal v).mvs.worked o.holder) true (y.atLocal v)) =
      ((setUnmanaged ((y.atLocal v).mvs.worked o.holder) true (y.atLocal v)).commandedAll .shut (y.yetToShut v o), []) := by
    refine commandAll_room c.committed (fun w hw => ?_) (.inr ?_)
    · exact (mem_boundValves (List.mem_filter.1 hw).1).2
    · have none : (setUnmanaged ((y.atLocal v).mvs.worked o.holder) true (y.atLocal v)).scs.commands = [] := c.room
      have less := List.length_filter_le (fun w => decide (Commanded.shut.asReport ≠ some
        ((setUnmanaged ((y.atLocal v).mvs.worked o.holder) true (y.atLocal v)).mvs.valve w).reported)) (y.yetToShut v o)
      rw [none, Yard.elsewhere, List.length_nil]
      omega
  have listed : ((setUnmanaged ((y.atLocal v).mvs.worked o.holder) true (y.atLocal v)).commandedAll .shut
      (y.yetToShut v o)).mvs.orders = before ++ o :: after :=
    (Mvs.commandTo_fold Mvs.orders (fun _ _ => Mvs.commandTo_orders) _ _).trans (atLocal_orders.trans c.listed)
  have dropped : (((setUnmanaged ((y.atLocal v).mvs.worked o.holder) true (y.atLocal v)).commandedAll .shut
      (y.yetToShut v o)).updMvs (·.dropOrder o.number)) = ((setUnmanaged ((y.atLocal v).mvs.worked o.holder) true
        (y.atLocal v)).commandedAll .shut (y.yetToShut v o)).withOrders (before ++ after) :=
    congrArg (fun m => ({ (setUnmanaged ((y.atLocal v).mvs.worked o.holder) true (y.atLocal v)).commandedAll .shut
      (y.yetToShut v o) with mvs := m } : Yard)) (Mvs.dropOrder_listed listed c.numbers)
  rw [valveLocal_found found, shut]
  dsimp only
  rw [dropped]
  refine work_still fun d hd => ?_
  obtain hd | hd := List.mem_append.1 hd
  · rw [List.nil_append] at hd
    unfold lagIfRunning at hd
    split at hd
    · next e =>
      obtain rfl := List.mem_singleton.1 hd
      obtain ⟨running, draws⟩ := Bool.and_eq_true_iff.1 e
      exact congrArg (·, []) (lagTest_idle (c.drawing (by simpa using running) (OrderKind.draws_iff.1 draws)))
    · cases hd
  · obtain rfl := List.mem_singleton.1 hd
    refine tryActivate_none (Mvs.nextEligible_eq_none fun x hx e _ => (c.others x hx ?_).2)
    rw [e]
    refine (congrFun (Mvs.orderHolder_congr (m := y.mvs) ?_) o.holder).trans (Mvs.orderHolder_of_lead c.lead)
    exact (abandoned_view Mvs.coupled (fun _ _ => Mvs.commandTo_coupled) fun _ _ => rfl).trans atLocal_coupled

theorem abandoned_unmanaged {h : Holder} (hh : h ∈ y.mvs.worked o.holder) :
    (y.abandoned v before after o).mvs.unmanaged.get h = true := by
  have e : (y.abandoned v before after o).mvs.unmanaged = _ :=
    abandoned_view Mvs.unmanaged (fun m w => by rcases w with ⟨k, s⟩; cases s <;> rfl) fun _ _ => rfl
  rw [e]
  have worked := Mvs.worked_congr (m := y.mvs) (n := (y.atLocal v).mvs) atLocal_coupled
  refine (markAll_get ((y.atLocal v).mvs.worked o.holder) true _).trans (if_pos ?_)
  rw [worked]
  exact hh

theorem abandoned_shutPending : (y.abandoned v before after o).mvs.shutPending.get v.holder = false := by
  have e : (y.abandoned v before after o).mvs.shutPending = _ :=
    abandoned_view Mvs.shutPending (fun m w => by rcases w with ⟨k, s⟩; cases s <;> rfl) fun _ _ => rfl
  rw [e]
  simp [setUnmanaged, Yard.atLocal, Yard.updMvs]

/-- The records of the valves: those yet to shut are commanded SHUT. -/
theorem abandoned_valve {w : Valve} : (y.abandoned v before after o).mvs.valve w =
    if w ∈ y.yetToShut v o then ⟨.shut, ((y.atLocal v).mvs.valve w).reported, .idle⟩ else (y.atLocal v).mvs.valve w :=
  commandTo_fold_valve _ _

theorem atLocal_valve : (y.atLocal v).mvs.valve v = { y.mvs.valve v with commanded := .none, timer := .idle } := by
  obtain ⟨h, side⟩ := v
  cases side <;> simp [Yard.atLocal, Mvs.valve, Mvs.setValve]

theorem abandoned_own : (y.abandoned v before after o).mvs.valve v = { y.mvs.valve v with commanded := .none, timer := .idle } := by
  rw [abandoned_valve, if_neg (by simp [Yard.yetToShut]), atLocal_valve]

theorem abandoned_others {w : Valve} (hw : w.holder ∈ y.mvs.worked o.holder) (ne : w ≠ v) (bound : y.yds.bind.valve w ≠ none) :
    ((y.abandoned v before after o).mvs.valve w).commanded = .shut := by
  rw [abandoned_valve]
  split
  · rfl
  · next not =>
    by_contra open_
    refine not (List.mem_filter.2 ⟨?_, by simpa [ne] using open_⟩)
    have worked := Mvs.worked_congr (m := y.mvs) (n := (y.atLocal v).mvs) atLocal_coupled
    refine (mem_bothValves (y := y.atLocal v) (h := o.holder)).2 ⟨?_, bound⟩
    rw [worked]
    exact hw

end

end Sys2Proof.Machine
end

section
/-! O40: the ACK of an ORDER, clause by clause (R129). -/

namespace Sys2Proof.Machine

section
variable {y z w : Yard} {c : Command} {v : Valve} {d : District} {before after : List Order} {o : Order} {r : CmdOutcome}

/-! ### The outcomes that are a failure -/

/-- The outcomes that fail a valve (R37). -/
def CmdOutcome.fails (r : CmdOutcome) : Prop := r = .refused ∨ ∃ x, r = .undelivered x

theorem valveOutcome_fails (hr : r.fails) : valveOutcome v r y = work [.failed v] y := by
  obtain rfl | ⟨x, rfl⟩ := hr <;> rfl

theorem ackReturns_fails {n sends : Nat} (h : n = 5 ∨ n = 2 ∨ n = 3) (last : ¬((n = 2 ∨ n = 3) ∧ sends < 3)) :
    ∃ r, ackReturns n sends = some r ∧ r.fails := by
  rcases h with h | h
  · exact ⟨_, ackReturns_refused h, .inl rfl⟩
  · exact ⟨_, ackReturns_third h last, .inr ⟨0, rfl⟩⟩

theorem valveOutcome_local : valveOutcome v .localHand y = valveLocal v y := rfl

/-! ### A booster's command (R90, R92) -/

/-- The cause of a booster failure that an ACK gives (R90, R92). -/
theorem ackReturns_booster {n sends : Nat} (h : n ≤ 5) (last : ¬((n = 2 ∨ n = 3) ∧ sends < 3)) (bad : ¬(n = 0 ∨ n = 1)) :
    ∃ (r : CmdOutcome) (x : BoosterCause), ackReturns n sends = some r ∧ r.boosterCause = some x ∧
      ∀ cause : Int, (n = 4 ∧ cause = 3) ∨ (n = 5 ∧ cause = 2) ∨ ((n = 2 ∨ n = 3) ∧ cause = 1) → cause = x.code := by
  obtain h4 | h5 | h23 : n = 4 ∨ n = 5 ∨ n = 2 ∨ n = 3 := by omega
  · exact ⟨_, .localHand, ackReturns_local h4, rfl, fun cause hc => by simp only [BoosterCause.code]; omega⟩
  · exact ⟨_, .refused, ackReturns_refused h5, rfl, fun cause hc => by simp only [BoosterCause.code]; omega⟩
  · exact ⟨_, .undelivered, ackReturns_third h23 last, rfl, fun cause hc => by simp only [BoosterCause.code]; omega⟩

theorem boosterOutcome_idle {code : CmdCode} (h : ¬((y.dgu.districts.get d).feed = .boosting ∧ code = .boosterRun))
    (h' : ¬((y.dgu.districts.get d).feed = .unboosting ∧ code = .boosterStop)) : boosterOutcome d code r y = y := by
  unfold boosterOutcome
  dsimp only
  split
  · split
    · next e => exact absurd ⟨e, rfl⟩ h
    · next e => exact absurd ⟨e, rfl⟩ h'
    · rfl
  · rfl

theorem boosterOutcome_run (hc : y.yds.desc = .committed) (hf : (y.dgu.districts.get d).feed = .boosting) :
    boosterOutcome d .boosterRun r y = match r.boosterCause with
      | some x => boosterFails d x y
      | none => if (y.dgu.districts.get d).boosterRep = .running then y
        else y.updDistrict d fun r => { r with runUp := .running y.now (y.yds.feedSet.get d).runUp } := by
  simp only [boosterOutcome, isCommitted_of hc, hf, if_true, beq_iff_eq] <;> cases r.boosterCause <;> rfl

theorem boosterOutcome_stop (hc : y.yds.desc = .committed) (hf : (y.dgu.districts.get d).feed = .unboosting) :
    boosterOutcome d .boosterStop r y = match r.boosterCause with
      | some x => stopFails d x y
      | none => if (y.dgu.districts.get d).boosterRep = .stopped then y
        else y.updDistrict d fun r => { r with runUp := .running y.now (y.yds.feedSet.get d).runUp } := by
  simp only [boosterOutcome, isCommitted_of hc, hf, if_true, beq_iff_eq] <;> cases r.boosterCause <;> rfl

theorem returnCommand_valve (own : c.owner = .valve v) : returnCommand c r y = valveOutcome v r y := by simp only [returnCommand, own]

theorem returnCommand_governor (own : c.owner = .governor d) : returnCommand c r y = governorOutcome d c.value r y := by
  simp only [returnCommand, own]

theorem returnCommand_booster (own : c.owner = .booster d) : returnCommand c r y = boosterOutcome d c.code r y := by
  simp only [returnCommand, own]

/-- A command that stands in the list stands in it still when the scan has gone on, but for the marks of its sending. -/
theorem Yard.GoesOn.command (h : y.GoesOn z) {b : Command} (hb : b ∈ y.scs.commands) :
    ∃ b' ∈ z.scs.commands, b'.told = b.told := by
  have k : b.told ∈ z.scs.commands.map Command.told := h.commands ▸ List.mem_map_of_mem hb
  simpa using k

end

section
variable {y : Yard} {now : Nat} {l : Ylc} {u : Scs} {c : Command} {y' : Yard} {n : Nat} {r : CmdOutcome} {d : District} {v : Valve}
  {before after : List Order} {o : Order}

/-- The yard at the moment of an ACK, with the list empty (R98, R129). -/
def Yard.acked (y : Yard) (now : Nat) (l : Ylc) (u : Scs) : Yard :=
  { y with
    now := now
    ylc := l
    scs := u }

theorem acked_governor (hc : y.yds.desc = .committed) (hu : u.commands = []) (own : c.owner = .governor d)
    (goes : (returnCommand c r (y.acked now l u)).GoesOn y') : y'.scs.commands = [] ∧ y'.mvs = y.mvs ∧
      y'.notices = (if r = .delivered then y.notices else y.notices.raise .commandUndelivered d.number
        (c.value + 16777216 * (r.govCause : Int)) (y.gdc.clock.map (·.day)) (y.gdc.clock.map (·.period))) ∧
      y'.dgu = { y.dgu with districts := y.dgu.districts.set d { y.dgu.districts.get d with
        govPending := false
        govOutcome := r.recorded
        delivered := if r = .delivered then some c.value else (y.dgu.districts.get d).delivered } } := by
  rw [returnCommand_governor own, governorOutcome_told (y := y.acked now l u) hc] at goes
  obtain ⟨mvs, dgu, notices⟩ := goes.blocks
  exact ⟨goes.noCommands hu, mvs, notices, dgu⟩

theorem acked_delivered (own : c.owner = .valve v) (goes : (returnCommand c .delivered (y.acked now l u)).GoesOn y') :
    y'.mvs = y.mvs.setValve v { y.mvs.valve v with
      timer := if (y.mvs.valve v).commanded.asReport = some (y.mvs.valve v).reported then .idle
        else .running now y.yds.valveLimit } ∧ y'.notices = y.notices := by
  rw [returnCommand_valve own, valveOutcome_delivered (y := y.acked now l u)] at goes
  obtain ⟨mvs, -, notices⟩ := goes.blocks
  exact ⟨mvs, notices⟩

theorem acked_local (own : c.owner = .valve v) (free : y.mvs.activeOrder v.holder = none ∨ y.yds.bind.valve v = none)
    (goes : (returnCommand c .localHand (y.acked now l u)).GoesOn y') :
    y'.mvs = (y.atLocal v).mvs ∧ y'.notices = (y.atLocal v).notices := by
  rw [returnCommand_valve own, valveOutcome_local, valveLocal_released (y := y.acked now l u) free] at goes
  obtain ⟨mvs, -, notices⟩ := goes.blocks
  exact ⟨mvs, notices⟩

theorem acked_failed (own : c.owner = .valve v) (hr : r.fails) (free : y.mvs.activeOrder v.holder = none ∨ y.yds.bind.valve v = none)
    (goes : (returnCommand c r (y.acked now l u)).GoesOn y') :
    y'.mvs = { y.mvs.setValve v { y.mvs.valve v with timer := .idle } with
      unmanaged := y.mvs.unmanaged.set v.holder true
      shutPending := y.mvs.shutPending.set v.holder false } ∧
    y'.notices = y.notices.raise .valveStuck v.holder.number ((sideCode v.side + 256 * (y.mvs.valve v).commanded.code : Nat) : Int)
      (y.gdc.clock.map (·.day)) (y.gdc.clock.map (·.period)) := by
  rw [returnCommand_valve own, valveOutcome_fails hr, work_failed_released (y := y.acked now l u) free] at goes
  obtain ⟨mvs, -, notices⟩ := goes.blocks
  refine ⟨mvs.trans ?_, notices⟩
  obtain ⟨h, side⟩ := v
  cases side <;> rfl

/-! ### The valve of an active order (R51, R52) -/

theorem acked_working (own : c.owner = .valve v) (hr : r.fails) (hu : u.commands = []) (hh : v.holder ∈ y.mvs.worked o.holder)
    (hb : y.yds.bind.valve v ≠ none) (others : ∀ x ∈ before ++ after, x.holder = o.holder → x.state = .waiting)
    {vs : List (Valve × Point)} {alone : Yard}
    (ha : alone = { y with
      mvs := y.mvs.setValve v { y.mvs.valve v with timer := .idle }
      scs := { y.scs with commands := [] } })
    (can : alone.CanShut before after o vs) (goes : (returnCommand c r (y.acked now l u)).GoesOn y') :
    y'.notices = y.notices ∧ y'.mvs = (alone.toClosing before after o vs .valveStuck).mvs := by
  have can' : (y.acked now l u).CanShut before after o vs := by
    subst ha
    exact can.of_eq rfl hu (setTimer_orders (y := y) .idle).symm (setTimer_coupled (y := y) .idle).symm
      fun w => (setTimer_reported (y := y) .idle w).symm
  rw [returnCommand_valve own, valveOutcome_fails hr, work_failed_working (y := y.acked now l u) can' hh hb others] at goes
  obtain ⟨mvs, -, notices⟩ := goes.blocks
  subst ha
  exact ⟨notices, mvs⟩

theorem acked_closing (own : c.owner = .valve v) (hr : r.fails) (hl : y.mvs.orders = before ++ o :: after)
    (hh : v.holder ∈ y.mvs.worked o.holder) (hb : y.yds.bind.valve v ≠ none) (closing : o.state = .closing)
    (others : ∀ x ∈ before ++ after, x.number ≠ o.number ∧ (x.holder = o.holder → x.state = .waiting ∧ x.eligible = false))
    (lead : y.mvs.isCoupled o.holder = true → o.holder.leads = true)
    (goes : (returnCommand c r (y.acked now l u)).GoesOn y') :
    y'.mvs = { y.mvs.setValve v { y.mvs.valve v with timer := .idle } with
      orders := before ++ after
      unmanaged := markAll (y.mvs.worked o.holder) true y.mvs.unmanaged } ∧
    y'.notices = (y.notices.raise .orderEnded o.number ((4 + 256 * o.standing : Nat) : Int) (y.gdc.clock.map (·.day))
      (y.gdc.clock.map (·.period))).raise .valveStuck v.holder.number
        ((sideCode v.side + 256 * (y.mvs.valve v).commanded.code : Nat) : Int) (y.gdc.clock.map (·.day))
        (y.gdc.clock.map (·.period)) := by
  rw [returnCommand_valve own, valveOutcome_fails hr, work_failed_closing (y := y.acked now l u) hl hh hb closing others lead] at goes
  obtain ⟨mvs, -, notices⟩ := goes.blocks
  refine ⟨mvs.trans ?_, notices⟩
  obtain ⟨h, side⟩ := v
  cases side <;> rfl

theorem acked_abandons (own : c.owner = .valve v) (can : (y.acked now l u).CanAbandon before after o v)
    (goes : (returnCommand c .localHand (y.acked now l u)).GoesOn y') :
    y'.mvs.orders = before ++ after ∧ (∀ h ∈ y.mvs.worked o.holder, y'.mvs.unmanaged.get h = true) ∧
      y'.mvs.shutPending.get v.holder = false ∧ y'.mvs.valve v = { y.mvs.valve v with commanded := .none, timer := .idle } ∧
      (∀ w : Valve, w.holder ∈ y.mvs.worked o.holder → w ≠ v → y.yds.bind.valve w ≠ none →
        (y'.mvs.valve w).commanded = .shut) ∧
      y'.notices = (y.notices.raise .localControl v.holder.number (sideCode v.side : Int) (y.gdc.clock.map (·.day))
        (y.gdc.clock.map (·.period))).raise .orderEnded o.number ((5 + 256 * o.standing : Nat) : Int) (y.gdc.clock.map (·.day))
          (y.gdc.clock.map (·.period)) := by
  rw [returnCommand_valve own, valveOutcome_local, can.valveLocal] at goes
  obtain ⟨mvs, -, notices⟩ := goes.blocks
  rw [mvs]
  exact ⟨rfl, fun h hh => abandoned_unmanaged hh, abandoned_shutPending, abandoned_own, fun w hw ne bound => abandoned_others hw ne bound,
    notices⟩

/-! ### A booster (R90, R92) -/

theorem acked_run (hc : y.yds.desc = .committed) (own : c.owner = .booster d) (run : c.code = .boosterRun)
    (hf : (y.dgu.districts.get d).feed = .boosting) (goes : (returnCommand c .delivered (y.acked now l u)).GoesOn y') :
    y'.notices = y.notices ∧ y'.dgu.districts.get d = if (y.dgu.districts.get d).boosterRep = .running then y.dgu.districts.get d
      else { y.dgu.districts.get d with runUp := .running now (y.yds.feedSet.get d).runUp } := by
  rw [returnCommand_booster own, run, boosterOutcome_run (y := y.acked now l u) hc hf] at goes
  obtain ⟨-, dgu, notices⟩ := goes.blocks
  rw [notices, dgu]
  simp only [CmdOutcome.boosterCause]
  split <;> simp_all [Yard.acked, Yard.updDistrict, Yard.updDgu]

theorem acked_stop (hc : y.yds.desc = .committed) (own : c.owner = .booster d) (stop : c.code = .boosterStop)
    (hf : (y.dgu.districts.get d).feed = .unboosting) (goes : (returnCommand c .delivered (y.acked now l u)).GoesOn y') :
    y'.notices = y.notices ∧ y'.dgu.districts.get d = if (y.dgu.districts.get d).boosterRep = .stopped then y.dgu.districts.get d
      else { y.dgu.districts.get d with runUp := .running now (y.yds.feedSet.get d).runUp } := by
  rw [returnCommand_booster own, stop, boosterOutcome_stop (y := y.acked now l u) hc hf] at goes
  obtain ⟨-, dgu, notices⟩ := goes.blocks
  rw [notices, dgu]
  simp only [CmdOutcome.boosterCause]
  split <;> simp_all [Yard.acked, Yard.updDistrict, Yard.updDgu]

/-- A RUN that fails: SHORT, with a STOP put where the booster is bound (R90). -/
theorem acked_runFails {x : BoosterCause} (hc : y.yds.desc = .committed) (own : c.owner = .booster d) (run : c.code = .boosterRun)
    (hf : (y.dgu.districts.get d).feed = .boosting) (hu : u.commands = []) (hx : r.boosterCause = some x)
    (goes : (returnCommand c r (y.acked now l u)).GoesOn y') :
    y'.dgu.districts.get d = { y.dgu.districts.get d with boosterCmd := .stop, runUp := .idle, failed := true, feed := .short } ∧
    (∀ p, y.yds.bind.booster.get d = some p → ∃ stop ∈ y'.scs.commands, stop.outstation = p.outstation ∧
      stop.channel = p.channel ∧ stop.code = .boosterStop ∧ stop.owner = .booster d) ∧
    ∀ t a, (y.dgu.districts.get d).target = some t → y.dgu.available = some a →
      y'.notices = (y.notices.raise .boosterFailed d.number (x.code : Int) (y.gdc.clock.map (·.day))
        (y.gdc.clock.map (·.period))).raise .districtShort d.number (t + (y.yds.feedSet.get d).drop - a)
          (y.gdc.clock.map (·.day)) (y.gdc.clock.map (·.period)) := by
  rw [returnCommand_booster own, run, boosterOutcome_run (y := y.acked now l u) hc hf, hx] at goes
  dsimp only at goes
  obtain ⟨n, q, fails, known⟩ := boosterFails_spec (y := y.acked now l u) (d := d) (c := x)
  rw [fails] at goes
  obtain ⟨-, dgu, notices⟩ := goes.blocks
  refine ⟨?_, fun p hp => ?_, fun t a ht ha => notices.trans (known t a ht ha).2⟩
  · rw [dgu]
    simp [Yard.acked]
  · have put : (⟨p.outstation, p.channel, .boosterStop, 0, .booster d, 0, false, false⟩ : Command) ∈
        (y.acked now l u).stopPut d := by
      have empty : (y.acked now l u).scs.commands = [] := hu
      have bound : (y.acked now l u).yds.bind.booster.get d = some p := hp
      simp [Yard.stopPut, bound, empty, putInto]
    obtain ⟨stop, listed, told⟩ := goes.command put
    simp only [Command.told, Command.mk.injEq] at told
    obtain ⟨outstation, channel, code, -, owner, -⟩ := told
    exact ⟨stop, listed, outstation, channel, code, owner⟩

/-- A STOP that fails: DIRECT (R92). -/
theorem acked_stopFails {x : BoosterCause} (hc : y.yds.desc = .committed) (own : c.owner = .booster d) (stop : c.code = .boosterStop)
    (hf : (y.dgu.districts.get d).feed = .unboosting) (hx : r.boosterCause = some x)
    (goes : (returnCommand c r (y.acked now l u)).GoesOn y') :
    y'.dgu.districts.get d = { y.dgu.districts.get d with feed := .direct, runUp := .idle } ∧
    y'.notices = y.notices.raise .boosterFailed d.number (x.code : Int) (y.gdc.clock.map (·.day)) (y.gdc.clock.map (·.period)) := by
  rw [returnCommand_booster own, stop, boosterOutcome_stop (y := y.acked now l u) hc hf, hx] at goes
  dsimp only at goes
  obtain ⟨-, dgu, notices⟩ := goes.blocks
  refine ⟨?_, notices⟩
  rw [dgu]
  simp [stopFails, raiseBooster, raiseNotice, Yard.updDistrict, Yard.updDgu, Yard.acked]

theorem acked_booster (own : c.owner = .booster d) (goes : (returnCommand c r (y.acked now l u)).GoesOn y') : y'.mvs = y.mvs := by
  rw [returnCommand_booster own] at goes
  exact goes.blocks.1.trans (boosterOutcome_mvs _ _ _ _)

theorem acked_boosterIdle (own : c.owner = .booster d)
    (h : ¬((y.dgu.districts.get d).feed = .boosting ∧ c.code = .boosterRun))
    (h' : ¬((y.dgu.districts.get d).feed = .unboosting ∧ c.code = .boosterStop))
    (goes : (returnCommand c r (y.acked now l u)).GoesOn y') : y'.dgu = y.dgu ∧ y'.notices = y.notices := by
  rw [returnCommand_booster own, boosterOutcome_idle (y := y.acked now l u) h h'] at goes
  exact goes.blocks.2

end

end Sys2Proof.Machine
end

section
/-! O40: the payload of VALUES read back (R108, R111). -/

namespace Sys2Proof.Machine

section
variable {points : Four (Option PointKind)} {es : List PointEntry} {x : PointEntry}

/-- Three bytes of a number, low byte first, read back. -/
theorem ofLe_three (n : Nat) : ofLe (leBytes 3 n) = n % 16777216 := by
  simp only [leBytes, ofLe, BitVec.toNat_ofNat]
  omega

/-- An entry that an outstation sends: its channel, and a value that its point kind has (R108). -/
def PointEntry.Sendable (points : Four (Option PointKind)) (x : PointEntry) : Prop :=
  x.channel ≤ 3 ∧ (x.status ≠ .fault → (points.get x.channel = some .valve → x.raw.toNat ≤ 4) ∧
    (points.get x.channel = some .booster → x.raw.toNat ≤ 2))

theorem valveStateOf_isSome {n : Nat} (h : n ≤ 4) : (valveStateOf n).isSome = true := by interval_cases n <;> rfl

theorem boosterStateOf_isSome {n : Nat} (h : n ≤ 2) : (boosterStateOf n).isSome = true := by interval_cases n <;> rfl

theorem PointEntry.Sendable.inList (h : x.Sendable points) : valueInList (points.get x.channel) x.status x.raw = true := by
  unfold valueInList
  by_cases fault : x.status = .fault
  · simp [fault]
  · obtain ⟨valve, booster⟩ := h.2 fault
    match k : points.get x.channel with
    | some .valve => simp [valveStateOf_isSome (valve k)]
    | some .booster => simp [boosterStateOf_isSome (booster k)]
    | none | some .measure | some .meter | some .governor => simp

/-- The first byte of an entry gives its channel and its status. -/
theorem PointEntry.bytes_eq (low : x.channel ≤ 3) :
    ∃ b : Byte, x.bytes = b :: leBytes 3 x.raw.toNat ∧ b.toNat % 4 = x.channel ∧ pointStatusOf (b.toNat / 4) = some x.status := by
  obtain ⟨channel, status, raw⟩ := x
  have low : channel ≤ 3 := low
  have kept (k : Nat) (hk : k ≤ 8) : (BitVec.ofNat 8 (channel + k)).toNat = channel + k := by
    rw [BitVec.toNat_ofNat]
    omega
  have own (k : Nat) (hk : k ≤ 8) (h4 : k % 4 = 0) : (BitVec.ofNat 8 (channel + k)).toNat % 4 = channel := by
    rw [kept k hk]
    omega
  have of (k : Nat) (hk : k ≤ 8) (h4 : k % 4 = 0) : (BitVec.ofNat 8 (channel + k)).toNat / 4 = k / 4 := by
    rw [kept k hk]
    omega
  cases status with
  | good => exact ⟨_, rfl, own 0 (by decide) rfl, congrArg pointStatusOf (of 0 (by decide) rfl)⟩
  | suspect => exact ⟨_, rfl, own 4 (by decide) rfl, congrArg pointStatusOf (of 4 (by decide) rfl)⟩
  | fault => exact ⟨_, rfl, own 8 (by decide) rfl, congrArg pointStatusOf (of 8 (by decide) rfl)⟩

/-- One entry read back. -/
theorem parseEntries_cons (h : x.Sendable points) (n : Nat) (bs : List Byte) :
    parseEntries points (n + 1) (x.bytes ++ bs) = (parseEntries points n bs).map fun r => (x :: r.1, r.2) := by
  obtain ⟨b, bytes, channel, status⟩ := PointEntry.bytes_eq h.1
  have raw : BitVec.ofNat 24 (ofLe (leBytes 3 x.raw.toNat)) = x.raw := by
    rw [ofLe_three, Nat.mod_eq_of_lt x.raw.isLt]
    exact BitVec.ofNat_toNat _ _
  simp only [leBytes] at raw
  simp only [bytes, leBytes, List.cons_append, List.nil_append, parseEntries, channel, status, raw, h.inList, if_true]
  cases parseEntries points n bs <;> rfl

theorem parseEntries_bytes (h : ∀ x ∈ es, x.Sendable points) (rest : List Byte) :
    parseEntries points es.length (es.flatMap (·.bytes) ++ rest) = some (es, rest) := by
  induction es with
  | nil => rfl
  | cons x es ih =>
    obtain ⟨hx, hs⟩ := List.forall_mem_cons.1 h
    rw [List.flatMap_cons, List.append_assoc, List.length_cons, parseEntries_cons hx, ih hs]
    rfl

/-- The latched indices read back. -/
theorem parseLatches_bytes {indices : List Nat} (h : ∀ l ∈ indices, l < 16777216) :
    parseLatches indices.length (indices.flatMap (leBytes 3)) = some indices := by
  induction indices with
  | nil => rfl
  | cons l ls ih =>
    obtain ⟨hl, hs⟩ := List.forall_mem_cons.1 h
    obtain ⟨v0, v1, v2, three⟩ : ∃ v0 v1 v2, leBytes 3 l = [v0, v1, v2] := ⟨_, _, _, rfl⟩
    have back := ofLe_three l
    rw [three, Nat.mod_eq_of_lt hl] at back
    rw [List.flatMap_cons, three]
    simp only [List.cons_append, List.nil_append, List.length_cons, parseLatches, ih hs, back, Option.map_some]

/-- VALUES read back: its flags, its entries and its latched indices (R108). -/
theorem parseValues_bytes {flags corrections discards : Byte} {restarted sleeping latched : Bool} {indices : List Nat}
    (h : ∀ x ∈ es, x.Sendable points) (one : 1 ≤ es.length) (four : es.length ≤ 4)
    (hf : flags.toNat = es.length + 8 * restarted.toNat + 16 * sleeping.toNat + 32 * latched.toNat)
    (count : indices.length = if latched then (meterEntries points es).length else 0) (small : ∀ l ∈ indices, l < 16777216) :
    parseValues points (flags :: corrections :: discards :: (es.flatMap (·.bytes) ++ indices.flatMap (leBytes 3))) =
      some (.values ⟨restarted, sleeping, latched, corrections.toNat, discards.toNat, es, indices⟩) := by
  have r1 := Bool.toNat_le restarted
  have s1 := Bool.toNat_le sleeping
  have l1 := Bool.toNat_le latched
  have n : flags.toNat % 8 = es.length := by omega
  have size : (decide (64 ≤ flags.toNat) || decide (es.length < 1) || decide (4 < es.length)) = false := by
    simp only [Bool.or_eq_false_iff, decide_eq_false_iff_not]
    omega
  have bits : flags.toNat.testBit 3 = restarted ∧ flags.toNat.testBit 4 = sleeping ∧ flags.toNat.testBit 5 = latched := by
    rw [hf]
    generalize es.length = k at *
    interval_cases k <;> cases restarted <;> cases sleeping <;> cases latched <;> decide
  simp only [parseValues, n, size, parseEntries_bytes h, bits, Bool.false_eq_true, if_false]
  rw [← count, parseLatches_bytes small]
  rfl

end

end Sys2Proof.Machine
end

section
/-! SUPPORT. The reports of the valves and the recovered outstations, which the work of MVS and of HSU leaves (R36, R119). -/

namespace Sys2Proof.Machine

section
variable {y : Yard} {v w : Valve} {h : Holder} {o : Order}

/-! ### What is heard of the outstations -/

/-- The report of each valve, and the OUTSTATION RECOVERED notices that wait. -/
def Yard.heard (y : Yard) : (Valve → Reported) × List Notice :=
  (fun v => (y.mvs.valve v).reported, y.notices.queue.filter (·.kind == .outstationRecovered))

/-- A notice of another kind leaves the OUTSTATION RECOVERED notices. -/
theorem Notices.raise_recovered (q : Notices) {k : NoticeKind} (hk : k ≠ .outstationRecovered) (n : Nat) (v : Int)
    (day period : Option Nat) : (q.raise k n v day period).queue.filter (·.kind == .outstationRecovered) =
      q.queue.filter (·.kind == .outstationRecovered) := by
  unfold Notices.raise
  split
  · dsimp only
    rw [List.filter_map]
    have kept : ((fun x : Notice => x.kind == .outstationRecovered) ∘ fun x => if x.isFor k n = true then x.merge v else x) =
        fun x => x.kind == .outstationRecovered := by
      funext x
      simp only [Function.comp_apply]
      split <;> rfl
    rw [kept]
    refine (List.map_congr_left fun x hx => ?_).trans (List.map_id _)
    have other : x.isFor k n = false := by
      have recovered : x.kind = .outstationRecovered := by simpa using (List.mem_filter.1 hx).2
      simp [Notice.isFor, recovered, Ne.symm hk]
    simp [other]
  · split
    · simp [List.filter_append, hk]
    · rfl

@[simp] theorem raiseNotice_heard {k : NoticeKind} (hk : k ≠ .outstationRecovered) (n : Nat) (x : Int) :
    (raiseNotice k n x y).heard = y.heard := by
  simp only [Yard.heard, raiseNotice]
  rw [Notices.raise_recovered _ hk]

@[simp] theorem Yard.updMvs_heard {f : Mvs → Mvs} (hf : ∀ m w, ((f m).valve w).reported = (m.valve w).reported) :
    (y.updMvs f).heard = y.heard := by
  simp [Yard.heard, Yard.updMvs, hf]

@[simp] theorem raiseEnded_heard (r : EndReason) : (raiseEnded o r y).heard = y.heard := by simp [raiseEnded]
@[simp] theorem raiseStuck_heard : (raiseStuck v y).heard = y.heard := by simp [raiseStuck]
@[simp] theorem raiseLocal_heard : (raiseLocal v y).heard = y.heard := by simp [raiseLocal]
@[simp] theorem setUnmanaged_heard (hs : List Holder) (b : Bool) : (setUnmanaged hs b y).heard = y.heard := rfl
@[simp] theorem setShutPending_heard (hs : List Holder) (b : Bool) : (setShutPending hs b y).heard = y.heard := rfl
@[simp] theorem setTimer_heard (t : Timer) : (setTimer v t y).heard = y.heard :=
  Prod.ext (funext fun w => setTimer_reported t w) rfl
@[simp] theorem updOrder_heard (n : Nat) (f : Order → Order) : (y.updMvs (·.updOrder n f)).heard = y.heard := rfl
@[simp] theorem dropOrder_heard (n : Nat) : (y.updMvs (·.dropOrder n)).heard = y.heard := rfl

theorem heard_of_mvs {z : Yard} (hm : ∀ w, (z.mvs.valve w).reported = (y.mvs.valve w).reported) (hn : z.notices = y.notices) :
    z.heard = y.heard := Prod.ext (funext hm) (by simp only [Yard.heard, hn])

/-! ### The deeds of MVS -/

@[simp] theorem commandValve_heard (p : Commanded) : (commandValve v p y).1.heard = y.heard := by
  refine heard_of_mvs (fun w => ?_) ?_
  · rw [commandValve_mvs]
    split <;> simp
  · unfold commandValve
    dsimp only
    repeat' split
    all_goals rfl

@[simp] theorem commandAll_heard (p : Commanded) (vs : List Valve) : (commandAll p vs y).1.heard = y.heard :=
  commandAll_keeps (P := fun z => z.heard = y.heard) (fun _ _ hz => (commandValve_heard _).trans hz) vs rfl

@[simp] theorem closeOrder_heard (n : Nat) (r : EndReason) : (closeOrder n r y).1.heard = y.heard := by
  unfold closeOrder
  repeat' split
  all_goals simp

@[simp] theorem valveFails_heard : (valveFails v y).1.heard = y.heard := by
  obtain ⟨_, e⟩ | ⟨o, _, ⟨_, e⟩ | ⟨_, e⟩⟩ := valveFails_cases v y <;> rw [e] <;> simp

@[simp] theorem runOrder_heard (n : Nat) : (runOrder n y).1.heard = y.heard := by
  unfold runOrder
  repeat' split
  all_goals simp

@[simp] theorem finishOrder_heard (n : Nat) (r : EndReason) : (finishOrder n r y).1.heard = y.heard := by
  unfold finishOrder
  repeat' split
  all_goals simp

@[simp] theorem completeOrder_heard (n : Nat) : (completeOrder n y).1.heard = y.heard := by
  unfold completeOrder
  repeat' split
  all_goals simp

@[simp] theorem tryActivate_heard : (tryActivate h y).1.heard = y.heard := by
  unfold tryActivate
  dsimp only
  repeat' split
  all_goals simp

@[simp] theorem testShutHolder_heard : (testShutHolder h y).heard = y.heard := by
  unfold testShutHolder
  split <;> simp

@[simp] theorem lagOne_heard (best : Int) : (lagOne best y h).heard = y.heard := by
  unfold lagOne
  dsimp only
  repeat' split
  all_goals simp

@[simp] theorem lagTest_heard : (lagTest y).heard = y.heard := by
  unfold lagTest
  split
  · exact foldl_keeps Yard.heard (fun _ _ => lagOne_heard _) _ _
  · rfl

@[simp] theorem deed_heard (d : Deed) : (deed d y).1.heard = y.heard := by
  cases d with
  | drop n r => simp only [deed]; split <;> simp
  | _ => simp [deed]

@[simp] theorem work_heard (ds : List Deed) : (work ds y).heard = y.heard := work_view Yard.heard (fun d _ => deed_heard d) ds y

/-! ### Outcomes, reports, the trip, readings -/

@[simp] theorem tripYard_heard (c : TripCause) : (tripYard c y).heard = y.heard := by
  rw [tripYard, work_heard, raiseNotice_heard (by decide)]
  rfl

@[simp] theorem bandsPassed_heard (prev t : Int) (k : Nat) (bs : List (Int × Int)) : (bandsPassed h prev t k bs y).heard = y.heard := by
  induction bs generalizing k y with
  | nil => rfl
  | cons b bs ih => rw [bandsPassed, ih]; split <;> simp

@[simp] theorem throttle_heard (t : Int) : (throttle h t o y).heard = y.heard := by
  unfold throttle
  dsimp only
  split <;> simp

@[simp] theorem orderReading_heard : (orderReading h o y).heard = y.heard := by
  unfold orderReading
  dsimp only
  repeat' split
  all_goals simp

@[simp] theorem overTop_heard : (overTop h y).heard = y.heard := by
  unfold overTop
  repeat' split
  all_goals simp

@[simp] theorem whenReading_heard : (whenReading h y).heard = y.heard := by
  rw [whenReading, work_heard]
  rfl

@[simp] theorem mvsReading_heard : (mvsReading h y).heard = y.heard := by
  have written (z : Yard) : (z.updMvs fun m => { m with prevTravel := m.prevTravel.set h (travelOf z h) }).heard = z.heard := rfl
  unfold mvsReading
  rw [written, whenReading_heard, overTop_heard]
  repeat' split
  all_goals simp

@[simp] theorem newContribution_heard : (newContribution h y).heard = y.heard := by
  unfold newContribution
  split <;> simp

@[simp] theorem valveMovedItself_heard : (valveMovedItself v y).heard = y.heard := by
  unfold valveMovedItself
  dsimp only
  repeat' split
  all_goals simp

/-- A valve's report is that valve's alone, and stands whatever follows from it (R36). -/
theorem valveReport_heard (rep : Reported) : (valveReport v rep y).heard = (Function.update y.heard.1 v rep, y.heard.2) := by
  have reported : (y.updMvs fun m => m.setValve v { m.valve v with reported := rep }).heard =
      (Function.update y.heard.1 v rep, y.heard.2) := by
    refine Prod.ext (funext fun w => ?_) rfl
    by_cases e : w = v
    · subst e; simp [Yard.heard, Yard.updMvs]
    · simp [Yard.heard, Yard.updMvs, Function.update_of_ne e, Mvs.valve_setValve_ne _ _ e]
  rw [← reported]
  unfold valveReport
  cases rep <;> dsimp only <;> split <;> simp [apply_ite Yard.heard]

end

end Sys2Proof.Machine
end

section
/-! SUPPORT. What HSU, QPR and SOA leave of the yard as they take the entries of a reply (R23, R136 to R140, R152). -/

namespace Sys2Proof.Machine

section
variable {y z : Yard} {h : Holder} {q : Slot} {m : Meter}

/-! ### What HSU leaves -/

/-- What the movement of the valves and the stocks leave: the description, the roster, the districts, the quantities, the accounts,
and what is heard. -/
def Yard.told (y : Yard) : Yds × List Entry × Dgu × Qpr × Soa × ((Valve → Reported) × List Notice) :=
  (y.yds, y.scs.roster, y.dgu, y.qpr, y.soa, y.heard)

theorem told_of_unmoved (hu : z.unmoved = y.unmoved) (hh : z.heard = y.heard) : z.told = y.told := by
  have e : ∀ x : Yard, x.told = (x.unmoved.yds, x.unmoved.scs.roster, x.unmoved.dgu, x.unmoved.qpr, x.unmoved.soa, x.heard) :=
    fun _ => rfl
  rw [e, e, hu, hh]

@[simp] theorem raiseNotice_told {k : NoticeKind} (hk : k ≠ .outstationRecovered) (n : Nat) (x : Int) :
    (raiseNotice k n x y).told = y.told := told_of_unmoved (raiseNotice_unmoved _ _ _ _) (raiseNotice_heard hk n x)

@[simp] theorem Yard.updHsu_told (f : Hsu → Hsu) : (y.updHsu f).told = y.told := rfl
@[simp] theorem Yard.updHolder_told (f : HolderDyn → HolderDyn) : (y.updHolder h f).told = y.told := rfl

@[simp] theorem mvsReading_told : (mvsReading h y).told = y.told := told_of_unmoved (mvsReading_unmoved _ _) mvsReading_heard

@[simp] theorem newContribution_told : (newContribution h y).told = y.told :=
  told_of_unmoved (newContribution_unmoved _ _) newContribution_heard

@[simp] theorem assess_told : (assess h y).told = y.told := by simp [assess]

@[simp] theorem formStock_told : (formStock h y).told = y.told := by
  unfold formStock
  repeat' split
  all_goals simp

@[simp] theorem formAll_told (hs : List Holder) : (formAll hs y).told = y.told :=
  foldl_keeps Yard.told (fun _ _ => formStock_told) hs y

@[simp] theorem formPresent_told : (formPresent y).told = y.told := formAll_told _

@[simp] theorem pressSample_told (s : Sampled) : (pressSample h s y).told = y.told := by
  unfold pressSample
  dsimp only
  repeat' split
  all_goals simp

@[simp] theorem pressSource_told (s : Option Sampled) : (pressSource h s y).told = y.told := by simp [pressSource]

@[simp] theorem yardTempChange_told : (yardTempChange y).told = y.told := formAll_told _

@[simp] theorem baroChange_told (s : Option Sampled) : (baroChange s y).told = y.told := by simp [baroChange]

@[simp] theorem hsuSample_told (s : Sampled) : (hsuSample q s y).told = y.told := by cases q <;> simp [hsuSample]

@[simp] theorem hsuSource_told (s : Option Sampled) : (hsuSource q s y).told = y.told := by cases q <;> simp [hsuSource]

@[simp] theorem handSource_told : (handSource q y).told = y.told := hsuSource_told _

/-! ### What QPR leaves -/

/-- What the taking of samples leaves: the description, the roster, the districts, and what is heard. -/
def Yard.core (y : Yard) : Yds × List Entry × Dgu × ((Valve → Reported) × List Notice) := (y.yds, y.scs.roster, y.dgu, y.heard)

theorem core_of_told (ht : z.told = y.told) : z.core = y.core := by
  have e : ∀ x : Yard, x.core = (x.told.1, x.told.2.1, x.told.2.2.1, x.told.2.2.2.2.2) := fun _ => rfl
  rw [e, e, ht]

@[simp] theorem raiseNotice_core {k : NoticeKind} (hk : k ≠ .outstationRecovered) (n : Nat) (x : Int) :
    (raiseNotice k n x y).core = y.core := core_of_told (raiseNotice_told hk n x)
@[simp] theorem handSource_core : (handSource q y).core = y.core := core_of_told handSource_told
@[simp] theorem hsuSample_core (s : Sampled) : (hsuSample q s y).core = y.core := core_of_told (hsuSample_told s)
@[simp] theorem yardTempChange_core : (yardTempChange y).core = y.core := core_of_told yardTempChange_told
@[simp] theorem Yard.updRec_core (f : QRec → QRec) : (y.updRec q f).core = y.core := rfl
@[simp] theorem Yard.updQpr_core (f : Qpr → Qpr) : (y.updQpr f).core = y.core := rfl
@[simp] theorem Yard.updSoa_core (f : Soa → Soa) : (y.updSoa f).core = y.core := rfl
@[simp] theorem updOpen_core (f : PEntry → PEntry) : (updOpen q f y).core = y.core := rfl
@[simp] theorem writeSample_core (v : Int) (s : Source) : (writeSample q v s y).core = y.core := rfl
@[simp] theorem countClamp_core : (countClamp q y).core = y.core := rfl
@[simp] theorem forgetSeen_core : (forgetSeen m y).core = y.core := rfl

@[simp] theorem soaDelta_core (n : Nat) (b : Bool) (r : Option Nat) : (soaDelta m n b r y).core = y.core := by
  unfold soaDelta
  dsimp only
  repeat' split
  all_goals rfl

@[simp] theorem handDelta_core (d r : Nat) : (handDelta m d r y).core = y.core := by simp [handDelta]

@[simp] theorem meterSample_core (r : Nat) (b : Bool) : (meterSample m r b y).core = y.core := by
  unfold meterSample
  dsimp only
  repeat' split
  all_goals simp

@[simp] theorem acceptSample_core (v : Int) (s : Source) (b : Bool) : (acceptSample q v s b y).core = y.core := by
  unfold acceptSample
  dsimp only
  repeat' split
  all_goals simp

@[simp] theorem slotEntry_core (p : Point) (v : Int) (b : Bool) : (slotEntry p v b y q).core = y.core := by
  unfold slotEntry
  dsimp only
  repeat' split
  all_goals simp

@[simp] theorem qprEntry_core (p : Point) (st : PointStatus) (v : Int) (b : Bool) : (qprEntry p st v b y).core = y.core := by
  unfold qprEntry
  split
  · exact foldl_keeps Yard.core (fun _ _ => slotEntry_core _ _ _) _ _
  · rfl

@[simp] theorem toDeclared_core : (toDeclared q y).core = y.core := by simp [toDeclared]

@[simp] theorem holdTest_core : (holdTest q y).core = y.core := by
  unfold holdTest
  dsimp only
  split <;> simp

@[simp] theorem unboundNow_core : (unboundNow q y).core = y.core := by simp [unboundNow, apply_ite Yard.core]

@[simp] theorem unboundAll_core : (unboundAll y).core = y.core := foldl_keeps Yard.core (fun _ _ => unboundNow_core) _ y

@[simp] theorem slotPhaseEnd_core : (slotPhaseEnd y q).core = y.core := by
  unfold slotPhaseEnd
  dsimp only
  repeat' split
  all_goals simp

@[simp] theorem qprPhaseEnd_core : (qprPhaseEnd y).core = y.core := by
  rw [qprPhaseEnd, unboundAll_core, Yard.updQpr_core]
  exact foldl_keeps Yard.core (fun _ _ => slotPhaseEnd_core) _ y

/-! ### What SOA leaves -/

@[simp] theorem closeDay_core (d : Day) : (closeDay d y).1.core = y.core := by
  unfold closeDay
  dsimp only
  repeat' split
  all_goals simp

@[simp] theorem finishPending_core : (finishPending y).core = y.core := by
  unfold finishPending
  repeat' split
  all_goals simp

@[simp] theorem correctRemainder_core : (correctRemainder y m).core = y.core := by
  unfold correctRemainder
  dsimp only
  repeat' split
  all_goals simp [takeRemainder]

@[simp] theorem startCompletion_core : (startCompletion y).core = y.core := by
  unfold startCompletion
  split
  · simp [foldl_keeps Yard.core fun _ _ => correctRemainder_core]
  · rfl

@[simp] theorem tryComplete_core : (tryComplete y).core = y.core := by
  unfold tryComplete
  repeat' split
  all_goals simp

@[simp] theorem makeDue_core : (makeDue y).core = y.core := by simp [makeDue]

@[simp] theorem soaLatch_core (p : Point) (n : Nat) : (soaLatch p n y).core = y.core := by
  unfold soaLatch
  dsimp only
  repeat' split
  all_goals simp

@[simp] theorem newReply_core : (newReply y).core = y.core := rfl

end

end Sys2Proof.Machine
end

section
/-! SUPPORT. The record of one quantity and of its meter, apart from what QPR does for the others (R136 to R140, R147). -/

namespace Sys2Proof.Machine

section
variable {y z : Yard} {q k : Slot} {m n : Meter}

/-! ### One quantity apart -/

/-- What the accounts hold of one meter: the registers seen, its records of the current and of the pending day, whether the
completion of the pending close has begun, and whether the marker is out (R147, R152). -/
def Soa.ofMeter (u : Soa) (m : Meter) : Seen × Option MeterDay × Option (Bool × MeterDay) × Bool :=
  (u.seen.get m, u.current.map (·.meters.get m), u.pending.map fun p => (p.started, p.day.meters.get m), u.markerOut)

/-- What is held of one quantity: its record, its entry in the open record, and its meter in the accounts; and whether the marker
is awaited. -/
def Yard.apart (y : Yard) (q : Slot) :
    QRec × Option PEntry × Bool × Option (Seen × Option MeterDay × Option (Bool × MeterDay) × Bool) :=
  (y.qpr.recs.get q, y.qpr.current.map (·.entries.get q), y.qpr.markerAwaited, q.meterOf.map y.soa.ofMeter)

theorem apart_of_told (ht : z.told = y.told) : z.apart q = y.apart q := by
  have e : ∀ x : Yard, x.apart q = (x.told.2.2.2.1.recs.get q, x.told.2.2.2.1.current.map (·.entries.get q),
    x.told.2.2.2.1.markerAwaited, q.meterOf.map x.told.2.2.2.2.1.ofMeter) := fun _ => rfl
  rw [e, e, ht]

@[simp] theorem Slot.meterOf_meterSlot (m : Meter) : (meterSlot m).meterOf = some m := by cases m <;> rfl

theorem Slot.meterOf_eq_some : q.meterOf = some m ↔ q = meterSlot m := by
  refine ⟨fun h => ?_, fun h => h ▸ Slot.meterOf_meterSlot m⟩
  cases q <;> simp only [Slot.meterOf, Option.some.injEq, reduceCtorEq] at h <;> subst h <;> rfl

theorem Slot.meterOf_ne (hk : meterSlot m ≠ q) : q.meterOf ≠ some m := fun h => hk (Slot.meterOf_eq_some.1 h).symm

@[simp] theorem raiseNotice_apart (x : NoticeKind) (o : Nat) (v : Int) : (raiseNotice x o v y).apart q = y.apart q := rfl
@[simp] theorem handSource_apart : (handSource k y).apart q = y.apart q := apart_of_told handSource_told
@[simp] theorem hsuSample_apart (s : Sampled) : (hsuSample k s y).apart q = y.apart q := apart_of_told (hsuSample_told s)
@[simp] theorem yardTempChange_apart : (yardTempChange y).apart q = y.apart q := apart_of_told yardTempChange_told

/-! ### What is done for another quantity -/

theorem updRec_apart (hk : q ≠ k) (f : QRec → QRec) : (y.updRec k f).apart q = y.apart q := by
  simp [Yard.apart, Yard.updRec, Yard.updQpr, Slots.get_set_ne _ _ hk]

theorem updOpen_apart (hk : q ≠ k) (f : PEntry → PEntry) : (updOpen k f y).apart q = y.apart q := by
  simp [Yard.apart, updOpen, Yard.updQpr, PeriodRec.updEntry, Slots.get_set_ne _ _ hk, Function.comp_def]

theorem writeSample_apart (hk : q ≠ k) (v : Int) (s : Source) : (writeSample k v s y).apart q = y.apart q := updRec_apart hk _

theorem countClamp_apart (hk : q ≠ k) : (countClamp k y).apart q = y.apart q := updRec_apart hk _

/-- The accounts changed, another meter's part is left. -/
theorem updSoa_apart {f : Soa → Soa} (hf : ∀ u m, q.meterOf = some m → (f u).ofMeter m = u.ofMeter m) :
    (y.updSoa f).apart q = y.apart q := by
  have e : q.meterOf.map (f y.soa).ofMeter = q.meterOf.map y.soa.ofMeter := by
    cases h : q.meterOf with
    | none => rfl
    | some m => exact congrArg some (hf _ m h)
  simp only [Yard.apart, Yard.updSoa, e]

theorem seen_apart (hm : meterSlot m ≠ q) (f : Soa → Seen) :
    (y.updSoa fun u => { u with seen := u.seen.set m (f u) }).apart q = y.apart q :=
  updSoa_apart fun u n hn => by
    have ne : n ≠ m := fun e => Slot.meterOf_ne hm (e ▸ hn)
    simp [Soa.ofMeter, Meters.get_set_ne _ _ ne]

theorem counts_apart (hm : meterSlot m ≠ q) (b : Bool) (f g : MeterDay → MeterDay) :
    (y.updSoa fun u => if b && u.pending.isSome then u.updPending fun p => { p with day := p.day.updMeter m f }
      else u.updCurrent (·.updMeter m g)).apart q = y.apart q :=
  updSoa_apart fun u n hn => by
    have ne : n ≠ m := fun e => Slot.meterOf_ne hm (e ▸ hn)
    split <;> simp [Soa.ofMeter, Soa.updPending, Soa.updCurrent, Day.updMeter, Meters.get_set_ne _ _ ne, Function.comp_def]

theorem soaDelta_apart (hm : meterSlot m ≠ q) (c : Nat) (b : Bool) (r : Option Nat) : (soaDelta m c b r y).apart q = y.apart q := by
  unfold soaDelta
  dsimp only
  repeat' split
  all_goals simp only [seen_apart hm, counts_apart hm]

theorem forgetSeen_apart (hm : meterSlot m ≠ q) : (forgetSeen m y).apart q = y.apart q := seen_apart hm _

theorem handDelta_apart (hm : meterSlot m ≠ q) (d r : Nat) : (handDelta m d r y).apart q = y.apart q := by
  rw [handDelta, soaDelta_apart hm, updOpen_apart (Ne.symm hm)]

theorem meterSample_apart (hm : meterSlot m ≠ q) (r : Nat) (b : Bool) : (meterSample m r b y).apart q = y.apart q := by
  have hq : q ≠ meterSlot m := Ne.symm hm
  unfold meterSample
  dsimp only
  repeat' split
  all_goals simp [handDelta_apart hm, forgetSeen_apart hm, updOpen_apart hq, updRec_apart hq]

theorem acceptSample_apart (hk : q ≠ k) (v : Int) (s : Source) (b : Bool) : (acceptSample k v s b y).apart q = y.apart q := by
  unfold acceptSample
  split
  · next m hm =>
    have slot : meterSlot m ≠ q := fun e => hk (e ▸ (Slot.meterOf_eq_some.1 hm).symm)
    split
    · exact countClamp_apart hk
    · simp [meterSample_apart slot, updOpen_apart hk, writeSample_apart hk]
  · dsimp only
    repeat' split
    all_goals simp [updOpen_apart hk, writeSample_apart hk, countClamp_apart hk]

theorem slotEntry_apart (hk : q ≠ k) (p : Point) (v : Int) (b : Bool) : (slotEntry p v b y k).apart q = y.apart q := by
  unfold slotEntry
  dsimp only
  repeat' split
  all_goals simp [acceptSample_apart hk, updRec_apart hk]

theorem toDeclared_apart (hk : q ≠ k) : (toDeclared k y).apart q = y.apart q := by simp [toDeclared, updRec_apart hk]

theorem holdTest_apart (hk : q ≠ k) : (holdTest k y).apart q = y.apart q := by
  unfold holdTest
  dsimp only
  split
  · simp [toDeclared_apart hk, updRec_apart hk]
  · rfl

theorem unboundNow_apart (hk : q ≠ k) : (unboundNow k y).apart q = y.apart q := by
  simp [unboundNow, apply_ite (Yard.apart · q), toDeclared_apart hk, updRec_apart hk]

theorem slotPhaseEnd_apart (hk : q ≠ k) : (slotPhaseEnd y k).apart q = y.apart q := by
  unfold slotPhaseEnd
  dsimp only
  repeat' split
  all_goals simp [updRec_apart hk, holdTest_apart hk, acceptSample_apart hk]

/-! ### The latch mark of a meter in the pending day -/

/-- Whether the latch of a meter of the pending day has been reported (R151). -/
def Yard.latchOf (y : Yard) (n : Meter) : Option Bool := y.soa.pending.map fun p => (p.day.meters.get n).latched

theorem latchOf_of_told (ht : z.told = y.told) : z.latchOf n = y.latchOf n := by
  have e : ∀ x : Yard, x.latchOf n = x.told.2.2.2.2.1.pending.map fun p => (p.day.meters.get n).latched := fun _ => rfl
  rw [e, e, ht]

@[simp] theorem raiseNotice_latchOf (x : NoticeKind) (o : Nat) (v : Int) : (raiseNotice x o v y).latchOf n = y.latchOf n := rfl
@[simp] theorem handSource_latchOf : (handSource k y).latchOf n = y.latchOf n := latchOf_of_told handSource_told
@[simp] theorem hsuSample_latchOf (s : Sampled) : (hsuSample k s y).latchOf n = y.latchOf n := latchOf_of_told (hsuSample_told s)
@[simp] theorem yardTempChange_latchOf : (yardTempChange y).latchOf n = y.latchOf n := latchOf_of_told yardTempChange_told
@[simp] theorem updRec_latchOf (f : QRec → QRec) : (y.updRec q f).latchOf n = y.latchOf n := rfl
@[simp] theorem updOpen_latchOf (f : PEntry → PEntry) : (updOpen q f y).latchOf n = y.latchOf n := rfl
@[simp] theorem writeSample_latchOf (v : Int) (s : Source) : (writeSample q v s y).latchOf n = y.latchOf n := rfl
@[simp] theorem countClamp_latchOf : (countClamp q y).latchOf n = y.latchOf n := rfl
@[simp] theorem forgetSeen_latchOf : (forgetSeen m y).latchOf n = y.latchOf n := rfl

/-- A record of a meter of a day changed but for its latch mark leaves every latch mark. -/
theorem Day.updMeter_latched {d : Day} {f : MeterDay → MeterDay} (hf : ∀ r, (f r).latched = r.latched) :
    ((d.updMeter m f).meters.get n).latched = (d.meters.get n).latched := by
  by_cases e : n = m
  · subst e; simp [Day.updMeter, hf]
  · simp [Day.updMeter, Meters.get_set_ne _ _ e]

theorem counts_latchOf (b : Bool) {f g : MeterDay → MeterDay} (hf : ∀ r, (f r).latched = r.latched) :
    (y.updSoa fun u => if b && u.pending.isSome then u.updPending fun p => { p with day := p.day.updMeter m f }
      else u.updCurrent (·.updMeter m g)).latchOf n = y.latchOf n := by
  simp only [Yard.latchOf, Yard.updSoa]
  split
  · simp [Soa.updPending, Function.comp_def, Day.updMeter_latched hf]
  · rfl

@[simp] theorem soaDelta_latchOf (c : Nat) (b : Bool) (r : Option Nat) : (soaDelta m c b r y).latchOf n = y.latchOf n := by
  by_cases hc : y.isCommitted = true
  · rw [soaDelta, if_pos hc, apply_ite (Yard.latchOf · n), counts_latchOf b]
    · exact ite_self _
    · exact fun _ => rfl
  · rw [soaDelta, if_neg hc]

@[simp] theorem handDelta_latchOf (d r : Nat) : (handDelta m d r y).latchOf n = y.latchOf n := by simp [handDelta]

@[simp] theorem meterSample_latchOf (r : Nat) (b : Bool) : (meterSample m r b y).latchOf n = y.latchOf n := by
  unfold meterSample
  dsimp only
  repeat' split
  all_goals simp

@[simp] theorem acceptSample_latchOf (v : Int) (s : Source) (b : Bool) : (acceptSample q v s b y).latchOf n = y.latchOf n := by
  unfold acceptSample
  dsimp only
  repeat' split
  all_goals simp

@[simp] theorem slotEntry_latchOf (p : Point) (v : Int) (b : Bool) : (slotEntry p v b y q).latchOf n = y.latchOf n := by
  unfold slotEntry
  dsimp only
  repeat' split
  all_goals simp

@[simp] theorem qprEntry_latchOf (p : Point) (st : PointStatus) (v : Int) (b : Bool) : (qprEntry p st v b y).latchOf n = y.latchOf n := by
  unfold qprEntry
  split
  · exact foldl_keeps (·.latchOf n) (fun _ _ => slotEntry_latchOf _ _ _) _ _
  · rfl

end

end Sys2Proof.Machine
end

section
/-! SUPPORT. A booster's and a governor's report (R86, R93 to R95), and the reports of several valves. -/

namespace Sys2Proof.Machine

section
variable {y z : Yard} {d x : District} {q : Slot} {n : Meter}

/-! ### What a booster's report leaves -/

/-- All that the districts' boosters leave: the description, the roster, the quantities, the accounts, and what is heard. -/
def Yard.undistricted (y : Yard) : Yds × List Entry × Qpr × Soa × ((Valve → Reported) × List Notice) :=
  (y.yds, y.scs.roster, y.qpr, y.soa, y.heard)

/-- The reports of the boosters and of the governors. -/
def Yard.gauges (y : Yard) : (District → BoosterRep) × (District → Option (Int × PointStatus)) :=
  (fun d => (y.dgu.districts.get d).boosterRep, fun d => (y.dgu.districts.get d).reported)

@[simp] theorem updDistrict_undistricted (f : DistrictDyn → DistrictDyn) : (y.updDistrict d f).undistricted = y.undistricted := rfl

@[simp] theorem raiseNotice_undistricted {k : NoticeKind} (hk : k ≠ .outstationRecovered) (o : Nat) (v : Int) :
    (raiseNotice k o v y).undistricted = y.undistricted := by
  have e : ∀ x : Yard, x.undistricted = (x.yds, x.scs.roster, x.qpr, x.soa, x.heard) := fun _ => rfl
  rw [e, e, raiseNotice_heard hk]
  rfl

@[simp] theorem raiseBooster_undistricted (c : BoosterCause) : (raiseBooster d c y).undistricted = y.undistricted := by
  simp [raiseBooster]

@[simp] theorem putStop_undistricted : (putStop d y).undistricted = y.undistricted := by rw [putStop_eq]; rfl

@[simp] theorem enterShort_undistricted : (enterShort d y).undistricted = y.undistricted := by
  unfold enterShort
  dsimp only
  split
  · simp
  · rw [raiseNotice_undistricted (by decide)]
    rfl

@[simp] theorem boosterFails_undistricted (c : BoosterCause) : (boosterFails d c y).undistricted = y.undistricted := by
  simp [boosterFails]

@[simp] theorem adoptFrom_undistricted (r : BoosterRep) : (adoptFrom d r y).undistricted = y.undistricted := by
  cases r <;> simp [adoptFrom]

@[simp] theorem boosterMoves_undistricted (r : BoosterRep) : (boosterMoves d r y).undistricted = y.undistricted := by
  unfold boosterMoves
  split <;> simp

@[simp] theorem boosterReport_undistricted (r : BoosterRep) : (boosterReport d r y).undistricted = y.undistricted := by
  unfold boosterReport
  dsimp only
  repeat' split
  all_goals simp

@[simp] theorem governorReport_undistricted (v : Int) (s : PointStatus) : (governorReport d v s y).undistricted = y.undistricted := rfl

/-! ### The reports of boosters and governors -/

/-- A district changed but for its reports leaves every report. -/
theorem updDistrict_gauges {f : DistrictDyn → DistrictDyn} (hb : ∀ r, (f r).boosterRep = r.boosterRep)
    (hg : ∀ r, (f r).reported = r.reported) : (y.updDistrict d f).gauges = y.gauges := by
  have kept (x : District) : ((y.dgu.districts.set d (f (y.dgu.districts.get d))).get x).boosterRep =
      (y.dgu.districts.get x).boosterRep ∧ ((y.dgu.districts.set d (f (y.dgu.districts.get d))).get x).reported =
        (y.dgu.districts.get x).reported := by
    by_cases e : x = d
    · subst e; simp [hb, hg]
    · simp [Districts.get_set_ne _ _ e]
  exact Prod.ext (funext fun x => (kept x).1) (funext fun x => (kept x).2)

@[simp] theorem raiseNotice_gauges (k : NoticeKind) (o : Nat) (v : Int) : (raiseNotice k o v y).gauges = y.gauges := rfl

@[simp] theorem boosterFails_gauges (c : BoosterCause) : (boosterFails d c y).gauges = y.gauges := by
  obtain ⟨n, q, e, -⟩ := boosterFails_spec (y := y) (d := d) (c := c)
  rw [e]
  exact updDistrict_gauges (y := y) (d := d) (f := fun r =>
    { r with boosterCmd := .stop, runUp := .idle, failed := true, feed := .short }) (fun _ => rfl) fun _ => rfl

@[simp] theorem adoptFrom_gauges (r : BoosterRep) : (adoptFrom d r y).gauges = y.gauges := by
  cases r with
  | running => exact updDistrict_gauges (fun _ => rfl) fun _ => rfl
  | stopped => exact updDistrict_gauges (fun _ => rfl) fun _ => rfl
  | fault => exact (raiseNotice_gauges _ _ _).trans (updDistrict_gauges (fun _ => rfl) fun _ => rfl)
  | unknown => rfl

@[simp] theorem boosterMoves_gauges (r : BoosterRep) : (boosterMoves d r y).gauges = y.gauges := by
  unfold boosterMoves
  split
  · exact updDistrict_gauges (fun _ => rfl) fun _ => rfl
  · simp
  · simp
  · simp
  · exact updDistrict_gauges (fun _ => rfl) fun _ => rfl
  · rfl

/-- A booster's report is that booster's alone, and stands whatever follows from it (R93). -/
theorem boosterReport_gauges (r : BoosterRep) : (boosterReport d r y).gauges = (Function.update y.gauges.1 d r, y.gauges.2) := by
  have reported : (y.updDistrict d fun x =>
      { x with boosterRep := r, runUp := if x.boosterCmd.equals r then .idle else x.runUp }).gauges =
      (Function.update y.gauges.1 d r, y.gauges.2) := by
    refine Prod.ext (funext fun x => ?_) (funext fun x => ?_) <;> by_cases e : x = d
    · subst e; simp [Yard.gauges, Yard.updDistrict, Yard.updDgu]
    · simp [Yard.gauges, Yard.updDistrict, Yard.updDgu, Function.update_of_ne e, Districts.get_set_ne _ _ e]
    · subst e; simp [Yard.gauges, Yard.updDistrict, Yard.updDgu]
    · simp [Yard.gauges, Yard.updDistrict, Yard.updDgu, Districts.get_set_ne _ _ e]
  rw [← reported]
  unfold boosterReport
  dsimp only
  repeat' split
  all_goals simp

/-- A governor's report is that governor's alone (R86). -/
theorem governorReport_gauges (v : Int) (s : PointStatus) :
    (governorReport d v s y).gauges = (y.gauges.1, Function.update y.gauges.2 d (some (v, s))) := by
  refine Prod.ext (funext fun x => ?_) (funext fun x => ?_) <;> by_cases e : x = d
  · subst e; simp [governorReport, Yard.gauges, Yard.updDistrict, Yard.updDgu]
  · simp [governorReport, Yard.gauges, Yard.updDistrict, Yard.updDgu, Districts.get_set_ne _ _ e]
  · subst e; simp [governorReport, Yard.gauges, Yard.updDistrict, Yard.updDgu]
  · simp [governorReport, Yard.gauges, Yard.updDistrict, Yard.updDgu, Function.update_of_ne e, Districts.get_set_ne _ _ e]

/-! ### One report for several -/

/-- The same report made for each of some, seen at one: it has the report where it is among them. -/
theorem foldl_report {α β : Type} [DecidableEq α] {g : Yard → α → β} {f : Yard → α → Yard} {b : β}
    (hf : ∀ z a, g (f z a) = Function.update (g z) a b) (as : List α) (c : α) :
    g (as.foldl f y) c = if c ∈ as then b else g y c := by
  induction as generalizing y with
  | nil => simp
  | cons a as ih =>
    rw [List.foldl_cons, ih, hf]
    by_cases e : c = a
    · subst e; simp
    · simp [e]

theorem Valve.mem_list (v : Valve) : v ∈ Valve.list := by
  obtain ⟨h, side⟩ := v
  cases h <;> cases side <;> decide

end

end Sys2Proof.Machine
end

section
/-! SUPPORT. One point entry of a reply handed on (R120, R136). -/

namespace Sys2Proof.Machine

/-- What each step of a fold over some keeps of the yard, the fold keeps. -/
theorem foldl_keeps_mem {α β : Type} (g : Yard → β) {f : Yard → α → Yard} {as : List α} (h : ∀ y, ∀ a ∈ as, g (f y a) = g y)
    (y : Yard) : g (as.foldl f y) = g y := by
  induction as generalizing y with
  | nil => rfl
  | cons a as ih => exact (ih (fun y b hb => h y b (List.mem_cons_of_mem _ hb)) _).trans (h y a List.mem_cons_self)

section
variable {y z : Yard} {a : Nat} {e : Entry} {p : PointEntry} {b : Bool} {q : Slot} {n : Meter} {v : Valve} {d : District}

/-! ### What every entry leaves -/

/-- What a reply leaves whatever its entries say: the description, the roster, and the recovered outstations. -/
def Yard.still (y : Yard) : Yds × List Entry × List Notice := (y.yds, y.scs.roster, y.heard.2)

theorem still_of_core (hc : z.core = y.core) : z.still = y.still := by
  have e : ∀ x : Yard, x.still = (x.core.1, x.core.2.1, x.core.2.2.2.2) := fun _ => rfl
  rw [e, e, hc]

theorem still_of_undistricted (hc : z.undistricted = y.undistricted) : z.still = y.still := by
  have e : ∀ x : Yard, x.still = (x.undistricted.1, x.undistricted.2.1, x.undistricted.2.2.2.2.2) := fun _ => rfl
  rw [e, e, hc]

theorem Yard.yds_of_still (h : z.still = y.still) : z.yds = y.yds := congrArg Prod.fst h

theorem Yard.entryAt_of_still (h : z.still = y.still) (a : Nat) : z.scs.entryAt a = y.scs.entryAt a := by
  have roster : z.scs.roster = y.scs.roster := congrArg (fun x => x.2.1) h
  simp only [Scs.entryAt, roster]

theorem valveReport_bulk (rep : Reported) : ((valveReport v rep y).yds, (valveReport v rep y).scs.roster, (valveReport v rep y).dgu,
    (valveReport v rep y).qpr, (valveReport v rep y).soa) = (y.yds, y.scs.roster, y.dgu, y.qpr, y.soa) :=
  (congrArg (fun x : Yard => (x.yds, x.scs.roster, x.dgu, x.qpr, x.soa)) (valveReport_unmoved y v rep) :)

theorem valveReport_still (rep : Reported) : (valveReport v rep y).still = y.still := by
  have bulk := valveReport_bulk (y := y) (v := v) rep
  have heard := valveReport_heard (y := y) (v := v) rep
  simp only [Prod.mk.injEq] at bulk
  simp only [Yard.still, bulk, heard]

/-- An entry that is not kept is passed over (R120). -/
theorem handEntry_passed (he : y.scs.entryAt a = some e) (no : entryKept e p = false) : handEntry a b y p = y := by
  simp [handEntry, he, no]

theorem handEntry_kept (he : y.scs.entryAt a = some e) (kept : entryKept e p = true) : handEntry a b y p =
    match e.points.get p.channel with
    | some .measure => qprEntry ⟨a, p.channel⟩ p.status (entryValue false p.raw) false y
    | some .meter => qprEntry ⟨a, p.channel⟩ p.status (entryValue true p.raw) b y
    | some .valve =>
      (Valve.list.filter fun v => y.yds.bind.valve v == some ⟨a, p.channel⟩).foldl (fun y v => valveReport v (valveState p) y) y
    | some .booster =>
      (District.list.filter fun d => y.yds.bind.booster.get d == some ⟨a, p.channel⟩).foldl
        (fun y d => boosterReport d (boosterState p) y) y
    | some .governor =>
      (District.list.filter fun d => y.yds.bind.governor.get d == some ⟨a, p.channel⟩).foldl
        (fun y d => governorReport d (p.raw.toNat : Int) p.status y) y
    | none => y := by
  simp only [handEntry, he, kept, if_true] <;> rfl

theorem handEntry_still : (handEntry a b y p).still = y.still := by
  cases he : y.scs.entryAt a with
  | none => simp [handEntry, he]
  | some e =>
    cases kept : entryKept e p with
    | false => rw [handEntry_passed he kept]
    | true =>
      rw [handEntry_kept he kept]
      split
      · exact still_of_core (qprEntry_core _ _ _ _)
      · exact still_of_core (qprEntry_core _ _ _ _)
      · exact foldl_keeps Yard.still (fun _ _ => valveReport_still _) _ _
      · exact foldl_keeps Yard.still (fun _ _ => still_of_undistricted (boosterReport_undistricted _)) _ _
      · exact foldl_keeps Yard.still (fun _ _ => still_of_undistricted (governorReport_undistricted _ _)) _ _
      · rfl

/-! ### The reports -/

/-- A kept entry of a VALVE point is the report of the valves bound to it, and of no other (R120). -/
theorem handEntry_report (he : y.scs.entryAt a = some e) (v : Valve) : (handEntry a b y p).heard.1 v =
    if entryKept e p = true ∧ e.points.get p.channel = some .valve ∧ y.yds.bind.valve v = some ⟨a, p.channel⟩ then valveState p
    else y.heard.1 v := by
  cases kept : entryKept e p with
  | false => simp [handEntry_passed he kept]
  | true =>
    rw [handEntry_kept he kept]
    split <;> rename_i kind <;> simp only [kind, true_and, Option.some.injEq, reduceCtorEq, false_and, if_false]
    · exact congrFun (congrArg (fun x => x.2.2.2.1) (qprEntry_core (y := y) _ _ _ _)) v
    · exact congrFun (congrArg (fun x => x.2.2.2.1) (qprEntry_core (y := y) _ _ _ _)) v
    · rw [foldl_report (g := fun z => z.heard.1) fun z v => congrArg Prod.fst (valveReport_heard (y := z) (v := v) _)]
      simp [Valve.mem_list]
    · exact congrFun (congrArg (fun x => x.2.2.2.2.1)
        (foldl_keeps Yard.undistricted (fun z d => boosterReport_undistricted _) _ y)) v
    · exact congrFun (congrArg (fun x => x.2.2.2.2.1)
        (foldl_keeps Yard.undistricted (fun z d => governorReport_undistricted _ _) _ y)) v

theorem core_gauges (hc : z.core = y.core) : z.gauges = y.gauges := by
  have e : ∀ x : Yard, x.gauges = (fun d => (x.core.2.2.1.districts.get d).boosterRep,
    fun d => (x.core.2.2.1.districts.get d).reported) := fun _ => rfl
  rw [e, e, hc]

theorem valveReport_gauges (rep : Reported) : (valveReport v rep y).gauges = y.gauges := by
  have bulk := valveReport_bulk (y := y) (v := v) rep
  simp only [Prod.mk.injEq] at bulk
  simp only [Yard.gauges, bulk]

/-- A kept entry of a BOOSTER point is the report of the boosters bound to it, and of no other (R120). -/
theorem handEntry_booster (he : y.scs.entryAt a = some e) (d : District) : (handEntry a b y p).gauges.1 d =
    if entryKept e p = true ∧ e.points.get p.channel = some .booster ∧ y.yds.bind.booster.get d = some ⟨a, p.channel⟩ then
      boosterState p
    else y.gauges.1 d := by
  cases kept : entryKept e p with
  | false => simp [handEntry_passed he kept]
  | true =>
    rw [handEntry_kept he kept]
    split <;> rename_i kind <;> simp only [kind, true_and, Option.some.injEq, reduceCtorEq, false_and, if_false]
    · rw [core_gauges (qprEntry_core _ _ _ _)]
    · rw [core_gauges (qprEntry_core _ _ _ _)]
    · rw [foldl_keeps Yard.gauges fun _ _ => valveReport_gauges _]
    · rw [foldl_report (g := fun z => z.gauges.1) fun z d => congrArg Prod.fst (boosterReport_gauges (y := z) (d := d) _)]
      simp [District.mem_list]
    · rw [foldl_keeps (·.gauges.1) fun z d => (congrArg Prod.fst (governorReport_gauges (y := z) (d := d) _ _) :)]

/-- A kept entry of a GOVERNOR point is the report of the governors bound to it, and of no other (R120). -/
theorem handEntry_governor (he : y.scs.entryAt a = some e) (d : District) : (handEntry a b y p).gauges.2 d =
    if entryKept e p = true ∧ e.points.get p.channel = some .governor ∧ y.yds.bind.governor.get d = some ⟨a, p.channel⟩ then
      some ((p.raw.toNat : Int), p.status)
    else y.gauges.2 d := by
  cases kept : entryKept e p with
  | false => simp [handEntry_passed he kept]
  | true =>
    rw [handEntry_kept he kept]
    split <;> rename_i kind <;> simp only [kind, true_and, Option.some.injEq, reduceCtorEq, false_and, if_false]
    · rw [core_gauges (qprEntry_core _ _ _ _)]
    · rw [core_gauges (qprEntry_core _ _ _ _)]
    · rw [foldl_keeps Yard.gauges fun _ _ => valveReport_gauges _]
    · rw [foldl_keeps (·.gauges.2) fun z d => (congrArg Prod.snd (boosterReport_gauges (y := z) (d := d) _) :)]
    · rw [foldl_report (g := fun z => z.gauges.2) fun z d => congrArg Prod.snd (governorReport_gauges (y := z) (d := d) _ _)]
      simp [District.mem_list]

/-! ### One quantity -/

/-- What an entry gives QPR, where it is kept, GOOD, and of a MEASURE or METER point: its value, and the restarted flag of a meter
(R120, R136, R140). -/
def PointEntry.sample (e : Entry) (b : Bool) (p : PointEntry) : Option (Int × Bool) :=
  if entryKept e p && p.status == .good then
    match e.points.get p.channel with
    | some .measure => some (entryValue false p.raw, false)
    | some .meter => some (entryValue true p.raw, b)
    | _ => none
  else none

theorem Slot.list_nodup : Slot.list.Nodup := by decide

/-- The quantities take their places about one of them. -/
theorem Slot.list_around (q : Slot) : ∃ l₁ l₂, Slot.list = l₁ ++ q :: l₂ ∧ (∀ k ∈ l₁, q ≠ k) ∧ ∀ k ∈ l₂, q ≠ k := by
  obtain ⟨l₁, l₂, split⟩ := List.append_of_mem (Slot.mem_list q)
  have nodup := Slot.list_nodup
  rw [split] at nodup
  obtain ⟨-, tail, apart⟩ := List.nodup_append.1 nodup
  exact ⟨l₁, l₂, split, fun k hk e => apart k hk q List.mem_cons_self e.symm, fun k hk e => (List.nodup_cons.1 tail).1 (e ▸ hk)⟩

/-- A good entry for QPR, seen from one quantity: what QPR does for that one alone (R136). -/
theorem qprEntry_apart (pt : Point) (v : Int) : ∃ z : Yard, z.yds = y.yds ∧ z.apart q = y.apart q ∧
    (qprEntry pt .good v b y).apart q = (slotEntry pt v b z q).apart q := by
  obtain ⟨l₁, l₂, split, before, after⟩ := Slot.list_around q
  refine ⟨l₁.foldl (slotEntry pt v b) y, ?_, ?_, ?_⟩
  · exact foldl_keeps Yard.yds (fun _ _ => congrArg Prod.fst (slotEntry_core _ _ _)) l₁ y
  · exact foldl_keeps_mem (·.apart q) (fun z k hk => slotEntry_apart (before k hk) _ _ _) y
  · simp only [qprEntry, beq_self_eq_true, if_true, split, List.foldl_append, List.foldl_cons]
    exact foldl_keeps_mem (·.apart q) (fun z k hk => slotEntry_apart (after k hk) _ _ _) _

theorem qprEntry_bad {st : PointStatus} (bad : st ≠ .good) (pt : Point) (v : Int) : qprEntry pt st v b y = y := by
  simp [qprEntry, bad]

theorem valveReport_apart (rep : Reported) : (valveReport v rep y).apart q = y.apart q := by
  have bulk := valveReport_bulk (y := y) (v := v) rep
  simp only [Prod.mk.injEq] at bulk
  simp only [Yard.apart, bulk]

theorem undistricted_apart (hu : z.undistricted = y.undistricted) : z.apart q = y.apart q := by
  have e : ∀ x : Yard, x.apart q = (x.undistricted.2.2.1.recs.get q, x.undistricted.2.2.1.current.map (·.entries.get q),
    x.undistricted.2.2.1.markerAwaited, q.meterOf.map x.undistricted.2.2.2.1.ofMeter) := fun _ => rfl
  rw [e, e, hu]

/-- An entry of a reply, seen from one quantity: what QPR does for that one with the sample it gives, if any (R120, R136). -/
theorem handEntry_apart (he : y.scs.entryAt a = some e) (q : Slot) :
    (p.sample e b = none ∧ (handEntry a b y p).apart q = y.apart q) ∨
    ∃ x z, p.sample e b = some x ∧ z.yds = y.yds ∧ z.apart q = y.apart q ∧
      (handEntry a b y p).apart q = (slotEntry ⟨a, p.channel⟩ x.1 x.2 z q).apart q := by
  cases kept : entryKept e p with
  | false => exact .inl ⟨by simp [PointEntry.sample, kept], by rw [handEntry_passed he kept]⟩
  | true =>
    have none (other : e.points.get p.channel ≠ some .measure ∧ e.points.get p.channel ≠ some .meter) : p.sample e b = none := by
      unfold PointEntry.sample
      split
      · split
        · next k => exact absurd k other.1
        · next k => exact absurd k other.2
        · rfl
      · rfl
    rw [handEntry_kept he kept]
    split <;> rename_i kind
    · by_cases good : p.status = .good
      · obtain ⟨z, yds, same, taken⟩ := qprEntry_apart (y := y) (q := q) (b := false) ⟨a, p.channel⟩ (entryValue false p.raw)
        rw [good]
        exact .inr ⟨(entryValue false p.raw, false), z, by simp [PointEntry.sample, kept, good, kind], yds, same, taken⟩
      · exact .inl ⟨by simp [PointEntry.sample, good], by rw [qprEntry_bad good]⟩
    · by_cases good : p.status = .good
      · obtain ⟨z, yds, same, taken⟩ := qprEntry_apart (y := y) (q := q) (b := b) ⟨a, p.channel⟩ (entryValue true p.raw)
        rw [good]
        exact .inr ⟨(entryValue true p.raw, b), z, by simp [PointEntry.sample, kept, good, kind], yds, same, taken⟩
      · exact .inl ⟨by simp [PointEntry.sample, good], by rw [qprEntry_bad good]⟩
    · exact .inl ⟨none (by simp [kind]), foldl_keeps (·.apart q) (fun _ _ => valveReport_apart _) _ _⟩
    · exact .inl ⟨none (by simp [kind]), foldl_keeps (·.apart q) (fun _ _ => undistricted_apart (boosterReport_undistricted _)) _ _⟩
    · exact .inl ⟨none (by simp [kind]), foldl_keeps (·.apart q) (fun _ _ =>
        undistricted_apart (governorReport_undistricted _ _)) _ _⟩
    · exact .inl ⟨none (by simp [kind]), rfl⟩

theorem valveReport_latchOf (rep : Reported) : (valveReport v rep y).latchOf n = y.latchOf n := by
  have bulk := valveReport_bulk (y := y) (v := v) rep
  simp only [Prod.mk.injEq] at bulk
  simp only [Yard.latchOf, bulk]

theorem undistricted_latchOf (hu : z.undistricted = y.undistricted) : z.latchOf n = y.latchOf n := by
  have e : ∀ x : Yard, x.latchOf n = x.undistricted.2.2.2.1.pending.map fun p => (p.day.meters.get n).latched := fun _ => rfl
  rw [e, e, hu]

/-- No entry reports a latch (R152). -/
theorem handEntry_latchOf : (handEntry a b y p).latchOf n = y.latchOf n := by
  cases he : y.scs.entryAt a with
  | none => simp [handEntry, he]
  | some e =>
    cases kept : entryKept e p with
    | false => rw [handEntry_passed he kept]
    | true =>
      rw [handEntry_kept he kept]
      split
      · exact qprEntry_latchOf _ _ _ _
      · exact qprEntry_latchOf _ _ _ _
      · exact foldl_keeps (·.latchOf n) (fun _ _ => valveReport_latchOf _) _ _
      · exact foldl_keeps (·.latchOf n) (fun _ _ => undistricted_latchOf (boosterReport_undistricted _)) _ _
      · exact foldl_keeps (·.latchOf n) (fun _ _ => undistricted_latchOf (governorReport_undistricted _ _)) _ _
      · rfl

end

end Sys2Proof.Machine
end

section
/-! SUPPORT. What QPR does for one quantity with a sample, and at the end of the POLL phase (R136 to R140, R147). -/

namespace Sys2Proof.Machine

section
variable {y z : Yard} {q : Slot} {m : Meter} {pt : Point} {v : Int} {b : Bool} {s : Source}

/-! ### A sample for the quantity (R136) -/

/-- A point that is neither the primary of a quantity, nor its standby while a sample is wanted, gives it nothing. -/
theorem slotEntry_deaf (hp : (y.yds.bind.slots.get q).primary ≠ some pt)
    (hs : (y.yds.bind.slots.get q).standby = some pt → (y.yds.bind.slots.get q).primary ≠ none ∧ (y.qpr.recs.get q).accepted = true) :
    slotEntry pt v b y q = y := by
  unfold slotEntry
  by_cases standby : (y.yds.bind.slots.get q).standby = some pt
  · obtain ⟨primary, accepted⟩ := hs standby
    obtain ⟨p, hp'⟩ := Option.ne_none_iff_exists'.1 primary
    have other : p ≠ pt := fun e => hp (hp'.trans (congrArg some e))
    simp [hp', other, accepted]
  · simp [hp, standby]

theorem slotEntry_primary (present : y.yds.slotPresent q = true) (hp : (y.yds.bind.slots.get q).primary = some pt) :
    slotEntry pt v b y q = acceptSample q v .live b (y.updRec q fun r => { r with candidate := none }) := by
  simp [slotEntry, present, hp]

theorem slotEntry_standby (present : y.yds.slotPresent q = true) (hb : y.yds.bind.slots.get q = ⟨none, some pt⟩) :
    slotEntry pt v b y q = acceptSample q v .standby b y := by
  simp [slotEntry, present, hb]

/-- A record that has taken a value from a source in the POLL phase that goes on (R136). -/
def QRec.Took (r : QRec) (v : Int) (s : Source) : Prop := r.value = some v ∧ r.source = s ∧ r.since = 0 ∧ r.accepted = true

theorem writeSample_took : ((writeSample q v s y).apart q).1.Took v s := by
  simp [QRec.Took, writeSample, Yard.apart, Yard.updRec, Yard.updQpr]

theorem updOpen_rec {k : Slot} (f : PEntry → PEntry) : ((updOpen k f y).apart q).1 = (y.apart q).1 := rfl

theorem clampSample_congr (h : z.yds = y.yds) : clampSample z q v = clampSample y q v := by simp only [clampSample, h]

theorem acceptSample_measure (hm : q.meterOf = none) : ((acceptSample q v s b y).apart q).1.Took (clampSample y q v) s := by
  have took (z : Yard) : ((updOpen q (·.enter (clampSample y q v)) (writeSample q (clampSample y q v) s z)).apart q).1.Took
      (clampSample y q v) s := writeSample_took
  unfold acceptSample
  rw [hm]
  dsimp only
  split
  · split
    · rw [yardTempChange_apart]
      exact took _
    · exact took _
  · rw [hsuSample_apart]
    exact took _

theorem acceptSample_refused (hm : q.meterOf = some m) (high : 999999 < v) : acceptSample q v s b y = countClamp q y := by
  simp [acceptSample, hm, high]

theorem acceptSample_meter (low : 0 ≤ v) (high : v ≤ 999999) : acceptSample (meterSlot m) v s b y =
    meterSample m v.toNat b (updOpen (meterSlot m) (·.enter v) (writeSample (meterSlot m) v s y)) := by
  simp [acceptSample, not_lt.2 low, not_lt.2 high]

/-! ### A register of a meter (R139, R140) -/

theorem soaDelta_rec (k : Nat) (x : Bool) (r : Option Nat) : (soaDelta m k x r y).qpr = y.qpr := by
  unfold soaDelta
  dsimp only
  repeat' split
  all_goals rfl

theorem handDelta_rec (k r : Nat) : ((handDelta m k r y).apart q).1 = (y.apart q).1 := by
  simp only [handDelta, Yard.apart, soaDelta_rec]
  rfl

theorem forgetSeen_rec : ((forgetSeen m y).apart q).1 = (y.apart q).1 := rfl

/-- The record of the meter with a register as its base, and no scans since (R139). -/
def Yard.rebased (y : Yard) (m : Meter) (r : Nat) : Yard := y.updRec (meterSlot m) fun x => { x with base := some r, scans := 0 }

/-- A register makes itself the base, where a record is open or the meter restarted; else it leaves the record (R139, R140). -/
theorem meterSample_rec (r : Nat) : ((meterSample m r b y).apart q).1 =
    if y.qpr.current ≠ none ∨ b = true then ((y.rebased m r).apart q).1 else (y.apart q).1 := by
  have isSome : y.qpr.current.isSome = true ↔ y.qpr.current ≠ none := Option.isSome_iff_ne_none
  by_cases restarted : b = true
  · rw [if_pos (.inr restarted), meterSample, if_pos restarted]
    dsimp only
    split
    · rw [handDelta_rec, updOpen_rec]
      rfl
    · exact forgetSeen_rec
  · rw [meterSample, if_neg restarted]
    dsimp only
    by_cases opened : y.qpr.current ≠ none
    · rw [if_pos (isSome.2 opened), if_pos (.inl opened)]
      repeat' split
      · rw [handDelta_rec, updOpen_rec]
        rfl
      · rw [handDelta_rec, raiseNotice_apart, updOpen_rec]
        rfl
      · rw [handDelta_rec]
        rfl
    · rw [if_neg (fun h => opened (isSome.1 h)), if_neg (not_or.2 ⟨opened, restarted⟩)]

theorem rebased_rec {r : Nat} : ((y.rebased m r).apart (meterSlot m)).1 =
    { y.qpr.recs.get (meterSlot m) with base := some r, scans := 0 } := by
  simp [Yard.rebased, Yard.apart, Yard.updRec, Yard.updQpr]

/-- A register in range is taken: the record takes its value, and it is the base where a record is open or the meter restarted. -/
theorem acceptSample_register (low : 0 ≤ v) (high : v ≤ 999999) :
    ((acceptSample (meterSlot m) v s b y).apart (meterSlot m)).1.Took v s ∧
    (y.qpr.current ≠ none ∨ b = true → ((acceptSample (meterSlot m) v s b y).apart (meterSlot m)).1.base = some v.toNat) := by
  have took := writeSample_took (y := y) (q := meterSlot m) (v := v) (s := s)
  have opened : (updOpen (meterSlot m) (·.enter v) (writeSample (meterSlot m) v s y)).qpr.current ≠ none ↔ y.qpr.current ≠ none := by
    simp [updOpen, writeSample, Yard.updRec, Yard.updQpr]
  rw [acceptSample_meter low high, meterSample_rec]
  split
  · rw [rebased_rec]
    exact ⟨took, fun _ => rfl⟩
  · next no => exact ⟨took, fun h => absurd (h.imp_left opened.2) no⟩

/-- A register of a restarted meter marks the entry of the open record, and adds no delta to it (R140). -/
theorem acceptSample_restarted (low : 0 ≤ v) (high : v ≤ 999999) {x : PEntry} (hx : (y.apart (meterSlot m)).2.1 = some x) :
    ∃ x', ((acceptSample (meterSlot m) v s true y).apart (meterSlot m)).2.1 = some x' ∧ x'.restart = true ∧ x'.estimated = true ∧
      x'.deltas = x.deltas := by
  obtain ⟨rec, current, rfl⟩ := Option.map_eq_some_iff.1 hx
  rw [acceptSample_meter low high]
  simp only [meterSample, updOpen, writeSample, Yard.updRec, Yard.updQpr, current, Option.map_some, Option.isSome_some, if_true, handDelta,
    Yard.apart, soaDelta_rec, PeriodRec.updEntry, Slots.get_set]
  exact ⟨_, rfl, rfl, rfl, rfl⟩

/-! ### The delta in the accounts (R139, R147) -/

/-- A delta taken by the accounts for the current day (R147). -/
theorem soaDelta_counts {k r : Nat} {d : MeterDay} (hc : y.yds.desc = .committed)
    (hd : (y.soa.ofMeter m).2.1 = some d) : (soaDelta m k false (some r) y).soa.ofMeter m =
      (⟨some r, (y.soa.seen.get m).register, some k⟩, some { d with openAcc := d.openAcc + k * y.yds.meterFactor m },
        (y.soa.ofMeter m).2.2) := by
  obtain ⟨day, current, rfl⟩ := Option.map_eq_some_iff.1 hd
  simp [soaDelta, isCommitted_of hc, Soa.ofMeter, Soa.updCurrent, Day.updMeter, Yard.updSoa, current]

/-- A delta within the jump is within the limit, whatever the scans since (R139). -/
theorem not_jump {jump : Int} {d scans : Nat} (hj : (d : Int) ≤ jump) (hd : d ≤ 999999) : ¬jumpLimit jump scans < d := by
  have one : (1 : Int) ≤ (max scans 1 : Nat) := by exact_mod_cast le_max_right scans 1
  have times : jump ≤ jump * (max scans 1 : Nat) := le_mul_of_one_le_right (by omega) one
  unfold jumpLimit
  omega

theorem dialDelta_le (r x : Nat) : dialDelta r x ≤ 999999 := by
  unfold dialDelta
  omega

/-- A register of a meter that has a base gives its delta to the accounts (R139, R147). -/
theorem acceptSample_delta {x : Nat} {d : MeterDay} (low : 0 ≤ v) (high : v ≤ 999999) (hc : y.yds.desc = .committed)
    (hr : y.qpr.current ≠ none) (hb : (y.qpr.recs.get (meterSlot m)).base = some x) (hm : y.qpr.markerAwaited = false)
    (hj : (dialDelta v.toNat x : Int) ≤ (y.yds.subs.get (meterSlot m)).jump) (hd : (y.soa.ofMeter m).2.1 = some d) :
    (acceptSample (meterSlot m) v s false y).soa.ofMeter m =
      (⟨some v.toNat, (y.soa.seen.get m).register, some (dialDelta v.toNat x)⟩,
        some { d with openAcc := d.openAcc + (dialDelta v.toNat x : Nat) * y.yds.meterFactor m }, (y.soa.ofMeter m).2.2) := by
  obtain ⟨rec, hr⟩ := Option.ne_none_iff_exists'.1 hr
  have jump : ¬jumpLimit (y.yds.subs.get (meterSlot m)).jump (y.qpr.recs.get (meterSlot m)).scans < dialDelta v.toNat x :=
    not_jump hj (dialDelta_le _ _)
  rw [acceptSample_meter low high]
  simp only [meterSample, updOpen, writeSample, Yard.updRec, Yard.updQpr, hr, Option.map_some, Option.isSome_some, if_true,
    Slots.get_set, hb, Bool.false_eq_true, if_false, if_neg jump, handDelta, hm]
  exact soaDelta_counts (y := { y with qpr := _ }) hc hd

end

end Sys2Proof.Machine
end

section
/-! SUPPORT. The end of the POLL phase, seen from one quantity, and how the polls go on (R119, R125, R137, R138). -/

namespace Sys2Proof.Machine

section
variable {y z : Yard} {q k : Slot} {v : Int} {s : Source} {a : Nat}

/-! ### A quantity with a sample taken (R137) -/

/-- The items of a record that the end of the POLL phase leaves where a sample has been taken. -/
def QRec.standing (r : QRec) : Option Int × Source × Nat × Option Nat := (r.value, r.source, r.since, r.base)

/-- What is held of one quantity, of its record those items alone. -/
def Yard.sampled (y : Yard) (q : Slot) : (Option Int × Source × Nat × Option Nat) ×
    (Option PEntry × Bool × Option (Seen × Option MeterDay × Option (Bool × MeterDay) × Bool)) :=
  ((y.apart q).1.standing, (y.apart q).2)

theorem sampled_of_apart (h : z.apart q = y.apart q) : z.sampled q = y.sampled q := by rw [Yard.sampled, h, Yard.sampled]

theorem updRec_sampled {f : QRec → QRec} (hf : ∀ r, (f r).standing = r.standing) : (y.updRec q f).sampled q = y.sampled q := by
  simp [Yard.sampled, Yard.apart, Yard.updRec, Yard.updQpr, hf]

theorem slotPhaseEnd_sampled (h : (y.qpr.recs.get q).accepted = true) : (slotPhaseEnd y q).sampled q = y.sampled q := by
  unfold slotPhaseEnd
  dsimp only
  split
  · cases (y.qpr.recs.get q).candidate <;>
      simp only [h, Bool.not_true, Bool.and_false, Bool.false_and, Bool.false_eq_true, if_false] <;>
      exact updRec_sampled fun _ => rfl
  · rfl

/-- Every quantity of a list without it is done for, and nothing is seen of that. -/
theorem unboundAll_sampled (bound : y.yds.slotBound q = true) : (unboundAll y).sampled q = y.sampled q := by
  refine foldl_keeps_mem (·.sampled q) (fun z k hk => sampled_of_apart (unboundNow_apart ?_)) y
  rintro rfl
  have := (List.mem_filter.1 hk).2
  simp [bound] at this

theorem slotPhaseEnd_yds (l : List Slot) : (l.foldl slotPhaseEnd y).yds = y.yds :=
  foldl_keeps Yard.yds (fun _ _ => congrArg Prod.fst slotPhaseEnd_core) l y

/-- The end of the POLL phase leaves a sample that has been taken (R137). -/
theorem qprPhaseEnd_sampled (bound : y.yds.slotBound q = true) (h : (y.qpr.recs.get q).accepted = true) :
    (qprPhaseEnd y).sampled q = y.sampled q := by
  obtain ⟨l₁, l₂, around, before, after⟩ := Slot.list_around q
  have first : (l₁.foldl slotPhaseEnd y).apart q = y.apart q :=
    foldl_keeps_mem (·.apart q) (fun z k hk => slotPhaseEnd_apart (before k hk)) y
  have accepted : ((l₁.foldl slotPhaseEnd y).qpr.recs.get q).accepted = true := by
    rw [show (l₁.foldl slotPhaseEnd y).qpr.recs.get q = y.qpr.recs.get q from congrArg Prod.fst first]
    exact h
  have last (z : Yard) : (l₂.foldl slotPhaseEnd z).apart q = z.apart q :=
    foldl_keeps_mem (·.apart q) (fun z k hk => slotPhaseEnd_apart (after k hk)) z
  have polled (z : Yard) : (z.updQpr fun u => { u with polled := [] }).sampled q = z.sampled q := rfl
  have still : ((Slot.list.foldl slotPhaseEnd y).updQpr fun u => { u with polled := [] }).yds.slotBound q = true := by
    simp only [Yard.updQpr]
    rw [slotPhaseEnd_yds]
    exact bound
  rw [qprPhaseEnd, unboundAll_sampled still, polled, around,
    List.foldl_append, List.foldl_cons, sampled_of_apart (last _), slotPhaseEnd_sampled accepted, sampled_of_apart first]

/-! ### A quantity without a sample (R137, R138) -/

/-- The items of a record that a sample alone changes: the last good time, the base and the clamps. -/
def QRec.marks (r : QRec) : Option GoodTime × Option Nat × Nat := (r.lastGood, r.base, r.clamps)

def Yard.marks (y : Yard) (q : Slot) : Option GoodTime × Option Nat × Nat := (y.qpr.recs.get q).marks

theorem marks_of_apart (h : z.apart q = y.apart q) : z.marks q = y.marks q := congrArg (fun x => x.1.marks) h

theorem updRec_marks {f : QRec → QRec} (hf : ∀ r, (f r).marks = r.marks) : (y.updRec k f).marks q = y.marks q := by
  by_cases e : q = k
  · subst e; simp [Yard.marks, Yard.updRec, Yard.updQpr, hf]
  · exact marks_of_apart (updRec_apart e f)

theorem handSource_marks : (handSource k y).marks q = y.marks q := marks_of_apart handSource_apart

theorem toDeclared_marks : (toDeclared k y).marks q = y.marks q := by
  rw [toDeclared, handSource_marks, updRec_marks]
  intro r
  split <;> rfl

theorem holdTest_marks : (holdTest k y).marks q = y.marks q := by
  unfold holdTest
  dsimp only
  split
  · rw [toDeclared_marks, updRec_marks]
    exact fun _ => rfl
  · rfl

theorem unboundNow_marks : (unboundNow k y).marks q = y.marks q := by
  unfold unboundNow
  rw [apply_ite (Yard.marks · q), toDeclared_marks, ite_self, updRec_marks]
  exact fun _ => rfl

theorem slotPhaseEnd_marks (h : (y.qpr.recs.get q).candidate = none) : (slotPhaseEnd y q).marks q = y.marks q := by
  unfold slotPhaseEnd
  dsimp only
  split
  · rw [h]
    dsimp only
    rw [updRec_marks, apply_ite (Yard.marks · q), holdTest_marks, handSource_marks, updRec_marks, ite_self]
    · exact fun _ => rfl
    · exact fun _ => rfl
  · rfl

/-- The end of the POLL phase leaves the marks of a quantity that no candidate waits for (R137). -/
theorem qprPhaseEnd_marks (h : (y.qpr.recs.get q).candidate = none) : (qprPhaseEnd y).marks q = y.marks q := by
  obtain ⟨l₁, l₂, around, before, after⟩ := Slot.list_around q
  have first : (l₁.foldl slotPhaseEnd y).apart q = y.apart q :=
    foldl_keeps_mem (·.apart q) (fun z k hk => slotPhaseEnd_apart (before k hk)) y
  have none : ((l₁.foldl slotPhaseEnd y).qpr.recs.get q).candidate = none := by
    rw [show (l₁.foldl slotPhaseEnd y).qpr.recs.get q = y.qpr.recs.get q from congrArg Prod.fst first]
    exact h
  have last (z : Yard) : (l₂.foldl slotPhaseEnd z).apart q = z.apart q :=
    foldl_keeps_mem (·.apart q) (fun z k hk => slotPhaseEnd_apart (after k hk)) z
  have unbound (z : Yard) : (unboundAll z).marks q = z.marks q := foldl_keeps (·.marks q) (fun _ _ => unboundNow_marks) _ z
  have polled (z : Yard) : (z.updQpr fun u => { u with polled := [] }).marks q = z.marks q := rfl
  rw [qprPhaseEnd, unbound, polled, around, List.foldl_append, List.foldl_cons, marks_of_apart (last _), slotPhaseEnd_marks none,
    marks_of_apart first]

/-! ### How the polls go on (R119, R125) -/

/-- What a READ taken, or the end of the phase, keeps, as the polls go on: P until the POLL phase ends, and Q from then on. -/
theorem pollOn_keeps {P Q : Yard → Prop} (weaken : ∀ y, P y → Q y)
    (scs : ∀ y u, u.roster = y.scs.roster → P y → P { y with scs := u })
    (notice : ∀ y n, P y → P (raiseNotice .lineOverloaded 0 n y))
    (ends : ∀ y, P y → Q (qprPhaseEnd y)) (after : ∀ y l u, u.roster = y.scs.roster → Q y → Q { y with ylc := l, scs := u })
    (as : List Nat) {y : Yard} (hy : P y) : Q (pollOn as y) := by
  have handed {x : Exchange} {z : Yard} (hz : Q z) : Q (handExchange x z) := by
    rw [handExchange_frame]
    exact after z _ _ rfl hz
  have scanned {z : Yard} {f : Scs → Scs} (hz : P z) (hf : ∀ u, (f u).roster = u.roster) : P (z.updScs f) := scs z _ (hf _) hz
  have stood {z : Yard} {f : Scs → Scs} (hz : Q z) (hf : ∀ u, (f u).roster = u.roster) : Q (z.updScs f) := after z z.ylc _ (hf _) hz
  have ended {z : Yard} (hz : P z) : Q (endPoll z) := handed (stood (ends _ (scanned hz fun _ => rfl)) fun _ => rfl)
  induction as with
  | nil =>
    unfold pollOn endRound
    exact ended (scanned hy fun _ => rfl)
  | cons a as ih =>
    unfold pollOn
    split
    · exact ih
    · split
      · exact weaken _ (scanned hy fun _ => rfl)
      · split
        · exact handed (weaken _ (scanned hy fun _ => rfl))
        · unfold endShort
          dsimp only
          split
          · exact ended (notice _ _ (scanned hy fun _ => rfl))
          · exact ended (scanned hy fun _ => rfl)

end

end Sys2Proof.Machine
end

section
/-! SUPPORT. The entries of a reply handed on in turn (R120, R136, R140). -/

namespace Sys2Proof.Machine

section
variable {y z w : Yard} {a : Nat} {e : Entry} {b : Bool} {q : Slot} {x : PointEntry} {es : List PointEntry} {v : Valve} {d : District}
  {m : Meter} {n : Int} {s : Source}

/-! ### One entry among the others -/

/-- An entry is sampled among entries of other channels: what the others keep until it is taken, and from then on. -/
theorem foldl_at {α : Type} {ch : α → Nat} {x : α} {es : List α} {P Q : Yard → Prop} {f : Yard → α → Yard} (mem : x ∈ es)
    (apart : es.Pairwise fun x z => ch x ≠ ch z) (before : ∀ z x', ch x' ≠ ch x → P z → P (f z x'))
    (taken : ∀ z, P z → Q (f z x))
    (after : ∀ z x', ch x' ≠ ch x → Q z → Q (f z x')) (hy : P y) : Q (es.foldl f y) := by
  have rest {R : Yard → Prop} {l : List α} (hl : ∀ x' ∈ l, ch x' ≠ ch x)
      (keeps : ∀ z x', ch x' ≠ ch x → R z → R (f z x')) {z : Yard} (hz : R z) : R (l.foldl f z) := by
    induction l generalizing z with
    | nil => exact hz
    | cons x' l ih => exact ih (fun u hu => hl u (List.mem_cons_of_mem _ hu)) (keeps z x' (hl x' List.mem_cons_self) hz)
  obtain ⟨l₁, l₂, rfl⟩ := List.append_of_mem mem
  obtain ⟨-, tail, across⟩ := List.pairwise_append.1 apart
  rw [List.foldl_append, List.foldl_cons]
  exact rest (fun u hu => Ne.symm ((List.pairwise_cons.1 tail).1 u hu)) after
    (taken _ (rest (fun u hu => across u hu x List.mem_cons_self) before hy))

/-- The entries of a reply handed on leave the description, the roster and the recovered outstations. -/
theorem hand_still : (es.foldl (handEntry a b) w).still = w.still := foldl_keeps Yard.still (fun _ _ => handEntry_still) es w

theorem entryAt_still (he : w.scs.entryAt a = some e) (hz : z.still = w.still) : z.scs.entryAt a = some e :=
  (Yard.entryAt_of_still hz a).trans he

/-! ### The reports -/

theorem hand_valve (he : w.scs.entryAt a = some e) (mem : x ∈ es) (apart : es.Pairwise fun x z => x.channel ≠ z.channel)
    (kept : entryKept e x = true) (kind : e.points.get x.channel = some .valve) (bound : w.yds.bind.valve v = some ⟨a, x.channel⟩) :
    (es.foldl (handEntry a b) w).heard.1 v = valveState x := by
  refine (foldl_at (ch := PointEntry.channel) (P := fun z => z.still = w.still)
    (Q := fun z => z.still = w.still ∧ z.heard.1 v = valveState x) mem apart
    (fun z x' _ hz => handEntry_still.trans hz) (fun z hz => ⟨handEntry_still.trans hz, ?_⟩)
    (fun z x' ne hz => ⟨handEntry_still.trans hz.1, ?_⟩) rfl).2
  · rw [handEntry_report (entryAt_still he hz), if_pos ⟨kept, kind, by rw [Yard.yds_of_still hz]; exact bound⟩]
  · rw [handEntry_report (entryAt_still he hz.1), if_neg ?_]
    · exact hz.2
    · rw [Yard.yds_of_still hz.1, bound]
      simp [Ne.symm ne]

theorem hand_booster (he : w.scs.entryAt a = some e) (mem : x ∈ es) (apart : es.Pairwise fun x z => x.channel ≠ z.channel)
    (kept : entryKept e x = true) (kind : e.points.get x.channel = some .booster)
    (bound : w.yds.bind.booster.get d = some ⟨a, x.channel⟩) : (es.foldl (handEntry a b) w).gauges.1 d = boosterState x := by
  refine (foldl_at (ch := PointEntry.channel) (P := fun z => z.still = w.still)
    (Q := fun z => z.still = w.still ∧ z.gauges.1 d = boosterState x) mem apart
    (fun z x' _ hz => handEntry_still.trans hz) (fun z hz => ⟨handEntry_still.trans hz, ?_⟩)
    (fun z x' ne hz => ⟨handEntry_still.trans hz.1, ?_⟩) rfl).2
  · rw [handEntry_booster (entryAt_still he hz), if_pos ⟨kept, kind, by rw [Yard.yds_of_still hz]; exact bound⟩]
  · rw [handEntry_booster (entryAt_still he hz.1), if_neg ?_]
    · exact hz.2
    · rw [Yard.yds_of_still hz.1, bound]
      simp [Ne.symm ne]

theorem hand_governor (he : w.scs.entryAt a = some e) (mem : x ∈ es) (apart : es.Pairwise fun x z => x.channel ≠ z.channel)
    (kept : entryKept e x = true) (kind : e.points.get x.channel = some .governor)
    (bound : w.yds.bind.governor.get d = some ⟨a, x.channel⟩) :
    (es.foldl (handEntry a b) w).gauges.2 d = some ((x.raw.toNat : Int), x.status) := by
  refine (foldl_at (ch := PointEntry.channel) (P := fun z => z.still = w.still)
    (Q := fun z => z.still = w.still ∧ z.gauges.2 d = some ((x.raw.toNat : Int), x.status)) mem apart
    (fun z x' _ hz => handEntry_still.trans hz) (fun z hz => ⟨handEntry_still.trans hz, ?_⟩)
    (fun z x' ne hz => ⟨handEntry_still.trans hz.1, ?_⟩) rfl).2
  · rw [handEntry_governor (entryAt_still he hz), if_pos ⟨kept, kind, by rw [Yard.yds_of_still hz]; exact bound⟩]
  · rw [handEntry_governor (entryAt_still he hz.1), if_neg ?_]
    · exact hz.2
    · rw [Yard.yds_of_still hz.1, bound]
      simp [Ne.symm ne]

/-- What hangs on the point of an entry that is discarded has no report (R120). -/
theorem hand_passes (he : w.scs.entryAt a = some e) (mem : x ∈ es) (apart : es.Pairwise fun x z => x.channel ≠ z.channel)
    (no : entryKept e x = false) :
    (∀ v, w.yds.bind.valve v = some ⟨a, x.channel⟩ → (es.foldl (handEntry a b) w).heard.1 v = w.heard.1 v) ∧
    (∀ d, w.yds.bind.booster.get d = some ⟨a, x.channel⟩ → (es.foldl (handEntry a b) w).gauges.1 d = w.gauges.1 d) ∧
    ∀ d, w.yds.bind.governor.get d = some ⟨a, x.channel⟩ → (es.foldl (handEntry a b) w).gauges.2 d = w.gauges.2 d := by
  have keeps {β : Type} (g : Yard → β)
      (others : ∀ z x', z.still = w.still → x'.channel ≠ x.channel → g (handEntry a b z x') = g z) :
      g (es.foldl (handEntry a b) w) = g w :=
    (foldl_at (ch := PointEntry.channel) (P := fun z => z.still = w.still ∧ g z = g w)
      (Q := fun z => z.still = w.still ∧ g z = g w) mem apart
      (fun z x' ne hz => ⟨handEntry_still.trans hz.1, (others z x' hz.1 ne).trans hz.2⟩)
      (fun z hz => by rw [handEntry_passed (entryAt_still he hz.1) no]; exact hz)
      (fun z x' ne hz => ⟨handEntry_still.trans hz.1, (others z x' hz.1 ne).trans hz.2⟩) ⟨rfl, rfl⟩).2
  refine ⟨fun v bound => keeps (fun z => z.heard.1 v) fun z x' hz ne => ?_,
    fun d bound => keeps (fun z => z.gauges.1 d) fun z x' hz ne => ?_,
    fun d bound => keeps (fun z => z.gauges.2 d) fun z x' hz ne => ?_⟩
  · rw [handEntry_report (entryAt_still he hz), if_neg]
    rw [Yard.yds_of_still hz, bound]
    simp [Ne.symm ne]
  · rw [handEntry_booster (entryAt_still he hz), if_neg]
    rw [Yard.yds_of_still hz, bound]
    simp [Ne.symm ne]
  · rw [handEntry_governor (entryAt_still he hz), if_neg]
    rw [Yard.yds_of_still hz, bound]
    simp [Ne.symm ne]

/-! ### A quantity and its point -/

/-- The point of a channel is the one a quantity takes its samples from: its primary, or its standby in want of a primary (R136). -/
def Yds.feeds (t : Yds) (q : Slot) (pt : Point) (s : Source) : Prop :=
  (s = .live ∧ (t.bind.slots.get q).primary = some pt) ∨ (s = .standby ∧ t.bind.slots.get q = ⟨none, some pt⟩)

/-- An entry of another channel leaves a quantity that has taken its sample. -/
theorem handEntry_after (he : z.scs.entryAt a = some e) (feeds : z.yds.feeds q ⟨a, x.channel⟩ s)
    (accepted : (z.qpr.recs.get q).accepted = true) {x' : PointEntry} (ne : x'.channel ≠ x.channel) :
    (handEntry a b z x').apart q = z.apart q := by
  obtain ⟨-, same⟩ | ⟨u, z', -, yds, apart, taken⟩ := handEntry_apart (p := x') (b := b) he q
  · exact same
  · have still : (z'.qpr.recs.get q).accepted = true := by
      rw [show z'.qpr.recs.get q = z.qpr.recs.get q from congrArg Prod.fst apart]
      exact accepted
    rw [taken, slotEntry_deaf, apart] <;> rw [yds]
    · obtain ⟨-, hp⟩ | ⟨-, hp⟩ := feeds <;> rw [hp] <;> simp [Ne.symm ne]
    · obtain ⟨-, hp⟩ | ⟨-, hp⟩ := feeds <;> rw [hp]
      · exact fun _ => ⟨by simp, still⟩
      · intro same
        simp [Ne.symm ne] at same

/-- An entry of another channel leaves a quantity that has but one point. -/
theorem handEntry_only (he : z.scs.entryAt a = some e) (only : z.yds.bind.slots.get q = ⟨some ⟨a, x.channel⟩, none⟩)
    {x' : PointEntry} (ne : x'.channel ≠ x.channel) : (handEntry a b z x').apart q = z.apart q := by
  obtain ⟨-, same⟩ | ⟨u, z', -, yds, apart, taken⟩ := handEntry_apart (p := x') (b := b) he q
  · exact same
  · rw [taken, slotEntry_deaf, apart] <;> rw [yds, only]
    · simp [Ne.symm ne]
    · simp

/-- Until its primary point is read, an entry of another channel can but leave a candidate for a quantity. -/
theorem handEntry_before (he : z.scs.entryAt a = some e) (hp : (z.yds.bind.slots.get q).primary = some ⟨a, x.channel⟩)
    {x' : PointEntry} (ne : x'.channel ≠ x.channel) : ((handEntry a b z x').apart q).2 = (z.apart q).2 ∧
      ((handEntry a b z x').qpr.recs.get q).base = (z.qpr.recs.get q).base := by
  obtain ⟨-, same⟩ | ⟨u, z', -, yds, apart, taken⟩ := handEntry_apart (p := x') (b := b) he q
  · exact ⟨congrArg Prod.snd same, congrArg (fun r => r.1.base) same⟩
  · have other : (⟨a, x'.channel⟩ : Point) ≠ ⟨a, x.channel⟩ := by simp [ne]
    have own : ((slotEntry ⟨a, x'.channel⟩ u.1 u.2 z' q).apart q).2 = (z'.apart q).2 ∧
        ((slotEntry ⟨a, x'.channel⟩ u.1 u.2 z' q).apart q).1.base = (z'.apart q).1.base := by
      unfold slotEntry
      dsimp only
      rw [yds, hp]
      simp only [beq_iff_eq, Option.some.injEq, other.symm, if_false, Option.isNone_some, Bool.false_eq_true]
      repeat' split
      · exact ⟨rfl, rfl⟩
      · exact ⟨rfl, rfl⟩
      · exact ⟨rfl, by simp [Yard.apart, Yard.updRec, Yard.updQpr]⟩
      · exact ⟨rfl, rfl⟩
    refine ⟨(congrArg Prod.snd taken).trans (own.1.trans (congrArg Prod.snd apart)), ?_⟩
    exact (congrArg (fun r => r.1.base) taken).trans (own.2.trans (congrArg (fun r => r.1.base) apart))

end

end Sys2Proof.Machine
end

section
/-! SUPPORT. The entries of a reply and the quantities (R120, R136, R139, R140, R147). -/

namespace Sys2Proof.Machine

section
variable {y z w : Yard} {a : Nat} {e : Entry} {b : Bool} {q : Slot} {x : PointEntry} {es : List PointEntry} {m : Meter} {v : Int}
  {s : Source} {pt : Point}

/-- A sample of the point that a quantity listens to is accepted (R136). -/
theorem slotEntry_feeds (present : z.yds.slotPresent q = true) (feeds : z.yds.feeds q pt s) :
    ∃ z' : Yard, slotEntry pt v b z q = acceptSample q v s b z' ∧ z'.yds = z.yds ∧ z'.qpr.current = z.qpr.current ∧
      (z'.apart q).2 = (z.apart q).2 ∧ (z'.qpr.recs.get q).base = (z.qpr.recs.get q).base := by
  obtain ⟨rfl, hp⟩ | ⟨rfl, hb⟩ := feeds
  · exact ⟨_, slotEntry_primary present hp, rfl, rfl, rfl, by simp [Yard.updRec, Yard.updQpr]⟩
  · exact ⟨z, slotEntry_standby present hb, rfl, rfl, rfl, rfl⟩

/-- What is held of a quantity but for its record tells whether a record is open, and what the accounts hold of its meter. -/
theorem apart_snd (h : (z.apart (meterSlot m)).2 = (w.apart (meterSlot m)).2) :
    (z.qpr.current = none ↔ w.qpr.current = none) ∧ z.qpr.markerAwaited = w.qpr.markerAwaited ∧
      z.soa.ofMeter m = w.soa.ofMeter m := by
  simp only [Yard.apart, Slot.meterOf_meterSlot, Option.map_some, Prod.mk.injEq, Option.some.injEq] at h
  obtain ⟨opened, marker, accounts⟩ := h
  refine ⟨?_, marker, accounts⟩
  rw [← Option.map_eq_none_iff (f := fun r : PeriodRec => r.entries.get (meterSlot m)), opened, Option.map_eq_none_iff]

/-- A quantity that is no meter takes the value of its point (R136). -/
theorem hand_measure (he : w.scs.entryAt a = some e) (mem : x ∈ es) (apart : es.Pairwise fun x z => x.channel ≠ z.channel)
    (kept : entryKept e x = true) (kind : e.points.get x.channel = some .measure) (good : x.status = .good) (hq : q.meterOf = none)
    (present : w.yds.slotPresent q = true) (feeds : w.yds.feeds q ⟨a, x.channel⟩ s) :
    ((es.foldl (handEntry a b) w).apart q).1.Took (clampSample w q x.raw.toInt) s := by
  refine (foldl_at (ch := PointEntry.channel) (P := fun z => z.still = w.still)
    (Q := fun z => z.still = w.still ∧ (z.apart q).1.Took (clampSample w q x.raw.toInt) s) mem apart
    (fun z x' _ hz => handEntry_still.trans hz) (fun z hz => ⟨handEntry_still.trans hz, ?_⟩)
    (fun z x' ne hz => ⟨handEntry_still.trans hz.1, ?_⟩) rfl).2
  · have given : x.sample e b = some (x.raw.toInt, false) := by simp [PointEntry.sample, kept, good, kind, entryValue]
    have yds := Yard.yds_of_still hz
    obtain ⟨none, -⟩ | ⟨u, z', hu, yds', -, taken⟩ := handEntry_apart (p := x) (b := b) (entryAt_still he hz) q
    · simp [given] at none
    · cases given.symm.trans hu
      obtain ⟨z₁, accepts, yds₁, -⟩ := slotEntry_feeds (v := x.raw.toInt) (b := false) (z := z') (by rw [yds', yds]; exact present)
        (by rw [yds', yds]; exact feeds)
      rw [taken, accepts, ← clampSample_congr (z := z₁) (yds₁.trans (yds'.trans yds))]
      exact acceptSample_measure hq
  · rw [handEntry_after (entryAt_still he hz.1) (by rw [Yard.yds_of_still hz.1]; exact feeds) hz.2.2.2.2 ne]
    exact hz.2

/-- A register in range taken by a meter from its primary point (R136, R139, R140). -/
theorem hand_register (he : w.scs.entryAt a = some e) (mem : x ∈ es) (apart : es.Pairwise fun x z => x.channel ≠ z.channel)
    (kept : entryKept e x = true) (kind : e.points.get x.channel = some .meter) (good : x.status = .good)
    (high : x.raw.toNat ≤ 999999) (present : w.yds.slotPresent (meterSlot m) = true)
    (hp : (w.yds.bind.slots.get (meterSlot m)).primary = some ⟨a, x.channel⟩) {R : Yard → Prop}
    (taken : ∀ z, z.yds = w.yds → (z.apart (meterSlot m)).2 = (w.apart (meterSlot m)).2 →
      (z.qpr.recs.get (meterSlot m)).base = (w.qpr.recs.get (meterSlot m)).base →
      R (acceptSample (meterSlot m) (x.raw.toNat : Int) .live b z))
    (closed : ∀ z z', z'.apart (meterSlot m) = z.apart (meterSlot m) → R z → R z') :
    ((es.foldl (handEntry a b) w).apart (meterSlot m)).1.Took (x.raw.toNat : Int) .live ∧ R (es.foldl (handEntry a b) w) := by
  refine (foldl_at (ch := PointEntry.channel) (P := fun z => z.still = w.still ∧ (z.apart (meterSlot m)).2 = (w.apart (meterSlot m)).2 ∧
      (z.qpr.recs.get (meterSlot m)).base = (w.qpr.recs.get (meterSlot m)).base)
    (Q := fun z => z.still = w.still ∧ (z.apart (meterSlot m)).1.Took (x.raw.toNat : Int) .live ∧ R z) mem apart
    (fun z x' ne hz => ⟨handEntry_still.trans hz.1, ?_⟩) (fun z hz => ⟨handEntry_still.trans hz.1, ?_⟩)
    (fun z x' ne hz => ⟨handEntry_still.trans hz.1, ?_⟩) ⟨rfl, rfl, rfl⟩).2
  · obtain ⟨rest, base⟩ := handEntry_before (b := b) (x := x) (entryAt_still he hz.1)
      (by rw [Yard.yds_of_still hz.1]; exact hp) ne
    exact ⟨rest.trans hz.2.1, base.trans hz.2.2⟩
  · have given : x.sample e b = some ((x.raw.toNat : Int), b) := by simp [PointEntry.sample, kept, good, kind, entryValue]
    have yds := Yard.yds_of_still hz.1
    obtain ⟨none, -⟩ | ⟨u, z', hu, yds', same, sampled⟩ := handEntry_apart (p := x) (b := b) (entryAt_still he hz.1) (meterSlot m)
    · simp [given] at none
    · cases given.symm.trans hu
      obtain ⟨z₁, accepts, yds₁, -, rest, base⟩ := slotEntry_feeds (v := (x.raw.toNat : Int)) (b := b) (z := z')
        (by rw [yds', yds]; exact present) (.inl ⟨rfl, by rw [yds', yds]; exact hp⟩)
      rw [accepts] at sampled
      have base' : (z'.qpr.recs.get (meterSlot m)).base = (z.qpr.recs.get (meterSlot m)).base := congrArg (fun r => r.1.base) same
      refine ⟨?_, closed _ _ sampled (taken z₁ (yds₁.trans (yds'.trans yds)) (rest.trans ((congrArg Prod.snd same).trans hz.2.1))
        (base.trans (base'.trans hz.2.2)))⟩
      rw [sampled]
      exact (acceptSample_register (by omega) (by omega)).1
  · have same := handEntry_after (b := b) (x := x) (s := .live) (entryAt_still he hz.1)
      (.inl ⟨rfl, by rw [Yard.yds_of_still hz.1]; exact hp⟩) hz.2.1.2.2.2 ne
    exact ⟨by rw [same]; exact hz.2.1, closed _ _ same hz.2.2⟩

/-- A register above the dial is counted, and changes nothing else of the record (R136, log 57). -/
theorem hand_refused (he : w.scs.entryAt a = some e) (mem : x ∈ es) (apart : es.Pairwise fun x z => x.channel ≠ z.channel)
    (kept : entryKept e x = true) (kind : e.points.get x.channel = some .meter) (good : x.status = .good)
    (high : 999999 < x.raw.toNat) (present : w.yds.slotPresent (meterSlot m) = true)
    (only : w.yds.bind.slots.get (meterSlot m) = ⟨some ⟨a, x.channel⟩, none⟩)
    (none : (w.qpr.recs.get (meterSlot m)).candidate = none) : (es.foldl (handEntry a b) w).qpr.recs.get (meterSlot m) =
      { w.qpr.recs.get (meterSlot m) with clamps := saturate 65535 (w.qpr.recs.get (meterSlot m)).clamps } := by
  refine (foldl_at (ch := PointEntry.channel)
    (P := fun z => z.still = w.still ∧ z.qpr.recs.get (meterSlot m) = w.qpr.recs.get (meterSlot m))
    (Q := fun z => z.still = w.still ∧ z.qpr.recs.get (meterSlot m) =
      { w.qpr.recs.get (meterSlot m) with clamps := saturate 65535 (w.qpr.recs.get (meterSlot m)).clamps }) mem apart
    (fun z x' ne hz => ⟨handEntry_still.trans hz.1, ?_⟩) (fun z hz => ⟨handEntry_still.trans hz.1, ?_⟩)
    (fun z x' ne hz => ⟨handEntry_still.trans hz.1, ?_⟩) ⟨rfl, rfl⟩).2
  · have same := handEntry_only (b := b) (x := x) (entryAt_still he hz.1) (by rw [Yard.yds_of_still hz.1]; exact only) ne
    exact (congrArg Prod.fst same).trans hz.2
  · have given : x.sample e b = some ((x.raw.toNat : Int), b) := by simp [PointEntry.sample, kept, good, kind, entryValue]
    have yds := Yard.yds_of_still hz.1
    obtain ⟨no, -⟩ | ⟨u, z', hu, yds', same, sampled⟩ := handEntry_apart (p := x) (b := b) (entryAt_still he hz.1) (meterSlot m)
    · simp [given] at no
    · cases given.symm.trans hu
      rw [slotEntry_primary (by rw [yds', yds]; exact present) (by rw [yds', yds, only]),
        acceptSample_refused (Slot.meterOf_meterSlot m) (by show (999999 : Int) < (x.raw.toNat : Int); exact_mod_cast high)] at sampled
      have rec' : z'.qpr.recs.get (meterSlot m) = w.qpr.recs.get (meterSlot m) := (congrArg Prod.fst same).trans hz.2
      refine (congrArg Prod.fst sampled).trans ?_
      simp only [Yard.apart, countClamp, Yard.updRec, Yard.updQpr, Slots.get_set, rec', none.symm]
  · have same := handEntry_only (b := b) (x := x) (entryAt_still he hz.1) (by rw [Yard.yds_of_still hz.1]; exact only) ne
    exact (congrArg Prod.fst same).trans hz.2

/-- An entry that gives no sample leaves a quantity that has but its point, as the other entries do. -/
theorem hand_unsampled (he : w.scs.entryAt a = some e) (mem : x ∈ es) (apart : es.Pairwise fun x z => x.channel ≠ z.channel)
    (unsampled : x.sample e b = none) (only : w.yds.bind.slots.get q = ⟨some ⟨a, x.channel⟩, none⟩) :
    (es.foldl (handEntry a b) w).qpr.recs.get q = w.qpr.recs.get q := by
  have others (z x') (ne : x'.channel ≠ x.channel) (hz : z.still = w.still ∧ z.qpr.recs.get q = w.qpr.recs.get q) :
      (handEntry a b z x').still = w.still ∧ (handEntry a b z x').qpr.recs.get q = w.qpr.recs.get q := by
    have same := handEntry_only (b := b) (x := x) (entryAt_still he hz.1) (by rw [Yard.yds_of_still hz.1]; exact only) ne
    exact ⟨handEntry_still.trans hz.1, (congrArg Prod.fst same).trans hz.2⟩
  refine (foldl_at (ch := PointEntry.channel) (P := fun z => z.still = w.still ∧ z.qpr.recs.get q = w.qpr.recs.get q)
    (Q := fun z => z.still = w.still ∧ z.qpr.recs.get q = w.qpr.recs.get q) mem apart others (fun z hz => ?_) others ⟨rfl, rfl⟩).2
  obtain ⟨-, same⟩ | ⟨u, z', hu, -⟩ := handEntry_apart (p := x) (b := b) (entryAt_still he hz.1) q
  · exact ⟨handEntry_still.trans hz.1, (congrArg Prod.fst same).trans hz.2⟩
  · simp [unsampled] at hu

end

end Sys2Proof.Machine
end

section
/-! SUPPORT. The latched indices of a reply (R152). -/

namespace Sys2Proof.Machine

/-- The yard with the latch of a meter taken: some mL moved from the open accumulation of the current day to the remainder of the
pending day (R152). -/
def Yard.latched (y : Yard) (k : Meter) (ml : Int) : Yard :=
  y.updSoa fun u =>
    (u.updCurrent (·.updMeter k fun r => { r with openAcc := r.openAcc - ml })).updPending fun p =>
      { p with day := p.day.updMeter k fun r => { r with remainder := r.remainder + ml, latched := true } }

section
variable {y z w : Yard} {a : Nat} {m n k : Meter} {pt : Point} {l : Nat}

theorem Meter.mem_list (m : Meter) : m ∈ Meter.list := by
  cases m with
  | make => decide
  | district d => cases d <;> decide

/-! ### The meter of a point -/

theorem meterAt_primary (h : y.yds.meterAt pt = some k) : (y.yds.bind.slots.get (meterSlot k)).primary = some pt := by
  simpa using List.find?_some h

/-- The one bound meter whose primary point a point is (R152). -/
theorem meterAt_own (bound : y.yds.meterBound m = true) (own : ∀ k, (y.yds.bind.slots.get (meterSlot k)).primary = some pt ↔ k = m) :
    y.yds.meterAt pt = some m := by
  cases h : y.yds.meterAt pt with
  | none =>
    have listed : m ∈ y.yds.boundMeters := List.mem_filter.2 ⟨Meter.mem_list m, bound⟩
    have no := List.find?_eq_none.1 h m listed
    simp [(own m).2 rfl] at no
  | some k => rw [(own k).1 (meterAt_primary h)]

/-! ### A latched index taken (R152) -/

/-- A bound meter whose latch is still to report in the pending day. -/
structure Yard.Waits (y : Yard) (n : Meter) : Prop where
  bound : y.yds.meterBound n = true
  unlatched : y.latchOf n = some false

theorem Yard.latched_ofMeter (ne : m ≠ k) (ml : Int) : (y.latched k ml).soa.ofMeter m = y.soa.ofMeter m := by
  simp [Yard.latched, Yard.updSoa, Soa.ofMeter, Soa.updPending, Soa.updCurrent, Day.updMeter, Meters.get_set_ne _ _ ne,
    Function.comp_def]

theorem Yard.Waits.latched (h : y.Waits n) (ne : n ≠ k) (ml : Int) : (y.latched k ml).Waits n where
  bound := h.bound
  unlatched := by
    rw [← h.unlatched]
    simp [Yard.latchOf, Yard.latched, Yard.updSoa, Soa.updPending, Soa.updCurrent, Day.updMeter, Meters.get_set_ne _ _ ne,
      Function.comp_def]

/-- While a meter waits, the latch of another leaves the pending close where it stands (R152, R153). -/
theorem Yard.Waits.close (h : y.Waits n) {α : Type} (due rest : α) : (if (match y.soa.pending with
      | some p => y.yds.boundMeters.all fun m => (p.day.meters.get m).latched
      | none => false) = true then due else rest) = rest := by
  refine if_neg fun all => ?_
  obtain ⟨p, pending, unlatched⟩ := Option.map_eq_some_iff.1 h.unlatched
  rw [pending] at all
  have := List.all_eq_true.1 all n (List.mem_filter.2 ⟨Meter.mem_list n, h.bound⟩)
  simp [unlatched] at this

/-- What SOA does with a latched index of a meter, while another meter waits (R152). -/
theorem soaLatch_eq {p : PendingDay} {c : Nat} (h : y.Waits n) (ne : n ≠ k) (hk : y.yds.meterAt pt = some k)
    (hp : y.soa.pending = some p) (hd : (y.soa.seen.get k).delta = some c) : soaLatch pt l y =
      if (y.soa.markerOut && !(p.day.meters.get k).latched && !p.started) = true then
        y.latched k ((remainderPart l (y.soa.seen.get k).before c : Int) * y.yds.meterFactor k)
      else y := by
  unfold soaLatch
  rw [hk, hp]
  dsimp only
  rw [hd]
  dsimp only
  split
  · exact (h.latched ne _).close _ _
  · rfl

theorem soaLatch_cases (h : y.Waits n) (other : y.yds.meterAt pt ≠ some n) :
    soaLatch pt l y = y ∨ ∃ k ml, y.yds.meterAt pt = some k ∧ soaLatch pt l y = y.latched k ml := by
  cases hk : y.yds.meterAt pt with
  | none => exact .inl (by simp only [soaLatch, hk])
  | some k =>
    obtain ⟨p, hp, -⟩ := Option.map_eq_some_iff.1 h.unlatched
    cases hd : (y.soa.seen.get k).delta with
    | none => exact .inl (by simp only [soaLatch, hk, hp, hd])
    | some c =>
      rw [soaLatch_eq h (fun e => other (e ▸ hk)) hk hp hd]
      split
      · exact .inr ⟨k, _, rfl, rfl⟩
      · exact .inl rfl

/-- A latched index of another meter leaves a meter, and the one that waits. -/
theorem soaLatch_other (h : y.Waits n) (other : y.yds.meterAt pt ≠ some n) (apart : y.yds.meterAt pt ≠ some m) :
    (soaLatch pt l y).Waits n ∧ (soaLatch pt l y).soa.ofMeter m = y.soa.ofMeter m := by
  obtain e | ⟨k, ml, hk, e⟩ := soaLatch_cases (l := l) h other <;> rw [e]
  · exact ⟨h, rfl⟩
  · exact ⟨h.latched (fun e => other (by rw [hk, e])) ml, Yard.latched_ofMeter (fun e => apart (by rw [hk, e])) ml⟩

/-- The latch of a meter moves its remainder part to the pending day. -/
theorem soaLatch_own {r before : Option Nat} {c : Nat} {d pd : MeterDay} (h : y.Waits n) (ne : n ≠ m) (own : y.yds.meterAt pt = some m)
    (held : y.soa.ofMeter m = (⟨r, before, some c⟩, some d, some (false, pd), true)) (fresh : pd.latched = false) :
    let ml := (remainderPart l before c : Int) * y.yds.meterFactor m
    (soaLatch pt l y).Waits n ∧ (soaLatch pt l y).soa.ofMeter m = (⟨r, before, some c⟩, some { d with openAcc := d.openAcc - ml },
      some (false, { pd with remainder := pd.remainder + ml, latched := true }), true) := by
  intro ml
  simp only [Soa.ofMeter, Prod.mk.injEq] at held
  obtain ⟨seen, current, pending, out⟩ := held
  obtain ⟨day, today, rfl⟩ := Option.map_eq_some_iff.1 current
  obtain ⟨p, yesterday, hp⟩ := Option.map_eq_some_iff.1 pending
  obtain ⟨started, rfl⟩ := Prod.mk.inj hp
  have open_ : (y.soa.markerOut && !(p.day.meters.get m).latched && !p.started) = true := by simp [out, fresh, started]
  rw [soaLatch_eq h ne own yesterday (by rw [seen]), if_pos open_, seen]
  refine ⟨h.latched ne _, ?_⟩
  simp [Yard.latched, Yard.updSoa, Soa.ofMeter, Soa.updPending, Soa.updCurrent, Day.updMeter, today, yesterday, seen, out, started, ml]

/-! ### The latched indices of a reply -/

/-- The latched indices of a reply taken: that of one meter moves its part, the others leave it (R152). -/
theorem latches_taken {ps : List (PointEntry × Nat)} {x : PointEntry} {index : Nat} {r before : Option Nat} {c : Nat} {d pd : MeterDay}
    (mem : (x, index) ∈ ps) (apart : ps.Pairwise fun u v => u.1.channel ≠ v.1.channel) (h : w.Waits n) (ne : n ≠ m)
    (far : ∀ ch, w.yds.meterAt ⟨a, ch⟩ ≠ some n) (own : w.yds.meterAt ⟨a, x.channel⟩ = some m)
    (held : w.soa.ofMeter m = (⟨r, before, some c⟩, some d, some (false, pd), true)) (fresh : pd.latched = false) :
    let ml := (remainderPart index before c : Int) * w.yds.meterFactor m
    (ps.foldl (fun y u => soaLatch ⟨a, u.1.channel⟩ u.2 y) w).soa.ofMeter m =
      (⟨r, before, some c⟩, some { d with openAcc := d.openAcc - ml },
        some (false, { pd with remainder := pd.remainder + ml, latched := true }), true) := by
  intro ml
  have yds (u : PointEntry × Nat) (z : Yard) : (soaLatch ⟨a, u.1.channel⟩ u.2 z).yds = z.yds := congrArg Prod.fst (soaLatch_core _ _)
  have others (held' : _) (z : Yard) (u : PointEntry × Nat) (hu : u.1.channel ≠ x.channel)
      (hz : z.yds = w.yds ∧ z.Waits n ∧ z.soa.ofMeter m = held') :
      (soaLatch ⟨a, u.1.channel⟩ u.2 z).yds = w.yds ∧ (soaLatch ⟨a, u.1.channel⟩ u.2 z).Waits n ∧
        (soaLatch ⟨a, u.1.channel⟩ u.2 z).soa.ofMeter m = held' := by
    obtain ⟨hy, hw, hm⟩ := hz
    have not : z.yds.meterAt ⟨a, u.1.channel⟩ ≠ some m := fun e => by
      have p₁ := meterAt_primary e
      have p₂ := meterAt_primary own
      rw [hy, p₂] at p₁
      simp [Ne.symm hu] at p₁
    obtain ⟨waits, same⟩ := soaLatch_other (l := u.2) hw (by rw [hy]; exact far _) not
    exact ⟨(yds u z).trans hy, waits, same.trans hm⟩
  refine (foldl_at (ch := fun u : PointEntry × Nat => u.1.channel)
    (P := fun z => z.yds = w.yds ∧ z.Waits n ∧ z.soa.ofMeter m = (⟨r, before, some c⟩, some d, some (false, pd), true))
    (Q := fun z => z.yds = w.yds ∧ z.Waits n ∧ z.soa.ofMeter m = _) mem apart (others _) (fun z hz => ?_) (others _)
    ⟨rfl, h, held⟩).2.2
  obtain ⟨hy, hw, hm⟩ := hz
  have taken := soaLatch_own (l := index) hw ne (by rw [hy]; exact own) hm fresh
  rw [hy] at taken
  exact ⟨(yds (x, index) z).trans hy, taken.1, taken.2⟩

theorem soaLatch_qpr : (soaLatch pt l y).qpr = y.qpr := by
  have due (z : Yard) : (makeDue z).qpr = z.qpr := by rw [makeDue_frame]
  unfold soaLatch
  dsimp only
  repeat' split
  all_goals simp only [due, Yard.updSoa]

end

end Sys2Proof.Machine
end

section
/-! SUPPORT. A good reply to a READ, before its entries are handed on and after (R119, R120, R125). -/

namespace Sys2Proof.Machine

section
variable {y z w : Yard} {a now : Nat} {o : ExOutcome} {e : Entry} {b sleeping : Bool} {q : Slot} {m : Meter} {n : Notice} {ts : List Nat}

/-! ### The poll ends good (R119, R122) -/

/-- A roster entry whose poll has ended good, its outcome counted. -/
def Entry.read (e : Entry) (o : ExOutcome) (sleeping : Bool) (cycle : Nat) : Entry :=
  { e with dyn := { e.dyn with counters := e.dyn.counters.count o }.good e.sleeper sleeping cycle }

/-- The yard as the entries of a good reply to a READ are handed on. -/
def Yard.reading (y : Yard) (now a : Nat) (o : ExOutcome) (sleeping : Bool) : Yard :=
  newReply (pollGood a sleeping (countOutcome a o (y.answered now)))

/-- The yard with the outcome and the poll entered in the roster. -/
def Yard.polledGood (y : Yard) (now a : Nat) (o : ExOutcome) (e : Entry) (sleeping : Bool) : Yard :=
  updEntryDyn a (·.good e.sleeper sleeping y.scs.cycle) (countOutcome a o (y.answered now))

theorem reading_eq (he : y.scs.entryAt a = some e) : y.reading now a o sleeping = newReply
    (if e.dyn.state = .failed then raiseNotice .outstationRecovered a (a : Int) (y.polledGood now a o e sleeping)
      else y.polledGood now a o e sleeping) := by
  have counted := entryAt_countOutcome (y := y.answered now) o he
  simp only [Yard.reading, pollGood, counted, Yard.polledGood, beq_iff_eq]
  rfl

theorem reading_entry (he : y.scs.entryAt a = some e) :
    (y.reading now a o sleeping).scs.entryAt a = some (e.read o sleeping y.scs.cycle) := by
  have polled : (y.polledGood now a o e sleeping).scs.entryAt a = some (e.read o sleeping y.scs.cycle) :=
    entryAt_updEntryDyn _ (entryAt_countOutcome (y := y.answered now) o he)
  rw [reading_eq he]
  split <;> exact polled

/-- What the end of a poll leaves. -/
theorem reading_blocks (he : y.scs.entryAt a = some e) : (y.reading now a o sleeping).yds = y.yds ∧
    (y.reading now a o sleeping).mvs = y.mvs ∧ (y.reading now a o sleeping).dgu = y.dgu ∧ (y.reading now a o sleeping).qpr = y.qpr ∧
    (y.reading now a o sleeping).scs.toPoll = y.scs.toPoll := by
  rw [reading_eq he]
  split <;> exact ⟨rfl, rfl, rfl, rfl, rfl⟩

/-- What was seen of each meter within the last reply is put away, and the rest of the accounts stands (R152). -/
theorem newReply_ofMeter (m : Meter) : (newReply y).soa.ofMeter m =
    (⟨(y.soa.seen.get m).register, none, none⟩, (y.soa.ofMeter m).2) := by
  have seen : (newReply y).soa.seen.get m = ⟨(y.soa.seen.get m).register, none, none⟩ := by
    cases m with
    | make => rfl
    | district d => cases d <;> rfl
  rw [Soa.ofMeter, seen]
  rfl

theorem reading_ofMeter (he : y.scs.entryAt a = some e) (m : Meter) : (y.reading now a o sleeping).soa.ofMeter m =
    (⟨(y.soa.seen.get m).register, none, none⟩, (y.soa.ofMeter m).2) := by
  rw [reading_eq he, newReply_ofMeter]
  split <;> rfl

theorem reading_latchOf (he : y.scs.entryAt a = some e) (m : Meter) : (y.reading now a o sleeping).latchOf m = y.latchOf m := by
  rw [reading_eq he]
  split <;> rfl

/-! ### OUTSTATION RECOVERED (R119) -/

/-- A notice raised waits in the queue, where the queue has room. -/
theorem Notices.raise_waits (q : Notices) (k : NoticeKind) (a : Nat) (v : Int) (day period : Option Nat) (room : q.queue.length < 32) :
    ∃ n ∈ (q.raise k a v day period).queue, n.kind = k ∧ n.object = a ∧ n.datum = v := by
  unfold Notices.raise
  split
  · next h =>
    obtain ⟨n, mem, same⟩ := List.any_eq_true.1 h
    have own : n.kind = k ∧ n.object = a := by simpa [Notice.isFor] using same
    exact ⟨n.merge v, List.mem_map.2 ⟨n, mem, if_pos same⟩, own.1, own.2, rfl⟩
  · exact ⟨⟨k, a, day, period, v, 1⟩, by simp, rfl, rfl, rfl⟩

/-- An outstation that was FAILED and answers is recovered. -/
theorem reading_recovers (he : y.scs.entryAt a = some e) (failed : e.dyn.state = .failed) (room : y.notices.queue.length < 32) :
    ∃ n ∈ (y.reading now a o sleeping).heard.2, n.kind = .outstationRecovered ∧ n.object = a ∧ n.datum = a := by
  rw [reading_eq he, if_pos failed]
  obtain ⟨n, mem, kind, own⟩ := Notices.raise_waits y.notices .outstationRecovered a (a : Int) (y.gdc.clock.map (·.day))
    (y.gdc.clock.map (·.period)) room
  exact ⟨n, List.mem_filter.2 ⟨mem, by simp [kind]⟩, kind, own⟩

/-- No outstation is recovered that was not FAILED. -/
theorem reading_quiet (he : y.scs.entryAt a = some e) (live : e.dyn.state ≠ .failed) :
    (y.reading now a o sleeping).heard.2 = y.heard.2 := by
  rw [reading_eq he, if_neg live]
  rfl

/-! ### After the entries (R120, R125) -/

/-- The yard after the values of a reply: a restarted outstation is UNCHECKED, QPR is told of the poll, and the polls go on. -/
def Yard.readOn (z : Yard) (a : Nat) (restarted : Bool) (ts : List Nat) : Yard :=
  settle (pollOn ts (qprPolled a (if restarted then updEntryDyn a (fun d => { d with identity := .unchecked }) z else z)))

/-- What the reply leaves to the end of the phase stands after it: P until the POLL phase ends, and Q from then on. -/
theorem readOn_keeps {P Q : Yard → Prop} (weaken : ∀ y, P y → Q y)
    (scs : ∀ y u, u.roster = y.scs.roster → P y → P { y with scs := u })
    (notice : ∀ y n, P y → P (raiseNotice .lineOverloaded 0 n y))
    (ends : ∀ y, P y → Q (qprPhaseEnd y)) (after : ∀ y l u, u.roster = y.scs.roster → Q y → Q { y with ylc := l, scs := u })
    (hz : P (qprPolled a (if b then updEntryDyn a (fun d => { d with identity := .unchecked }) z else z))) : Q (z.readOn a b ts) := by
  rw [Yard.readOn, settle_frame]
  exact after _ _ _ rfl (pollOn_keeps weaken scs notice ends after ts hz)

/-- The roster entry of the outstation after the reply. -/
def Entry.checked (e : Entry) (restarted : Bool) : Entry :=
  { e with dyn := { e.dyn with identity := if restarted then .unchecked else e.dyn.identity } }

theorem core_scs {u : Scs} (h : u.roster = y.scs.roster) : ({ y with scs := u } : Yard).core = y.core := by
  simp only [Yard.core, h]
  rfl

theorem core_ylc {l : Ylc} {u : Scs} (h : u.roster = y.scs.roster) : ({ y with ylc := l, scs := u } : Yard).core = y.core :=
  (core_scs (y := { y with ylc := l }) h).trans rfl

theorem readOn_core : (z.readOn a b ts).core =
    (if b then updEntryDyn a (fun d => { d with identity := .unchecked }) z else z).core :=
  readOn_keeps (P := fun x => x.core = _) (Q := fun x => x.core = _) (fun _ h => h) (fun _ _ hu h => (core_scs hu).trans h)
    (fun _ _ h => (raiseNotice_core (by decide) _ _).trans h) (fun _ h => qprPhaseEnd_core.trans h)
    (fun _ _ _ hu h => (core_ylc hu).trans h) rfl

theorem readOn_entry (he : z.scs.entryAt a = some e) : (z.readOn a b ts).scs.entryAt a = some (e.checked b) := by
  rw [Yard.entryAt_of_still (still_of_core readOn_core)]
  cases b with
  | false => exact he
  | true =>
    rw [if_pos rfl]
    exact entryAt_updEntryDyn _ he

/-- The reports of the valves and the recovered outstations stand as the polls go on. -/
theorem readOn_heard : (z.readOn a b ts).heard = z.heard := by
  refine (congrArg (fun x => x.2.2.2) (readOn_core (z := z) (a := a) (b := b) (ts := ts))).trans ?_
  cases b <;> rfl

theorem readOn_gauges : (z.readOn a b ts).gauges = z.gauges := by
  rw [core_gauges readOn_core]
  cases b <;> rfl

/-- A sample taken stands as the polls go on (R137). -/
theorem readOn_sampled (bound : z.yds.slotBound q = true) (accepted : (z.qpr.recs.get q).accepted = true) :
    (z.readOn a b ts).sampled q = z.sampled q := by
  refine readOn_keeps (P := fun x => x.yds = z.yds ∧ (x.qpr.recs.get q).accepted = true ∧ x.sampled q = z.sampled q)
    (Q := fun x => x.sampled q = z.sampled q) (fun _ h => h.2.2) (fun _ _ _ h => h) (fun _ _ h => h) (fun x h => ?_)
    (fun _ _ _ _ h => h) ⟨?_, ?_, ?_⟩
  · obtain ⟨yds, taken, same⟩ := h
    exact (qprPhaseEnd_sampled (by rw [yds]; exact bound) taken).trans same
  · cases b <;> rfl
  · cases b <;> exact accepted
  · cases b <;> rfl

/-- The marks of a quantity that no candidate waits for stand as the polls go on (R137). -/
theorem readOn_marks (none : (z.qpr.recs.get q).candidate = none) : (z.readOn a b ts).marks q = z.marks q := by
  refine readOn_keeps (P := fun x => (x.qpr.recs.get q).candidate = Option.none ∧ x.marks q = z.marks q)
    (Q := fun x => x.marks q = z.marks q) (fun _ h => h.2) (fun _ _ _ h => h) (fun _ _ h => h) (fun x h => ?_)
    (fun _ _ _ _ h => h) ⟨?_, ?_⟩
  · exact (qprPhaseEnd_marks h.1).trans h.2
  · cases b <;> exact none
  · cases b <;> rfl

end

end Sys2Proof.Machine
end

section
/-! SUPPORT. What becomes of one entry of a reply: taken where it is kept, passed over where not (R120, R136, R140). -/

namespace Sys2Proof.Machine

section
variable {y y' z w : Yard} {a : Nat} {e : Entry} {b : Bool} {q : Slot} {m : Meter} {x : PointEntry} {es : List PointEntry}

/-! ### The model's words and the statement's -/

theorem entryKept_iff : entryKept e x = true ↔ e.Keeps x := by
  unfold entryKept Entry.Keeps
  cases points : e.points.get x.channel with
  | none => simp
  | some k =>
    by_cases off : e.dyn.identity = .mismatched
    · cases fitted : e.dyn.fitted <;> simp [off]
    · simp [off]

theorem valveState_fault (fault : x.status = .fault) : valveState x = .fault := by simp [valveState, fault]

theorem boosterState_fault (fault : x.status = .fault) : boosterState x = .fault := by simp [boosterState, fault]

theorem valveState_listed (sound : x.status ≠ .fault) (low : x.raw.toNat ≤ 4) :
    [Reported.shut, .cracked, .opened, .moving, .fault][x.raw.toNat]? = some (valveState x) := by
  simp only [valveState, beq_iff_eq, sound, if_false]
  generalize x.raw.toNat = n at low
  interval_cases n <;> rfl

theorem boosterState_listed (sound : x.status ≠ .fault) (low : x.raw.toNat ≤ 2) :
    [BoosterRep.stopped, .running, .fault][x.raw.toNat]? = some (boosterState x) := by
  simp only [boosterState, beq_iff_eq, sound, if_false]
  generalize x.raw.toNat = n at low
  interval_cases n <;> rfl

theorem Slot.meterOf_none (h : q.isMeter = false) : q.meterOf = none := by
  cases q <;> simp_all [Slot.isMeter, Slot.meterOf]

/-- A quantity that a point feeds has a point bound. -/
theorem Yds.feeds.bound {t : Yds} {pt : Point} {s : Source} (h : t.feeds q pt s) : t.slotBound q = true := by
  obtain ⟨-, hp⟩ | ⟨-, hp⟩ := h <;> simp [Yds.slotBound, hp]

/-! ### What stands of the entries after the reply -/

/-- What the entries of a reply have given stands after it: the reports, the marks of a quantity that no candidate waits for, and
the record of one that has taken a sample. -/
structure Yard.Stands (z y' : Yard) : Prop where
  heard : y'.heard = z.heard
  gauges : y'.gauges = z.gauges
  marks : ∀ q, (z.qpr.recs.get q).candidate = none → y'.marks q = z.marks q
  sampled : ∀ q, z.yds.slotBound q = true → (z.qpr.recs.get q).accepted = true →
    (y'.qpr.recs.get q).standing = (z.qpr.recs.get q).standing ∧
      y'.qpr.current.map (·.entries.get q) = z.qpr.current.map (·.entries.get q)

/-- The latched indices of a reply taken. -/
def Yard.latches (z : Yard) (a : Nat) (ps : List (PointEntry × Nat)) : Yard :=
  ps.foldl (fun y u => soaLatch ⟨a, u.1.channel⟩ u.2 y) z

theorem latches_core (ps : List (PointEntry × Nat)) : (z.latches a ps).core = z.core :=
  foldl_keeps Yard.core (fun _ _ => soaLatch_core _ _) ps z

theorem latches_yds (ps : List (PointEntry × Nat)) : (z.latches a ps).yds = z.yds := congrArg Prod.fst (latches_core ps)

theorem latches_qpr (ps : List (PointEntry × Nat)) : (z.latches a ps).qpr = z.qpr :=
  foldl_keeps Yard.qpr (fun _ _ => soaLatch_qpr) ps z

/-- The latches leave what the entries gave, and so do the polls that go on. -/
theorem readOn_stands (ps : List (PointEntry × Nat)) (ts : List Nat) : z.Stands ((z.latches a ps).readOn a b ts) where
  heard := readOn_heard.trans (congrArg (fun x => x.2.2.2) (latches_core ps))
  gauges := readOn_gauges.trans (core_gauges (latches_core ps))
  marks := fun q none => by
    have same : (z.latches a ps).marks q = z.marks q := by simp only [Yard.marks, latches_qpr]
    rw [readOn_marks (by rw [latches_qpr]; exact none), same]
  sampled := fun q bound accepted => by
    have stood := readOn_sampled (a := a) (b := b) (ts := ts) (z := z.latches a ps) (q := q) (by rw [latches_yds]; exact bound)
      (by rw [latches_qpr]; exact accepted)
    simp only [Yard.sampled, Yard.apart, latches_qpr, Prod.mk.injEq] at stood
    obtain ⟨record, entry, -⟩ := stood
    exact ⟨record, entry⟩

/-! ### An entry that is kept -/

/-- The record of a quantity that has taken a sample, after the reply. -/
theorem Yard.Stands.took {v : Int} {s : Source} (h : z.Stands y') (bound : z.yds.slotBound q = true)
    (took : (z.apart q).1.Took v s) : (y'.qpr.recs.get q).value = some v ∧ (y'.qpr.recs.get q).source = s ∧
      (y'.qpr.recs.get q).since = 0 ∧ (y'.qpr.recs.get q).base = (z.qpr.recs.get q).base := by
  obtain ⟨value, source, since, accepted⟩ := took
  have stood := (h.sampled q bound accepted).1
  simp only [QRec.standing, Prod.mk.injEq] at stood
  obtain ⟨value', source', since', base'⟩ := stood
  exact ⟨value'.trans value, source'.trans source, since'.trans since, base'⟩

/-- A meter with a register taken: it is the base where a record is open or the meter restarted, and of a restarted one the entry of
the open record is flagged (R139, R140). -/
structure Yard.Registered (w : Yard) (b : Bool) (m : Meter) (r : Nat) (z : Yard) : Prop where
  base : w.qpr.current ≠ none ∨ b = true → (z.apart (meterSlot m)).1.base = some r
  flagged : b = true → ∀ rec, w.qpr.current = some rec → ∃ en, (z.apart (meterSlot m)).2.1 = some en ∧ en.restart = true ∧
    en.estimated = true ∧ en.deltas = (rec.entries.get (meterSlot m)).deltas

theorem Yard.Registered.congr {r : Nat} (same : y.apart (meterSlot m) = z.apart (meterSlot m)) (h : w.Registered b m r z) :
    w.Registered b m r y := ⟨by rw [same]; exact h.base, by rw [same]; exact h.flagged⟩

theorem Yard.Registered.accepted {r : Nat} (high : r ≤ 999999) (rest : (z.apart (meterSlot m)).2 = (w.apart (meterSlot m)).2)
    (_ : (z.qpr.recs.get (meterSlot m)).base = (w.qpr.recs.get (meterSlot m)).base) :
    w.Registered b m r (acceptSample (meterSlot m) (r : Int) .live b z) where
  base := fun opened => (acceptSample_register (by omega) (by omega)).2 (opened.imp_left fun no hz => no ((apart_snd rest).1.1 hz))
  flagged := fun restarted rec hr => by
    subst restarted
    have here : (z.apart (meterSlot m)).2.1 = some (rec.entries.get (meterSlot m)) := by
      rw [rest]
      simp [Yard.apart, hr]
    exact acceptSample_restarted (by omega) (by omega) here

/-- An entry that is kept is taken by what hangs on its point. -/
theorem hand_takes (he : w.scs.entryAt a = some e) (mem : x ∈ es) (apart : es.Pairwise fun x z => x.channel ≠ z.channel)
    (sent : x.Sendable e.points) (kept : entryKept e x = true) (h : (es.foldl (handEntry a b) w).Stands y') :
    w.Takes y' e b x := by
  have yds : (es.foldl (handEntry a b) w).yds = w.yds := Yard.yds_of_still hand_still
  have own : e.address = a := Scs.entryAt_address he
  subst own
  have limits := sent.2
  refine ⟨fun kind v bound => ?_, fun kind d bound => ?_, fun kind d bound => ?_,
    fun kind good q src hq present feeds => ?_, fun kind good high m present hp => ?_,
    fun kind good high m present only => ?_, fun bad q present only none => ?_⟩
  · have told : (y'.mvs.valve v).reported = valveState x :=
      (congrFun (congrArg Prod.fst h.heard) v).trans (hand_valve he mem apart kept kind bound)
    rw [told]
    exact ⟨valveState_fault, fun sound => valveState_listed sound ((limits sound).1 kind)⟩
  · have told : (y'.dgu.districts.get d).boosterRep = boosterState x :=
      (congrFun (congrArg Prod.fst h.gauges) d).trans (hand_booster he mem apart kept kind bound)
    rw [told]
    exact ⟨boosterState_fault, fun sound => boosterState_listed sound ((limits sound).2 kind)⟩
  · exact (congrFun (congrArg Prod.snd h.gauges) d).trans (hand_governor he mem apart kept kind bound)
  · obtain ⟨value, source, since, -⟩ := h.took (by rw [yds]; exact Yds.feeds.bound feeds)
      (hand_measure (b := b) he mem apart kept kind good (Slot.meterOf_none hq) present feeds)
    exact ⟨value, source, since⟩
  · have bound : w.yds.slotBound (meterSlot m) = true := by simp [Yds.slotBound, hp]
    obtain ⟨took, base, marked⟩ := hand_register (b := b) he mem apart kept kind good high present hp
      (R := w.Registered b m x.raw.toNat) (fun _ _ => Yard.Registered.accepted (by omega)) fun _ _ => Yard.Registered.congr
    obtain ⟨value, source, since, base'⟩ := h.took (by rw [yds]; exact bound) took
    refine ⟨value, source, since, fun opened => base'.trans (base opened), fun restarted rec hr => ?_⟩
    obtain ⟨en, here, marks⟩ := marked restarted rec hr
    have stood := (h.sampled _ (by rw [yds]; exact bound) took.2.2.2).2.trans here
    obtain ⟨rec', hr', rfl⟩ := Option.map_eq_some_iff.1 stood
    exact ⟨rec', hr', marks⟩
  · intro r none
    have refused := hand_refused (b := b) he mem apart kept kind good high present only none
    have stood := h.marks (meterSlot m) (by rw [refused]; exact none)
    simp only [Yard.marks, QRec.marks, refused, Prod.mk.injEq] at stood
    obtain ⟨lastGood, base, clamps⟩ := stood
    exact ⟨lastGood, base, clamps⟩
  · have same := hand_unsampled (b := b) he mem apart (by simp [PointEntry.sample, bad]) only
    have stood := h.marks q (by rw [same]; exact none)
    simp only [Yard.marks, QRec.marks, same, Prod.mk.injEq] at stood
    obtain ⟨lastGood, base, clamps⟩ := stood
    exact ⟨lastGood, base, clamps⟩

/-- An entry that is not kept is passed over. -/
theorem hand_passed (he : w.scs.entryAt a = some e) (mem : x ∈ es) (apart : es.Pairwise fun x z => x.channel ≠ z.channel)
    (no : entryKept e x = false) (h : (es.foldl (handEntry a b) w).Stands y') : w.Passes y' e x := by
  have own : e.address = a := Scs.entryAt_address he
  subst own
  obtain ⟨valves, boosters, governors⟩ := hand_passes (b := b) he mem apart no
  refine ⟨fun v bound => (congrFun (congrArg Prod.fst h.heard) v).trans (valves v bound),
    fun d bound => (congrFun (congrArg Prod.fst h.gauges) d).trans (boosters d bound),
    fun d bound => (congrFun (congrArg Prod.snd h.gauges) d).trans (governors d bound), fun q present only none => ?_⟩
  have same := hand_unsampled (b := b) he mem apart (by simp [PointEntry.sample, no]) only
  have stood := h.marks q (by rw [same]; exact none)
  simp only [Yard.marks, QRec.marks, same, Prod.mk.injEq] at stood
  obtain ⟨lastGood, base, clamps⟩ := stood
  exact ⟨lastGood, base, clamps⟩

end

end Sys2Proof.Machine
end

section
/-! SUPPORT. A latched index that comes with the register of its meter (R147, R152). -/

namespace Sys2Proof.Machine

section
variable {y y' z w : Yard} {a : Nat} {e : Entry} {m n : Meter} {x : PointEntry} {es : List PointEntry}

/-- The yard holds of a meter what makes its latch of a reply take effect: the pending day waits for it and for another meter, the
current day is open, and no register has been seen yet in the reply but in the last one (R147, R152). -/
structure Yard.Latching (w : Yard) (m n : Meter) (reg : Option Nat) (d pd : MeterDay) : Prop where
  committed : w.yds.desc = .committed
  current : w.qpr.current ≠ none
  marker : w.qpr.markerAwaited = false
  waits : w.Waits n
  held : w.soa.ofMeter m = (⟨reg, none, none⟩, some d, some (false, pd), true)

/-- A register taken while the latch is still to be read: the delta is in the open accumulation. -/
theorem hand_delta {reg : Option Nat} {d pd : MeterDay} {base delta : Nat} (h : w.Latching m n reg d pd)
    (he : w.scs.entryAt a = some e) (mem : x ∈ es) (apart : es.Pairwise fun x z => x.channel ≠ z.channel)
    (kept : entryKept e x = true) (kind : e.points.get x.channel = some .meter) (good : x.status = .good)
    (high : x.raw.toNat ≤ 999999) (present : w.yds.slotPresent (meterSlot m) = true)
    (hp : (w.yds.bind.slots.get (meterSlot m)).primary = some ⟨a, x.channel⟩)
    (hb : (w.qpr.recs.get (meterSlot m)).base = some base) (hd : dialDelta x.raw.toNat base = delta)
    (jump : (delta : Int) ≤ (w.yds.subs.get (meterSlot m)).jump) :
    ((es.foldl (handEntry a false) w).apart (meterSlot m)).1.Took (x.raw.toNat : Int) .live ∧
    (es.foldl (handEntry a false) w).soa.ofMeter m = (⟨some x.raw.toNat, reg, some delta⟩,
      some { d with openAcc := d.openAcc + (delta : Int) * w.yds.meterFactor m }, some (false, pd), true) := by
  refine hand_register (R := fun z => z.soa.ofMeter m = _) he mem apart kept kind good high present hp (fun z yds rest base' => ?_)
    fun z z' same hz => (apart_snd (congrArg Prod.snd same)).2.2.trans hz
  obtain ⟨opened, marker, accounts⟩ := apart_snd rest
  have before : (z.soa.seen.get m).register = reg := by
    have seen := congrArg (fun u => u.1.register) (accounts.trans h.held)
    exact seen
  subst hd
  rw [acceptSample_delta (x := base) (d := d) (by omega) (by omega) (by rw [yds]; exact h.committed)
    (fun no => h.current (opened.1 no)) (base'.trans hb) (marker.trans h.marker) (by rw [yds]; exact jump)
    (by rw [accounts, h.held]), accounts, h.held, before, yds]
  rfl

/-- The part of a delta that the latch moves, as a number of mL. -/
theorem remainderPart_cast (l : Nat) (reg : Option Nat) (delta : Nat) : (remainderPart l reg delta : Int) =
    match reg with
    | some q => min (((l : Int) - q) % 1000000) delta
    | none => 0 := by
  cases reg with
  | none => rfl
  | some q =>
    simp only [remainderPart]
    omega

/-- The entries of a list, each with a number, are as distinct as the entries. -/
theorem pairwise_zip {ps : List PointEntry} {ls : List Nat} (le : ps.length ≤ ls.length)
    (apart : ps.Pairwise fun x z => x.channel ≠ z.channel) : (ps.zip ls).Pairwise fun u v => u.1.channel ≠ v.1.channel := by
  rw [← List.map_fst_zip le, List.pairwise_map] at apart
  exact apart

/-- The latch of a meter that comes with its register moves its part of the delta to the pending day (R152). -/
theorem hand_latched {reg : Option Nat} {d pd : MeterDay} {base delta index : Nat} {indices ts : List Nat} (h : w.Latching m n reg d pd)
    (he : w.scs.entryAt a = some e) (mem : (x, index) ∈ (meterEntries e.points es).zip indices)
    (count : (meterEntries e.points es).length ≤ indices.length)
    (apart : es.Pairwise fun x z => x.channel ≠ z.channel) (kept : entryKept e x = true) (good : x.status = .good)
    (high : x.raw.toNat ≤ 999999) (bound : w.yds.meterBound m = true)
    (own : ∀ k, (w.yds.bind.slots.get (meterSlot k)).primary = some ⟨a, x.channel⟩ ↔ k = m)
    (hb : (w.qpr.recs.get (meterSlot m)).base = some base) (hd : dialDelta x.raw.toNat base = delta)
    (jump : (delta : Int) ≤ (w.yds.subs.get (meterSlot m)).jump) (fresh : pd.latched = false)
    (elsewhere : ∀ pt, (w.yds.bind.slots.get (meterSlot n)).primary = some pt → pt.outstation ≠ a) :
    let part : Int := (remainderPart index reg delta : Int)
    (((es.foldl (handEntry a false) w).latches a ((meterEntries e.points es).zip indices)).readOn a false ts).soa.ofMeter m =
      (⟨some x.raw.toNat, reg, some delta⟩,
        some { d with openAcc := d.openAcc + (delta : Int) * w.yds.meterFactor m - part * w.yds.meterFactor m },
        some (false, { pd with remainder := pd.remainder + part * w.yds.meterFactor m, latched := true }), true) := by
  intro part
  obtain ⟨listed, -⟩ := List.of_mem_zip mem
  obtain ⟨mem', kind⟩ := List.mem_filter.1 listed
  have far (ch : Nat) : w.yds.meterAt ⟨a, ch⟩ ≠ some n := fun no => elsewhere _ (meterAt_primary no) rfl
  have ne : n ≠ m := by
    rintro rfl
    exact far x.channel (meterAt_own bound own)
  have present : w.yds.slotPresent (meterSlot m) = true := (Bool.and_eq_true_iff.1 bound).1
  have slot : w.yds.slotBound (meterSlot m) = true := (Bool.and_eq_true_iff.1 bound).2
  obtain ⟨took, held⟩ := hand_delta h he mem' apart kept (by simpa using kind) good high present ((own m).2 rfl) hb hd jump
  have yds : (es.foldl (handEntry a false) w).yds = w.yds := Yard.yds_of_still hand_still
  have waits : (es.foldl (handEntry a false) w).Waits n :=
    ⟨by rw [yds]; exact h.waits.bound, (foldl_keeps (·.latchOf n) (fun _ _ => handEntry_latchOf) es w).trans h.waits.unlatched⟩
  have taken := latches_taken (a := a) mem (pairwise_zip count (apart.sublist List.filter_sublist)) waits ne
    (by rw [yds]; exact far) (by rw [yds]; exact meterAt_own bound own) held fresh
  rw [yds] at taken
  have stood := readOn_sampled (a := a) (b := false) (ts := ts) (q := meterSlot m)
    (z := (es.foldl (handEntry a false) w).latches a ((meterEntries e.points es).zip indices))
    (by rw [latches_yds, yds]; exact slot)
    (by rw [latches_qpr]; exact took.2.2.2)
  simp only [Yard.sampled, Yard.apart, Slot.meterOf_meterSlot, Option.map_some, Prod.mk.injEq, Option.some.injEq] at stood
  obtain ⟨-, -, -, same⟩ := stood
  exact same.trans taken

end

end Sys2Proof.Machine
end

section
/-! O40: a good reply to a READ taken whole (R119, R120, R125, R136, R152). -/

namespace Sys2Proof.Machine

section
variable {y y' z w : Yard} {a now : Nat} {o : ExOutcome} {e : Entry} {b sleeping mended : Bool} {x : PointEntry} {v : ValuesReply}

/-- The yard after a good reply to a READ: its entries are handed on, then its latched indices, and the polls go on. -/
def Yard.valued (y : Yard) (now a : Nat) (mended : Bool) (points : Four (Option PointKind)) (v : ValuesReply) : Yard :=
  ((v.entries.foldl (handEntry a v.restarted) (y.reading now a (.good mended (.values v)) v.sleeping)).latches a
    ((meterEntries points v.entries).zip v.latched)).readOn a v.restarted y.scs.toPoll

theorem pointsAt_of (he : y.scs.entryAt a = some e) : y.scs.pointsAt a = e.points := by
  simp only [Scs.pointsAt, he]

theorem settle_values (he : y.scs.entryAt a = some e) :
    settle (scsOutcome (.frame (.read a)) (.good mended (.values v)) (y.answered now)) = y.valued now a mended e.points v := by
  have entry := reading_entry (now := now) (o := .good mended (.values v)) (sleeping := v.sleeping) he
  have points : (v.entries.foldl (handEntry a v.restarted) (y.reading now a (.good mended (.values v)) v.sleeping)).scs.pointsAt a =
      e.points :=
    (pointsAt_of (entryAt_still entry hand_still) :)
  rw [Yard.valued, ← points]
  rfl

theorem valued_stands (y : Yard) (now a : Nat) (mended : Bool) (points : Four (Option PointKind)) (v : ValuesReply) :
    (v.entries.foldl (handEntry a v.restarted) (y.reading now a (.good mended (.values v)) v.sleeping)).Stands
      (y.valued now a mended points v) := readOn_stands _ _

/-! ### The roster (R119, R120) -/

theorem valued_entry (he : y.scs.entryAt a = some e) : (y.valued now a mended e.points v).scs.entryAt a =
    some ((e.read (.good mended (.values v)) v.sleeping y.scs.cycle).checked v.restarted) :=
  readOn_entry (entryAt_still (entryAt_still (reading_entry he) hand_still) (still_of_core (latches_core _)))

/-- The roster entry after a good reply. -/
theorem read_counters (k : e.dyn.counters.outCorrections + v.corrections ≤ 65535) :
    (e.read (.good mended (.values v)) b now).dyn.counters.outCorrections = e.dyn.counters.outCorrections + v.corrections := by
  have kept : (e.read (.good mended (.values v)) b now).dyn.counters.outCorrections =
      saturateBy 65535 e.dyn.counters.outCorrections v.corrections := by cases mended <;> rfl
  rw [kept, saturateBy]
  split <;> omega

theorem read_discards (k : e.dyn.counters.outDiscards + v.discards ≤ 65535) :
    (e.read (.good mended (.values v)) b now).dyn.counters.outDiscards = e.dyn.counters.outDiscards + v.discards := by
  have kept : (e.read (.good mended (.values v)) b now).dyn.counters.outDiscards =
      saturateBy 65535 e.dyn.counters.outDiscards v.discards := by cases mended <;> rfl
  rw [kept, saturateBy]
  split <;> omega

/-! ### The notices (R119) -/

/-- The recovered outstations after the reply are those that were told as the poll ended. -/
theorem valued_recovered (points : Four (Option PointKind)) : (y.valued now a mended points v).heard.2 =
    (y.reading now a (.good mended (.values v)) v.sleeping).heard.2 :=
  (congrArg Prod.snd (valued_stands y now a mended points v).heard).trans (congrArg (fun x => x.2.2) hand_still)

/-! ### The entries (R120) -/

/-- What a poll that ends good changes: the line, the sequencer, the registers seen, and the notices. -/
theorem reading_frame (he : y.scs.entryAt a = some e) : y.reading now a o sleeping = { y with
    now := (y.reading now a o sleeping).now
    ylc := (y.reading now a o sleeping).ylc
    scs := (y.reading now a o sleeping).scs
    soa := (y.reading now a o sleeping).soa
    notices := (y.reading now a o sleeping).notices } := by
  rw [reading_eq he]
  split <;> rfl

/-- What an entry is taken for does not hang on the outcome of the poll. -/
theorem Yard.Takes.reading {cycle : Nat} (he : y.scs.entryAt a = some e)
    (h : (y.reading now a o sleeping).Takes y' (e.read o sleeping cycle) b x) : y.Takes y' e b x := by
  rw [reading_frame he] at h
  exact ⟨h.valve, h.booster, h.governor, h.measure, h.meter, h.refused, h.unread⟩

theorem Yard.Passes.reading {cycle : Nat} (he : y.scs.entryAt a = some e)
    (h : (y.reading now a o sleeping).Passes y' (e.read o sleeping cycle) x) : y.Passes y' e x := by
  rw [reading_frame he] at h
  exact ⟨h.valve, h.booster, h.governor, h.quantity⟩

theorem valued_takes (he : y.scs.entryAt a = some e) (mem : x ∈ v.entries)
    (apart : v.entries.Pairwise fun x z => x.channel ≠ z.channel) (sent : x.Sendable e.points) :
    (e.Keeps x → y.Takes (y.valued now a mended e.points v) e v.restarted x) ∧
    (¬e.Keeps x → y.Passes (y.valued now a mended e.points v) e x) := by
  have entry := reading_entry (now := now) (o := .good mended (.values v)) (sleeping := v.sleeping) he
  refine ⟨fun kept => .reading he (hand_takes entry mem apart sent (entryKept_iff.2 kept) (valued_stands ..)),
    fun no => .reading he (hand_passed entry mem apart ?_ (valued_stands ..))⟩
  exact Bool.eq_false_iff.2 fun kept => no (entryKept_iff.1 kept)

/-! ### A latched index (R152) -/

/-- The latch of a meter read with its register: its part moves from the open accumulation to the pending day. -/
theorem valued_latched {m n : Meter} {index base : Nat} {p : PendingDay} {day : Day} (he : y.scs.entryAt a = some e)
    (count : v.latched.length = (meterEntries e.points v.entries).length)
    (mem : (x, index) ∈ (meterEntries e.points v.entries).zip v.latched)
    (apart : v.entries.Pairwise fun x z => x.channel ≠ z.channel) (kept : e.Keeps x) (good : x.status = .good)
    (high : x.raw.toNat ≤ 999999) (running : v.restarted = false) (hc : y.yds.desc = .committed) (bound : y.yds.meterBound m = true)
    (own : ∀ k, (y.yds.bind.slots.get (meterSlot k)).primary = some ⟨a, x.channel⟩ ↔ k = m) (opened : y.qpr.current ≠ none)
    (marker : y.qpr.markerAwaited = false) (hb : (y.qpr.recs.get (meterSlot m)).base = some base)
    (jump : (dialDelta x.raw.toNat base : Int) ≤ (y.yds.subs.get (meterSlot m)).jump) (current : y.soa.current = some day)
    (pending : y.soa.pending = some p) (started : p.started = false) (out : y.soa.markerOut = true)
    (fresh : (p.day.meters.get m).latched = false) (other : y.yds.meterBound n = true) (waits : (p.day.meters.get n).latched = false)
    (elsewhere : ∀ pt, (y.yds.bind.slots.get (meterSlot n)).primary = some pt → pt.outstation ≠ a) :
    let part : Int := (remainderPart index (y.soa.seen.get m).register (dialDelta x.raw.toNat base) : Int)
    ∃ p' day', (y.valued now a mended e.points v).soa.pending = some p' ∧ (y.valued now a mended e.points v).soa.current = some day' ∧
      p'.day.meters.get m = { p.day.meters.get m with
        latched := true, remainder := (p.day.meters.get m).remainder + part * y.yds.meterFactor m } ∧
      (day'.meters.get m).openAcc = (day.meters.get m).openAcc + (dialDelta x.raw.toNat base - part) * y.yds.meterFactor m := by
  intro part
  obtain ⟨yds, -, -, qpr, -⟩ := reading_blocks (now := now) (o := .good mended (.values v)) (sleeping := v.sleeping) he
  have latching : (y.reading now a (.good mended (.values v)) v.sleeping).Latching m n (y.soa.seen.get m).register
      (day.meters.get m) (p.day.meters.get m) := {
    committed := by rw [yds]; exact hc
    current := by rw [qpr]; exact opened
    marker := by rw [qpr]; exact marker
    waits := ⟨by rw [yds]; exact other, by rw [reading_latchOf he]; simp [Yard.latchOf, pending, waits]⟩
    held := by rw [reading_ofMeter he]; simp [Soa.ofMeter, current, pending, started, out] }
  have held := hand_latched (ts := y.scs.toPoll) latching (reading_entry he) mem count.ge apart (entryKept_iff.2 kept) good high
    (by rw [yds]; exact bound) (by rw [yds]; exact own) (by rw [qpr]; exact hb) rfl (by rw [yds]; exact jump) fresh
    (by rw [yds]; exact elsewhere)
  rw [yds] at held
  have whole : y.valued now a mended e.points v =
      ((v.entries.foldl (handEntry a false) (y.reading now a (.good mended (.values v)) v.sleeping)).latches a
        ((meterEntries (e.read (.good mended (.values v)) v.sleeping y.scs.cycle).points v.entries).zip v.latched)).readOn a false
          y.scs.toPoll := by
    rw [Yard.valued, running]
    rfl
  rw [← whole] at held
  simp only [Soa.ofMeter, Prod.mk.injEq, Option.map_eq_some_iff] at held
  obtain ⟨-, ⟨day', current', today⟩, ⟨p', pending', -, yesterday⟩, -⟩ := held
  refine ⟨p', day', pending', current', yesterday, ?_⟩
  rw [today]
  show _ = _
  ring

end

end Sys2Proof.Machine
end

section
/-! O40: the clause of VALUES (R108, R119, R120, R136, R152). -/

namespace Sys2Proof.Machine

section
variable {y : Yard} {s : State} {moment t a now : Nat} {mended : Bool} {f : Flight} {e : Entry} {es : List PointEntry} {v : ValuesReply}

theorem PointEntry.bytes_length (x : PointEntry) : x.bytes.length = 4 := rfl

theorem values_length (flags corrections discards : Byte) (es : List PointEntry) (indices : List Nat) :
    (flags :: corrections :: discards :: (es.flatMap (·.bytes) ++ indices.flatMap (leBytes 3))).length =
      3 + 4 * es.length + 3 * indices.length := by
  have entries : (es.flatMap (·.bytes)).length = 4 * es.length := by
    rw [List.length_flatMap]
    simp [PointEntry.bytes_length, Nat.mul_comm]
  have latches : (indices.flatMap (leBytes 3)).length = 3 * indices.length := by
    rw [List.length_flatMap]
    simp [leBytes, Nat.mul_comm]
  simp only [List.length_cons, List.length_append, entries, latches]
  omega

/-- The roster entry and the notices after a good reply to a READ (R119, R120). -/
theorem valued_answers (he : y.scs.entryAt a = some e) :
    ∃ e', (y.valued now a mended e.points v).scs.entryAt a = some e' ∧ e'.points = e.points ∧ e'.dyn.misses = 0 ∧
      e'.dyn.lastGood = some y.scs.cycle ∧ e'.dyn.state = (if e.sleeper = true ∧ v.sleeping = true then .asleep else .live) ∧
      e'.dyn.identity = (if v.restarted = true then .unchecked else e.dyn.identity) ∧
      (e.dyn.counters.outCorrections + v.corrections ≤ 65535 →
        e'.dyn.counters.outCorrections = e.dyn.counters.outCorrections + v.corrections) ∧
      (e.dyn.counters.outDiscards + v.discards ≤ 65535 →
        e'.dyn.counters.outDiscards = e.dyn.counters.outDiscards + v.discards) ∧
      (e.dyn.state = .failed → y.notices.queue.length < 32 →
        ∃ n ∈ (y.valued now a mended e.points v).notices.queue, n.kind = .outstationRecovered ∧ n.object = a ∧ n.datum = a) ∧
      (e.dyn.state ≠ .failed → ∀ n ∈ (y.valued now a mended e.points v).notices.queue, n.kind = .outstationRecovered →
        n ∈ y.notices.queue) := by
  have recovered := valued_recovered (y := y) (now := now) (a := a) (mended := mended) (v := v) e.points
  refine ⟨_, valued_entry he, rfl, rfl, rfl, ?_, rfl, read_counters (b := v.sleeping) (now := y.scs.cycle),
    read_discards (b := v.sleeping) (now := y.scs.cycle), fun failed room => ?_, fun live n mem kind => ?_⟩
  · simp [Entry.checked, Entry.read, EntryDyn.good]
  · obtain ⟨n, mem, told⟩ := reading_recovers (now := now) (o := .good mended (.values v)) (sleeping := v.sleeping) he failed room
    rw [← recovered] at mem
    exact ⟨n, (List.mem_filter.1 mem).1, told⟩
  · have told : n ∈ (y.valued now a mended e.points v).heard.2 := List.mem_filter.2 ⟨mem, by simp [kind]⟩
    rw [recovered, reading_quiet he live] at told
    exact (List.mem_filter.1 told).1

/-- The bytes of VALUES in time, as an event of the core. -/
theorem exec_values {flags corrections discards : Byte} {restarted sleeping latched : Bool} {indices : List Nat}
    (count : indices.length = if latched then (meterEntries e.points es).length else 0) (small : ∀ l ∈ indices, l < 16777216)
    (on : s.powered = true) (receiving : s.yard.ylc.line = .receiving) (timer : s.yard.ylc.timer = some t)
    (flight : s.yard.ylc.flight = some f) (header : f.header = some (3 + 4 * es.length + 3 * indices.length, mended))
    (frame : f.exchange = .frame (.read a)) (intime : max s.yard.now moment ≤ t) (one : 1 ≤ es.length) (four : es.length ≤ 4)
    (sent : ∀ x ∈ es, x.Sendable e.points)
    (hf : flags.toNat = es.length + 8 * restarted.toNat + 16 * sleeping.toNat + 32 * latched.toNat)
    (he : s.yard.scs.entryAt a = some e) :
    let bytes := flags :: corrections :: discards :: (es.flatMap (·.bytes) ++ indices.flatMap (leBytes 3))
    exec (.replyComplete moment (bytes ++ crcBytes bytes)) s = concluded { s with
      yard := s.yard.valued (max s.yard.now moment) a mended e.points
        ⟨restarted, sleeping, latched, corrections.toNat, discards.toNat, es, indices⟩ } :=
  exec_reply on receiving timer flight header frame intime (values_length ..)
    ((congrArg (parseValues · _) (pointsAt_of he)).trans (parseValues_bytes sent one four hf count small)) (settle_values he)

end

end Sys2Proof.Machine
end

section
namespace Sys2Proof.Machine

/-- Settles O40, by the kind of the frame answered, and for an ORDER by its owner. -/
theorem replyTaken : Obligations.ReplyTaken := by
  intro s moment on y u now day period
  refine ⟨fun t f a mended kind points bytes e receiving timer flight header frame intime codes he =>
      reply_ident on receiving timer flight header frame intime codes he, ?_,
    fun t f mended code ch c receiving timer flight header frame intime hcode hch hl sent hc => ?_,
    fun t f a mended code l param value e receiving timer flight header frame intime hcode hl sent own he =>
      reply_load on receiving timer flight header frame intime hcode hl sent own he⟩
  · intro t f a mended flags corrections discards restarted sleeping latched es indices e metered count small receiving timer flight
      header frame intime one four low apart limits hf he bytes
    have listed : meterEntries e.points es = metered := List.filter_congr fun x _ => beq_eq_decide _ _
    have sent : ∀ x ∈ es, x.Sendable e.points := fun x hx => ⟨low x hx, limits x hx⟩
    have event := exec_values (es := es) (discards := discards) (corrections := corrections) (by rw [listed]; exact count) small on
      receiving timer flight header frame intime one four sent hf he
    obtain ⟨e', found, points, misses, lastGood, state, identity, corrected, discarded, recovers, quiet⟩ :=
      valued_answers (now := now) (mended := mended)
        (v := ⟨restarted, sleeping, latched, corrections.toNat, discards.toNat, es, indices⟩) he
    refine ⟨_, e', event, found, points, misses, lastGood, state, identity, corrected, discarded, recovers, quiet,
      fun x hx => valued_takes he hx apart (sent x hx), ?_⟩
    intro x index m n b p day mem kept good high running hc bound own opened marker hb delta jump current pending started out fresh
      other waits elsewhere part
    have latches : indices.length = metered.length := by
      cases latched with
      | true => exact count
      | false =>
        rw [List.eq_nil_of_length_eq_zero count, List.zip_nil_right] at mem
        cases mem
    have parted : part = _ := (remainderPart_cast index (y.soa.seen.get m).register (dialDelta x.raw.toNat b)).symm
    rw [parted]
    exact valued_latched he (by rw [listed]; exact latches) (by rw [listed]; exact mem) apart kept good high running hc bound own opened
      marker hb jump current pending started out fresh other waits elsewhere
  · intro bytes ok failed
    obtain ⟨y', l, w, hw, event, returned, stays⟩ := exec_acked on receiving timer flight header frame intime hcode hch hl sent
    have aside : y'.aside = y.aside := by
      cases h : ackReturns code.toNat c.sends with
      | some r => exact (returned r h).aside.trans (returnCommand_aside r)
      | none => exact (stays h).aside
    obtain ⟨yds, qpr, soa, hsu, gdc⟩ : y'.yds = y.yds ∧ y'.qpr = y.qpr ∧ y'.soa = y.soa ∧ y'.hsu = y.hsu ∧ y'.gdc = y.gdc := by
      simpa [Yard.aside] using aside
    refine ⟨y', event, yds, qpr, soa, hsu, gdc, fun again => ?_, fun last d own => ?_, fun last v own free => ?_,
      fun last v o before after own hh hb listed others lead => ?_, fun last d own run => ?_, fun last d own stop => ?_⟩
    · have goes := stays (ackReturns_failed again)
      obtain ⟨mvs, dgu, notices⟩ := goes.blocks
      have one := goes.commands
      rw [List.map_singleton, List.map_eq_singleton_iff] at one
      obtain ⟨c', listed, told⟩ := one
      simp only [Command.told, Command.mk.injEq] at told
      obtain ⟨-, -, code, value, owner, -⟩ := told
      exact ⟨⟨c', listed, code, value, owner⟩, mvs, dgu, notices⟩
    · have told {r : CmdOutcome} (hr : ackReturns code.toNat c.sends = some r) := acked_governor hc hw own (returned r hr)
      obtain ⟨r, hr⟩ := ackReturns_some hcode last
      refine ⟨(told hr).1, (told hr).2.1, fun good => ?_, fun o cause which => ?_⟩
      · obtain ⟨-, -, notices, dgu⟩ := told (ackReturns_ok good)
        exact ⟨notices, dgu⟩
      · obtain ⟨h4, rfl, rfl⟩ | ⟨h5, rfl, rfl⟩ | ⟨h23, rfl, rfl⟩ := which
        · obtain ⟨-, -, notices, dgu⟩ := told (ackReturns_local h4)
          exact ⟨notices, dgu⟩
        · obtain ⟨-, -, notices, dgu⟩ := told (ackReturns_refused h5)
          exact ⟨notices, dgu⟩
        · obtain ⟨-, -, notices, dgu⟩ := told (ackReturns_third h23 last)
          exact ⟨notices, dgu⟩
    · refine ⟨fun good => acked_delivered own (returned _ (ackReturns_ok good)),
        fun h4 => acked_local own free (returned _ (ackReturns_local h4)), fun bad => ?_⟩
      obtain ⟨r, hr, fails⟩ := ackReturns_fails bad last
      exact acked_failed own fails free (returned r hr)
    · intro r idle alone ended
      have waits : ∀ x ∈ before ++ after, x.holder = o.holder → x.state = .waiting := fun x hx e => ((others x hx).2 e).1
      refine ⟨fun good _ => (acked_delivered own (returned _ (ackReturns_ok good))).symm, fun bad => ?_, fun h4 can => ?_⟩
      · obtain ⟨x, hx, fails⟩ := ackReturns_fails bad last
        exact ⟨fun vs can => acked_working own fails hw hh hb waits rfl can (returned x hx),
          fun closing => acked_closing own fails listed hh hb closing others lead (returned x hx)⟩
      · refine acked_abandons own ?_ (returned _ (ackReturns_local h4))
        exact {
          committed := hc
          listed := listed
          numbers := fun x hx => (others x hx).1
          others := fun x hx => (others x hx).2
          lead := lead
          worked := hh
          bound := hb
          active := by
            obtain closing | ⟨vs, can⟩ := can
            · rw [closing]; rfl
            · exact can.active
          drawing := fun running draws => by
            obtain closing | ⟨vs, can⟩ := can
            · rw [closing] at running; cases running
            · exact can.drawing draws
          room := hw }
    · intro r
      obtain ⟨q, hq⟩ := ackReturns_some hcode last
      refine ⟨acked_booster own (returned q hq), fun feed good => ?_, fun feed bad => ?_, fun feed => ?_⟩
      · exact acked_run hc own run feed (returned _ (ackReturns_ok good))
      · obtain ⟨q, x, hq, hx, causes⟩ := ackReturns_booster hcode last bad
        obtain ⟨dgu, put, told⟩ := acked_runFails hc own run feed hw hx (returned q hq)
        exact ⟨dgu, put, fun cause tt av ht ha which => causes cause which ▸ told tt av ht ha⟩
      · exact acked_boosterIdle own (fun e => feed e.1) (by simp [run]) (returned q hq)
    · intro r
      obtain ⟨q, hq⟩ := ackReturns_some hcode last
      refine ⟨acked_booster own (returned q hq), fun feed good => ?_, fun feed bad => ?_, fun feed => ?_⟩
      · exact acked_stop hc own stop feed (returned _ (ackReturns_ok good))
      · obtain ⟨q, x, hq, hx, causes⟩ := ackReturns_booster hcode last bad
        obtain ⟨dgu, told⟩ := acked_stopFails hc own stop feed hx (returned q hq)
        exact ⟨dgu, fun cause which => causes cause which ▸ told⟩
      · exact acked_boosterIdle own (by simp [stop]) (fun e => feed e.1) (returned q hq)

end Sys2Proof.Machine
end
